-- ==== Sys2Proof/Word.lean ====
section
/-! DEFINITION. The word types of the block: 32-bit packet and register words, and octets (R405, R468). -/
namespace Sys2Proof

/-- A 32-bit word: packets, registers and descriptors are runs of them (R405, R434, R468). -/
abbrev Word := BitVec 32

/-- An octet of keep SRAM, of a frame or of an SPI transaction. -/
abbrev Byte := BitVec 8

/-- A finite map with numbers as keys: key and value pairs, keys strictly rising, so that equal maps are equal data. -/
abbrev AMap (α : Type) := List (Nat × α)

end Sys2Proof
end

