-- ==== Sys2Proof/Machine/Types/Graph.lean ====
section
/-! DEFINITION. Data of the dataflow graph and of its build area (R45 to R54). -/
namespace Sys2Proof.Machine

/-- An operation: its kind of Table 02-3, its port counts and its kind parameters (R48, R50, Table 02-4). -/
structure Op where
  kind : Nat
  nout : Nat
  nin : Nat
  params : List Word := []
  deriving DecidableEq, Repr

/-- An edge from an output port to an input port, with its delay in samples (R47, R49). -/
structure Edge where
  src : Nat
  sport : Nat
  dst : Nat
  dport : Nat
  delay : Nat := 0
  deriving DecidableEq, Repr

/-- Operations by op id, and edges in the order in which they were added. -/
structure Graph where
  ops : AMap Op := []
  edges : List Edge := []
  deriving DecidableEq, Repr

/-- The build area (R52). -/
structure Build where
  handle : Word
  ch : Nat
  graph : Graph := {}
  deriving DecidableEq, Repr

end Sys2Proof.Machine
end

