-- ==== Sys2Proof/Machine/Types/Protocol.lean ====
section
/-! DEFINITION. Data of the Damuri command protocol: packets, replies, channels and the event log (R405 to R433, R464, R465). -/
namespace Sys2Proof.Machine

/-- The status codes of Table 15-3 (R440). -/
inductive Status where
  | ok | okDuplicate | okQueued
  | badOpcode | badLength | badCheck | badHandle | badParam | noResource | busy | late | wrongState
  | notActive | tagConflict | tagStale | overBudget | partnerFault | signatureMismatch | internal
  deriving DecidableEq, Repr

/-- A refusal of a command: its status and detail (R427, R440, R441). -/
structure Deny where
  status : Status
  detail : Nat := 0
  deriving DecidableEq, Repr

/-- Timing classes of Table 02-5 (R63). -/
inductive Timing where
  | sample | quantum | untimed
  deriving DecidableEq, Repr

/-- A command packet as the interpreter takes it: the header of Table 14-1 without OPCODE, LENGTH and CHECK, which the
row's name and the parameter count give, and the parameter words from w4 on (R405, R434). -/
structure Packet where
  ch : Nat
  tag : BitVec 16 := 0
  noreply : Bool := false
  group : Bool := false
  more : Bool := false
  urgent : Bool := false
  handle : Word := 0
  apply : Word := 0
  params : List Word := []
  deriving DecidableEq, Repr

/-- A reply or notification (Table 14-2). Its CHECK is computed from these fields under R406. -/
structure Reply where
  op : Nat
  notify : Bool := false
  more : Bool := false
  loss : Bool := false
  tag : BitVec 16
  ch : Nat
  status : Status
  detail : Nat := 0
  time : Word := 0
  words : List Word := []
  deriving DecidableEq, Repr

/-- One entry of a channel's tag history (R425). -/
structure HistEntry where
  tag : BitVec 16
  check : Nat
  reply : Reply
  deriving DecidableEq, Repr

/-- An open chain of continued packets (R430, R431). -/
structure Chain where
  op : Nat
  handle : Word
  apply : Word
  packets : List Packet := []
  deriving DecidableEq, Repr

/-- An open safe-load set: its members in arrival order, and how many GROUP packets it refused (R65 to R70). -/
structure SafeSet where
  members : List (Nat × Packet) := []
  refused : Nat := 0
  deriving DecidableEq, Repr

/-- Why a channel's executing command still owes its reply (R428). -/
inductive Hold where
  /-- STATE_SAVE, DRAM_START's operating-point change: answered when it is complete. -/
  | reply
  | relay (op : Nat) (p : Packet) (sent : Nat)
  deriving DecidableEq, Repr

/-- A packet received and not yet taken by the interpreter: its words, the octets the transport gave it, the address and port (or
node) it came from, and the datagram that carried it (R412, R413, R416, R417). -/
structure Waiting where
  words : List Word
  octets : Nat
  source : Nat × Nat := (0, 0)
  gram : Nat := 0
  deriving DecidableEq, Repr

/-- Replies gathered for one datagram: destination address and port, the datagram they answer, and their words (R417). -/
structure Gather where
  addr : Nat
  port : Nat
  gram : Nat
  words : List Word
  deriving DecidableEq, Repr

/-- The SPI target: LOST, and what the last transaction shifted out on SPI_MISO: the status octet, the marker of a register read, and
the words after it (Tables 14-4 and 14-5). -/
structure Spi where
  lost : Bool := false
  status : Nat := 0
  marker : Nat := 0
  miso : List Word := []
  deriving DecidableEq, Repr

/-- A posted write that has not yet taken effect in its home domain: offset, value, and the tick of its acceptance (R472). -/
structure Posted where
  off : Nat
  value : Word
  since : Nat
  deriving DecidableEq, Repr

/-- One of the 16 command channels (Table 14-3). -/
structure Channel where
  /-- The channel takes packets (Table 14-3). -/
  enabled : Bool := false
  /-- REMOTE mode of a PCIe channel: node ID and in-band channel (R420). -/
  remote : Option (Nat × Nat) := none
  /-- Channels 9 to 12: IPv4 source filter; channels 13, 14: configured source node (R451). -/
  filter : Nat := 0
  /-- Notification address and port of a UDP channel (R417, R451). -/
  noteAddr : Nat := 0
  notePort : Nat := 0
  /-- The source of the last datagram accepted, or the in-band source heard (R417, R421). -/
  source : Option (Nat × Nat) := none
  /-- T_hi (R425). -/
  thi : Option (BitVec 16) := none
  /-- The tag history, newest first, at most 128 (R425). -/
  hist : List HistEntry := []
  chain : Option Chain := none
  set : Option SafeSet := none
  /-- Notifications held, oldest first, at most 256 (R408). -/
  notes : List Reply := []
  /-- Notifications were discarded since the last one sent (R408). -/
  loss : Bool := false
  /-- Replies and notifications given to the transport and not yet taken by it, oldest first. -/
  out : List Reply := []
  /-- Packets received and not yet taken by the interpreter, oldest first (R412, R417). -/
  waiting : List Waiting := []
  /-- Where the packet in execution came from: address and port, or node, and its datagram; replies gathered for that datagram; the
  number of the last datagram (R417, R421). -/
  peer : Nat × Nat × Nat := (0, 0, 0)
  gather : Option Gather := none
  grams : Nat := 0
  /-- The command in execution whose reply is still owed (R428). -/
  hold : Option Hold := none
  /-- A PCIe channel was disabled while a command executed: its reset follows the reply (R484). -/
  closing : Bool := false
  /-- Ring indices of a PCIe channel (R410, R484). -/
  chead : BitVec 16 := 0
  rprod : BitVec 16 := 0
  ctail : BitVec 16 := 0
  rcons : BitVec 16 := 0
  /-- The status block of a PCIe channel in host memory: command head and reply producer index as last written (R410, R484). -/
  status : BitVec 16 × BitVec 16 := (0, 0)
  deriving DecidableEq, Repr

/-- One event-log entry (R465). -/
structure LogEntry where
  code : Nat
  seq : Nat
  ns : Int
  index : Word
  values : List Word := []
  deriving DecidableEq, Repr

/-- An accepted change that waits for its index (R60 to R64). -/
structure Change where
  /-- The selected index. -/
  index : Int
  /-- Quantum-exact: it applies at the first boundary not earlier than the index (R63). -/
  quantum : Bool
  /-- Acceptance order (R62). -/
  order : Nat
  /-- It carried a nonzero apply time, so it counts under R61. -/
  timed : Bool
  op : Nat
  /-- The packet, or the packets of a chain in order (R430). -/
  packets : List Packet
  /-- Members of a committed safe-load set (R68). -/
  members : List (Nat × Packet) := []
  /-- Values fixed at acceptance, as the command's own text says. -/
  data : List Int := []
  /-- The graph of an accepted GRAPH_COMMIT (R53). -/
  graph : Option Graph := none
  deriving DecidableEq, Repr

end Sys2Proof.Machine
end

