-- ==== Sys2Proof/Machine/Types/Signal.lean ====
section
/-! DEFINITION. Gains that ramp and signals that crossfade (R135 to R141). -/
namespace Sys2Proof.Machine

/-- Crossfade curves (R135). -/
inductive Curve where
  | linear | power
  deriving DecidableEq, Repr

/-- A gain change from g0 to g1 over len samples from index start (R141). -/
structure Ramp where
  start : Int
  len : Nat
  g0 : Int
  g1 : Int
  deriving DecidableEq, Repr

/-- The changes of one gain, newest first; before the oldest the gain is a start value kept with it. -/
abbrev Track := List Ramp

/-- A crossfade to an incoming signal (R135 to R137). -/
structure Fade (α : Type) where
  start : Int
  len : Nat
  curve : Curve
  incoming : α
  /-- Of a change that waits for its start: its length, its curve is the default in force there (R138, R152). -/
  auto : Bool × Bool := (false, false)
  deriving DecidableEq, Repr

end Sys2Proof.Machine
end

