-- ==== Sys2Proof/Machine/Types/Reed.lean ====
section
/-! DEFINITION. State of the Reed operations (R222 to R230). -/
namespace Sys2Proof.Machine

/-- Past values of a biquad section (R223). -/
structure Sec where
  x1 : Int := 0
  x2 : Int := 0
  y1 : Int := 0
  y2 : Int := 0
  deriving DecidableEq, Repr

/-- State of the dynamics chain (R226). -/
structure Dyn where
  p : Int := 0
  g : Int := 0
  gateOpen : Bool := true
  /-- n_T of Table 07-4. -/
  lastOver : Int := 0
  /-- Lookahead lines, one a channel, newest first. -/
  look : List (List Int) := []
  side : List Sec := []
  deriving DecidableEq, Repr

/-- What a Reed operation holds between quanta, by kind. -/
inductive ReedMem where
  | none
  | biquads (secs : List Sec)
  | bands (secs : List (List Sec))
  /-- Past x and y of each first-order stage. -/
  | firstOrder (st : List (Int × Int))
  /-- Past inputs, newest first. -/
  | line (xs : List Int)
  | frac (hist : List Int) (t : Option Int)
  | dyn (d : Dyn)
  /-- A parameter that ramps at replacement: k, P or A (R222). -/
  | gain (base : Int) (t : Track)
  /-- Peaks or sums of squares of the open period, a channel each, and its sample count. -/
  | meter (acc : List Nat) (n : Nat)
  | loud (secs : List (List Sec)) (acc : List Nat)
  | tone (phase : Option Nat) (base : Int) (t : Track)
  /-- The input selected at the start, and the crossfades since, oldest first (R227). -/
  | switch (sel : Nat) (fades : List (Fade Nat))
  deriving DecidableEq, Repr

/-- A record that closed: the index at which its period ended, and its elements (R205, R228, R229, R463). -/
structure Record where
  index : Int
  elems : List (List Word)
  deriving DecidableEq, Repr

end Sys2Proof.Machine
end

