-- ==== Sys2Proof/Machine/Types/Audio.lean ====
section
/-! DEFINITION. Data of the audio engines: what is configured (the Sluice, the Serpent, the CVE, the Dike) and what they
hold between quanta (chapters 3 to 8). -/
namespace Sys2Proof.Machine

/-- A gain that can ramp: its value before the oldest change kept, and the changes (R141). -/
structure Gain where
  base : Int := 0
  track : Track := []
  deriving DecidableEq, Repr

/-! ### Sluice (chapter 4) -/

/-- A source with its gain on the way to a sink (R132). -/
structure RouteSide where
  src : Nat
  gain : Gain
  /-- From this index on the side gives 0: its source was lost at a graph replacement (R149). -/
  dead : Option Int := none
  deriving DecidableEq, Repr

/-- A sink: its route before the oldest crossfade kept, and the crossfades, oldest first; `none` is silence (R133 to R138). -/
structure Sink where
  route : Option RouteSide := none
  fades : List (Fade (Option RouteSide)) := []
  deriving DecidableEq, Repr

/-- A created bus: its headroom shift and the boundary of its release (R142, R144, R145). -/
structure Bus where
  shift : Nat
  release : Option Int := none
  deriving DecidableEq, Repr

/-- Routes, crosspoints, buses, gains and defaults. -/
structure Sluice where
  sinks : AMap Sink := []
  /-- Crosspoint gains by source × 2048 + bus. -/
  xpts : AMap Gain := []
  buses : AMap Bus := []
  /-- Channel gains of each GAIN operation. -/
  gains : AMap (List Gain) := []
  /-- Cells of each MATRIX operation by input × 64 + output port. -/
  cells : AMap (AMap Gain) := []
  /-- Defaults of FADE_PARAMS (R154). -/
  fadeLen : Nat := 64
  fadeCurve : Curve := .power
  rampLen : Nat := 64
  /-- Changes of the fade defaults that a quantum in flight can still reach: index, and length and curve before it, newest first
  (R152). -/
  fadePast : List (Int × Nat × Curve) := []
  deriving DecidableEq, Repr

/-! ### Serpent (chapter 3) -/

/-- A point or vector of the venue frame, in units of 1/64 mm. -/
structure Vec where
  x : Int
  y : Int
  z : Int
  deriving DecidableEq, Repr

/-- A loudspeaker of the layout (R77). -/
structure Speaker where
  pos : Vec
  zones : Word
  deriving DecidableEq, Repr

/-- A triangle of the mesh (R78). -/
structure Tri where
  a : Nat
  b : Nat
  c : Nat
  deriving DecidableEq, Repr

/-- A trajectory segment (R88). -/
structure Segment where
  t0 : Int
  len : Nat
  p0 : Vec
  p1 : Vec
  m0 : Vec
  m1 : Vec
  deriving DecidableEq, Repr

/-- A queued segment: it is in force from `start` on, up to its end or before `cut` (R90, R92, R569). -/
structure Queued where
  seg : Segment
  start : Int
  cut : Option Int := none
  deriving DecidableEq, Repr

/-- Parameters of an object (Table 03-5), with its zone mask and the speed of sound that reaches it. -/
structure ObjSet where
  gain : Int := 0x10000000
  spread : Nat := 0
  fmax : Nat := 32
  amplitude : Bool := false
  delayEn : Bool := true
  distLaw : Bool := false
  rref : Nat := 64000
  doff : Nat := 0
  zones : Word := 0xFFFFFFFF
  speed : Nat := 0x01570000
  deriving DecidableEq, Repr

/-- A change to an object's settings: OBJECT_PARAMS, ZONE_MASK, SOUND_SPEED. -/
inductive ObjChange where
  | params (p : ObjSet)
  | zones (m : Word)
  | speed (c : Nat)
  deriving DecidableEq, Repr

/-- An object. -/
structure ObjCfg where
  handle : Word
  /-- The boundary at which it is created (R86). -/
  created : Int
  /-- The position that it holds before its queue moves it (R93). -/
  base : Vec
  /-- Segments in order of start. -/
  queue : List Queued := []
  /-- The settings before the oldest change kept, and the changes by index, rising; at one index in order of acceptance. -/
  set : ObjSet
  changes : List (Int × ObjChange) := []
  /-- The boundary of its release (R87). -/
  release : Option Int := none
  deriving DecidableEq, Repr

/-- Layout, mesh and objects. -/
structure SerpentCfg where
  layout : List Speaker := []
  mesh : List Tri := []
  /-- The C in use (R80). -/
  centre : Vec := ⟨0, 0, 0⟩
  objs : AMap ObjCfg := []
  /-- Objects whose creation is accepted and has not taken effect (R86). -/
  coming : AMap ObjCfg := []
  speed : Nat := 0x01570000
  deriving DecidableEq, Repr

/-- A tap's gain in Q4.28 and delay in Q13.19 at the last sample of a leg (R109, R110). -/
structure Tap where
  g : Int := 0
  tau : Int := 0
  deriving DecidableEq, Repr

/-- The last quantum-end evaluation of an object (R120). -/
structure Evaluation where
  index : Int
  pos : Vec
  offMesh : Bool := false
  range : Bool := false
  slew : Bool := false
  empty : Bool := false
  holding : Bool := false
  queued : Nat := 0
  /-- Footprint loudspeakers with their gain and delay at the evaluation, rising. -/
  taps : List (Nat × Tap) := []
  deriving DecidableEq, Repr

/-- What an object holds between quanta. -/
structure ObjMem where
  /-- The taps by loudspeaker: the footprint of the last quantum. -/
  taps : AMap Tap := []
  /-- The direction of the last evaluation at which |v| was at least 64 units (R99). -/
  dir : Vec := ⟨0, 0, 1⟩
  last : Option Evaluation := none
  /-- History in S7.24, newest first, and the op id of the operation that fills it (R83, R113). -/
  hist : List Int := []
  op : Option Nat := none
  /-- The object it belongs to. -/
  handle : Word := 0
  deriving DecidableEq, Repr

/-! ### Convolution (chapter 5) -/

/-- A filter: its taps, and by tier T64, T256, T1024 the partitions' coefficient spectra with their exponents (R164, R165). -/
structure Filter where
  taps : List Int
  tiers : List (List (Int × List (Int × Int)))
  deriving DecidableEq, Repr

/-- A staging slot (Table 05-2). -/
inductive SlotPhase where
  | loading | prepared | swapping
  deriving DecidableEq, Repr

/-- A staging slot in use: the operation it is for, its handle, its tap count and the taps written. -/
structure Slot where
  handle : Word
  op : Nat
  count : Nat
  taps : AMap Int := []
  filter : Option Filter := none
  phase : SlotPhase := .loading
  deriving DecidableEq, Repr

/-- A swap that was accepted (R174 to R180): its slot and filter, none to PASS, its index and crossfade. -/
structure Swap where
  slot : Option Word
  filter : Option Filter
  /-- Channel and tag of the command, for APPLY_DROPPED. -/
  ch : Nat
  tag : Nat
  index : Int
  len : Nat
  curve : Curve
  deriving DecidableEq, Repr

/-- What a CONVOLVE operation runs: the filter in force, none in PASS, and the swap under way. -/
structure ConvCfg where
  filter : Option Filter := none
  swap : Option Swap := none
  /-- A swap accepted after the crossfade of `swap` ended and before its last quantum was computed (R178). -/
  after : Option Swap := none
  /-- Slots of swaps that ended and whose copies are still running, oldest first (R177). -/
  copying : List Word := []
  /-- Index of the current or last swap (Table 05-5). -/
  lastSwap : Int := 0
  deriving DecidableEq, Repr

/-- A tier's block spectra, newest first, with their block numbers; the blocks whose job is complete; the blocks whose
output was not complete when it was needed (R163, R167, R186). -/
structure Tier where
  spectra : List (Int × (List (Int × Int) × Int)) := []
  done : List Int := []
  missed : List Int := []
  deriving DecidableEq, Repr

/-! ### Dike (chapter 6) -/

/-- Settings of a Dike channel that change at an index without a ramp. -/
structure DikeSet where
  ceil : Int := 0x3FFFFFFF
  limEn : Bool := true
  release : Nat := 500
  defRamp : Nat := 64
  dithEn : Bool := true
  muteZero : Bool := true
  seed : Nat
  deriving DecidableEq, Repr

/-- A Dike channel bound in the current graph (R188, R200). -/
structure DikeChan where
  la : Nat
  width : Nat
  dly : Bool
  trim : Gain := ⟨0x10000000, []⟩
  /-- Settings by the index from which they are in force, newest first; never empty. -/
  sets : List (Int × DikeSet)
  /-- The kept mute state and the mute gain in Q2.30. -/
  muted : Bool := true
  mute : Gain := {}
  /-- D_out before the oldest change kept, and the delay crossfades, oldest first (R198). -/
  delay : Nat := 0
  fades : List (Fade Nat) := []
  deriving DecidableEq, Repr

/-- What a Dike channel holds between quanta. -/
structure DikeMem where
  /-- La, W and DLY under which it ran (R200). -/
  la : Nat
  width : Nat
  dly : Bool
  /-- Trimmed samples a, newest first (R193). -/
  line : List Int := []
  /-- Limiter gain g(n − 1), Q2.30. -/
  g : Int := 2 ^ 30
  /-- Delay line q, newest first (R197). -/
  delay : List Int := []
  /-- Outputs v of the true-peak kernel's reach, newest first (R206). -/
  vs : List Int := []
  /-- Meter accumulators: peak, true peak, sum of squares, samples, least gain, clips (R205). -/
  peak : Nat := 0
  truePeak : Nat := 0
  squares : Nat := 0
  count : Nat := 0
  minG : Nat := 2 ^ 30
  clips : Nat := 0
  /-- Mute gain at the last index. -/
  mgain : Int := 0
  deriving DecidableEq, Repr

/-! ### Operations between quanta -/

/-- What an operation holds, by engine. -/
inductive OpState where
  | reed (m : ReedMem)
  /-- CONVOLVE: the first index it ran, input history newest first, and the tiers T64, T256, T1024. -/
  | conv (start : Int) (hist : List Int) (tiers : List Tier)
  /-- DIKE: its channels in port order. -/
  | dike (chans : List DikeMem)
  | plain
  deriving DecidableEq, Repr

/-- An operation's state with the definition under which it ran last and the ordinal of the quantum it ran in. -/
structure OpMem where
  last : Nat
  op : Op
  st : OpState
  deriving DecidableEq, Repr

/-! ### The graph in force and all that is configured -/

/-- A cancellation of an operation: its first boundary and the boundary of resumption (R249, R251). -/
structure Cancel where
  op : Nat
  from_ : Int
  until_ : Int
  /-- Channel and tag of the command, for APPLY_DROPPED. -/
  ch : Nat
  tag : Nat
  deriving DecidableEq, Repr

/-- An admitted graph with what admission fixed: rank and Reed cluster by op id, delay-list entries, loads by resource. -/
structure Admitted where
  graph : Graph
  ranks : AMap Nat := []
  clusters : AMap Nat := []
  delayEntries : Nat := 0
  loads : List Nat := []
  deriving DecidableEq, Repr

/-- Everything the engines are configured with. -/
structure Cfg where
  graph : Option Admitted := none
  sluice : Sluice := {}
  serpent : SerpentCfg := {}
  conv : AMap ConvCfg := []
  dike : AMap DikeChan := []
  cancels : List Cancel := []
  /-- Stop ramps: the boundary at which they begin and the boundary at which zeros follow (R201). -/
  stopRamp : Option (Int × Int) := none
  deriving DecidableEq, Repr

/-! ### The scheduler (chapter 8) -/

/-- An instance of a quantum: an operation, a Sluice pass, an FFT tier job. -/
inductive Inst where
  | op (id : Nat)
  | pass (p : Nat)
  | tier (id tier : Nat) (block : Int)
  deriving DecidableEq, Repr

/-- An entry of a ready list: list 0 to 5 Reed clusters, 6 CVE, 7 Serpent, 8 Sluice, 9 Dike (R236). -/
structure ReadyEntry where
  list : Nat
  /-- Index at whose start it is due. -/
  due : Int
  rank : Nat
  opId : Nat
  k : Int
  inst : Inst
  deriving DecidableEq, Repr

/-- A dispatched instance: its list, its core within a Reed cluster, whether it is executing, when it began to and when it was
dispatched. -/
structure Dispatched where
  entry : ReadyEntry
  core : Nat := 0
  executing : Bool := true
  began : Nat := 0
  since : Nat := 0
  deriving DecidableEq, Repr

/-- The delay-list entry of an FFT tier: its next job's block, the index at which that job is released and the one at which it is
due, and whether the job is released and not complete (R163, R242, R243). -/
structure DelayEntry where
  op : Nat
  tier : Nat
  block : Int
  release : Int
  due : Int
  out : Bool := false
  deriving DecidableEq, Repr

/-- A quantum in flight (R241): its number, its ordinal since the start, how far labels have moved since it was captured (R36), its
configuration, whether its sinks have been judged, the instances that wait for a dependency, all that are incomplete, the outputs of
the operations, the bus outputs by source, and the feeds' sums. -/
structure QRun where
  k : Int
  ord : Nat
  shift : Int := 0
  cfg : Cfg
  judged : Bool := false
  todo : List Inst := []
  open_ : List Inst := []
  outs : AMap (List (List Int)) := []
  sources : AMap (List Int) := []
  feeds : AMap (List Int) := []
  /-- Objects that no operation renders in the quantum and that are still to be evaluated for it (R85, R96). -/
  evals : List Nat := []
  /-- The Dike's meter period ends with the quantum (R205). -/
  closes : Bool := false
  deriving DecidableEq, Repr

/-- A sink's run of missed quanta: the position of its first sample, the sink's last value before, and the position of the first
sample after it (R247). -/
structure MissRun where
  start : Int
  last : Int
  resume : Option Int := none
  deriving DecidableEq, Repr

/-- The line of a delayed edge: the ordinal from which it holds samples, and the samples of the quanta by ordinal (R49). -/
structure Line where
  edge : Edge
  from_ : Nat
  chunks : AMap (List Int) := []
  deriving DecidableEq, Repr

/-- The scheduler and the engines between quanta. -/
structure Audio where
  /-- Quanta in flight, oldest first. -/
  runs : List QRun := []
  /-- Ordinal and number of the next quantum to run. -/
  ord : Nat := 0
  next : Option Int := none
  /-- A step of labels that the next quantum has not reached: its boundary in old labels, and its samples (R36). -/
  relabel : Option (Int × Int) := none
  /-- The exponent of the meter period in force (R205). -/
  mper : Nat := 0
  /-- The last tick served (R243). -/
  tick : Int := 0
  ready : List ReadyEntry := []
  bitmap : List ReadyEntry := []
  slots : List Dispatched := []
  delays : List DelayEntry := []
  /-- Operation state by op id. -/
  mem : AMap OpMem := []
  objs : AMap ObjMem := []
  lines : List Line := []
  /-- Input rings: samples by source key, (index, value), newest first. -/
  rings : AMap (List (Int × Int)) := []
  /-- Output rings: samples by sink key. -/
  outs : AMap (List (Int × Int)) := []
  /-- Runs of missed quanta, and the last value, by sink key. -/
  misses : AMap MissRun := []
  lastOut : AMap Int := []
  /-- Output port buffers in graph buffer memory: samples by port × 128 + slot, by op id (R46, R478). -/
  bufs : AMap (AMap Int) := []
  slotsConv : AMap Slot := []
  deriving DecidableEq, Repr

end Sys2Proof.Machine
end

