-- ==== Sys2Proof/Machine/Types/Time.lean ====
section
/-! DEFINITION. Data of the clock and time unit: counter, time model, servo, PTP port and media clock (chapter 10). -/
namespace Sys2Proof.Machine

/-- Servo states of Table 10-2 (R298). -/
inductive ServoState where
  | free | acquire | locked | holdover | far
  deriving DecidableEq, Repr

/-- Time sources of Table 10-1 (R294). -/
inductive TimeSource where
  | free | ptp | pps | wclk | mclk
  deriving DecidableEq, Repr

/-- PTP port states, in the order of Table 10-3 (R301). -/
inductive PtpState where
  | initializing | listening | uncalibrated | slave | passive | master | preMaster | faulty | disabled
  deriving DecidableEq, Repr

/-- A step of device time accepted while RUNNING, applied at the next quantum boundary (R36, R299, R300). -/
structure PendingStep where
  /-- Change of device time, units of 2^-32 ns. -/
  delta : Int
  /-- First index of the boundary at which it applies. -/
  boundary : Int
  deriving DecidableEq, Repr

/-- An event of the time sources that the servo follows, or a time set by the host (R293, R298, R300). -/
inductive SourceEvent where
  /-- The source is lost. -/
  | lost
  /-- PTP follows a new parent. -/
  | newMaster
  /-- TIME_CONFIG selects a source, with an MCLK input and its multiple's code. -/
  | select (src : TimeSource) (mclk mul : Nat)
  /-- TIME_CONFIG sets the time: the change of device time as of its acceptance, units of 2^-32 ns. -/
  | set (delta : Int)
  deriving DecidableEq, Repr

/-- The servo (R296 to R300). Phases are in units of 2^-32 ns. -/
structure Servo where
  state : ServoState := .free
  /-- Integral term, a fractional frequency. -/
  integral : Rat := 0
  /-- Proportional term of the last accepted measurement. -/
  prop : Rat := 0
  /-- Last accepted phase. -/
  theta : Int := 0
  /-- Device time of the last accepted measurement. -/
  lastAt : Option Int := none
  /-- Accepted measurements in a row below 250 ns. -/
  good : Nat := 0
  /-- Discarded measurements in a row (R297). -/
  bad : Nat := 0
  /-- The next accepted measurement is the first of a new or regained source (R299). -/
  fresh : Bool := true
  /-- A source has been accepted since COLD reset (R308). -/
  everAccepted : Bool := false
  /-- R held at a bound (R291). -/
  rlim : Bool := false
  /-- The rate before the 20 ppm offset of FAR (R298). -/
  baseRate : Nat := 2 ^ 46
  step : Option PendingStep := none
  /-- Source events that wait for the pending step, oldest first (R300). -/
  waiting : List SourceEvent := []
  deriving DecidableEq, Repr

/-- An Announce message's data set (IEEE 1588-2008 via R301). -/
structure PtpAnnounce where
  prio1 : Nat := 128
  cls : Nat := 248
  accuracy : Nat := 0xFE
  variance : Nat := 0xFFFF
  prio2 : Nat := 128
  gm : Nat := 0
  steps : Nat := 0
  deriving DecidableEq, Repr

/-- The header fields of a received PTP message that the port looks at (R301, R305). -/
structure PtpHeader where
  version : Nat := 2
  domain : Nat := 0
  /-- sourcePortIdentity: clockIdentity and port number. -/
  clock : Nat := 0
  port : Nat := 1
  seq : Nat := 0
  deriving DecidableEq, Repr

/-- A foreign master on record: its identity, last data set, and receipt times of its Announces, newest first (R301). -/
structure PtpForeign where
  clock : Nat
  port : Nat
  data : PtpAnnounce
  heard : List Nat := []
  deriving DecidableEq, Repr

/-- A Sync waiting for its Follow_Up (R305). -/
structure PtpPending where
  clock : Nat
  port : Nat
  seq : Nat
  t2 : Int
  correction : Int
  at_ : Nat
  deriving DecidableEq, Repr

/-- The PTP port (R301 to R305). -/
structure PtpPort where
  enabled : Bool := false
  /-- A PTP_CONFIG has named the MAC (R317). -/
  named : Bool := false
  mac : Nat := 0
  profile : Nat := 0
  slaveOnly : Bool := false
  unicast : Bool := false
  domain : Nat := 0
  prio1 : Nat := 0
  prio2 : Nat := 0
  classLock : Nat := 0
  classHold : Nat := 0
  accuracy : Nat := 0
  variance : Nat := 0
  logSync : Int := -3
  logAnnounce : Int := 1
  logDelayReq : Int := 0
  timeout : Nat := 3
  asymmetry : Int := 0
  state : PtpState := .disabled
  /-- Time at which the port entered its present state, in environment ticks. -/
  since : Nat := 0
  parent : Option (Nat × Nat) := none
  parentData : PtpAnnounce := {}
  foreign : List PtpForeign := []
  pending : Option PtpPending := none
  lastSyncSeq : Option Nat := none
  lastAnnSeq : Option Nat := none
  /-- Environment ticks of the last Announce and the last complete Sync exchange from the parent (R303). -/
  lastAnnAt : Nat := 0
  lastSyncAt : Nat := 0
  /-- An outstanding Delay_Req: sequenceId, and t3 once its frame has started (R24). -/
  delayReq : Option (Nat × Option Int) := none
  /-- Last Sync's t2 − t1, which a path-delay exchange needs. -/
  lastOffset : Option Int := none
  /-- t1 and t2 of the parent's last Sync exchanges, newest first, at most 2, which give its measured rate (R295). -/
  syncs : List (Int × Int) := []
  /-- The last delays within the outlier limit of the mean, newest first, at most 8 (R304). -/
  delays : List Int := []
  meanDelay : Int := 0
  /-- Sequence numbers of sent Sync, Announce and Delay_Req messages. -/
  syncSeq : Nat := 0
  annSeq : Nat := 0
  reqSeq : Nat := 0
  /-- Environment ticks of the last Sync, Announce and Delay_Req sent. -/
  syncSentAt : Option Nat := none
  annSentAt : Option Nat := none
  reqSentAt : Option Nat := none
  /-- Delay_Req answers given in the running second: its first tick and their count (Table 10-3). -/
  answerFrom : Nat := 0
  answered : Nat := 0
  deriving DecidableEq, Repr

/-- A PTP message the port has sent, as an outside observer sees it (R301 to R303). -/
inductive PtpSent where
  | sync (seq : Nat)
  | followUp (seq : Nat) (t1 : Int)
  | announce (seq : Nat) (data : PtpAnnounce)
  | delayReq (seq : Nat) (unicast : Bool)
  | delayResp (seq : Nat) (clock port : Nat) (t4 : Int)
  deriving DecidableEq, Repr

/-- The clock and time unit. -/
structure TimeUnit where
  /-- The system counter's raw count r (R289, R292). -/
  raw : Nat := 0
  /-- The offset O, units of 2^-32 ns (R289). -/
  offset : Int := 0
  /-- The rate R, 1.0 is 2^46 (R289). -/
  rate : Nat := 2 ^ 46
  /-- The media origin T0 in ns (R34). -/
  origin : Int := 0
  source : TimeSource := .free
  mclkIn : Nat := 0
  mclkMul : Nat := 0
  stepRun : Bool := false
  /-- Loop bandwidth code of R311, 2 = 0.1 Hz. -/
  bandwidth : Nat := 2
  /-- Outlier limit in µs (R297). -/
  outlier : Nat := 10
  /-- A source TIME_CONFIG named and R295 rejected. -/
  rejected : Option TimeSource := none
  servo : Servo := {}
  ptp : PtpPort := {}
  /-- PTP messages sent and not yet taken by the network, oldest first. -/
  ptpOut : List PtpSent := []
  /-- REFCLK lost (R309). -/
  refLost : Bool := false
  /-- The environment tick from which REFCLK edges are counted by the millisecond, and the counts judged since (R314, R450). -/
  refFrom : Nat := 0
  refSeen : Nat := 0
  /-- The raw counter runs: PLL_CNT has locked (R292). -/
  counting : Bool := false
  /-- PLL locks: bit 0 PLL_CORE, 1 PLL_FAB, 2 PLL_CTRL, 3 PLL_CNT, 4 PLL_DRAM (Table 10-8). -/
  locks : List Bool := [false, false, false, false, false]
  /-- Clock-good of the domains of Table 01-5, one bit each (Table 10-8). -/
  good : Word := 0
  /-- Synthesisers MCG0 to MCG12 locked (Table 10-8). -/
  mcg : Word := 0
  /-- WCLK_OUT mode in force, and one that waits for its period (R307). -/
  wclkMode : Nat := 0
  wclkNext : Option (Nat × Int) := none
  /-- PPS_OUT enable and width in force, and a change that waits for the next whole second (R308). -/
  ppsEnable : Bool := false
  ppsWidth : Nat := 100000
  ppsNext : Option (Bool × Nat) := none
  /-- Device time in ns at which PPS_OUT last rose; it is high for the width from there (R308). -/
  ppsRose : Option Int := none
  /-- The last whole second at which PPS_OUT was worked (R308). -/
  ppsSecond : Int := 0
  /-- Device times of the last edges of PPS_IN (key 0), and of the last block ends of WCLK_IN (1) and MCLK_IN0 to
  MCLK_IN3 (2 to 5), newest first, at most 5 (R294, R295). -/
  edges : AMap (List Int) := []
  /-- Environment ticks at which the present source was selected or last gave an edge (R294). -/
  sourceSeen : Nat := 0
  /-- Snapshot registers: valid, raw, device time, media index (Table 10-9). -/
  snapValid : Bool := false
  snapRaw : Nat := 0
  snapTime : Int := 0
  snapIndex : Int := 0
  /-- Device time of the last PPS_IN edge, and the edge count (Table 10-9). -/
  ppsTime : Int := 0
  ppsCount : Nat := 0
  deriving DecidableEq, Repr

end Sys2Proof.Machine
end

