-- ==== Sys2Proof/Machine/Types/Ports.lean ====
section
/-! DEFINITION. Data of the serial audio ports, the host audio taps, the media network and the Zenel Link (chapters 9, 11, 12). -/
namespace Sys2Proof.Machine

/-! ### Serial audio ports -/

/-- Group states of Table 09-9 (R271). -/
inductive SapState where
  | off | armed | quiet | run | stopped | ratehold | rejoin | closing
  deriving DecidableEq, Repr

/-- A witness entry (R273, R274). -/
structure Witness where
  index : Int
  ns : Int
  gap : Bool
  deriving DecidableEq, Repr

/-- A witness unit's FIFO, oldest first, and whether entries were discarded since the last stored. -/
structure WitnessUnit where
  fifo : List Witness := []
  lost : Bool := false
  /-- Group and FS edge of the frame recorded last. -/
  last : Option (Nat × Nat) := none
  deriving DecidableEq, Repr

/-- What a transmit ball carries for a frame: high impedance, low, or the words of its slots (R257, R272, R276). -/
inductive Drive where
  | hiZ
  | low
  | words (ws : List Int)
  deriving DecidableEq, Repr

/-- A serial audio group (R254 to R280). -/
structure SapGroup where
  cfg0 : Word := 0
  cfg1 : Word := 0x1000
  state : SapState := .off
  /-- Alignment set. -/
  set : Option Nat := none
  /-- The boundary at which SAP_STOP disables data, from its acceptance at that boundary on (R269). -/
  closeAt : Int := 0
  /-- The state that CLOSING followed. -/
  was : SapState := .off
  /-- The boundary from which a rejoined group carries data (R277). -/
  from_ : Option Int := none
  /-- Label of the last frame (R263). -/
  label : Option Int := none
  /-- Environment tick of the last frame's FS edge. -/
  edge : Nat := 0
  /-- The frame labelled last is in progress, not over; the device is fenced in it (R272, R372). -/
  inFrame : Bool := false
  fenced : Bool := false
  /-- Periods of the good frames in a row in REJOIN, newest first, at most 64, and the boundary at which data is enabled (R277). -/
  good : List Nat := []
  enableAt : Option Int := none
  /-- The frame in progress is affected by a glitch. -/
  glitched : Bool := false
  /-- A slip that repeats a label: transmit ports send zeros in this frame (R264). -/
  repeated : Bool := false
  /-- Ports starved or overrun now (SAPG_STATUS.XRUN). -/
  xrun : Nat := 0
  /-- What the transmit balls of ports 4g to 4g + 3 carry for the last frame and for the one before it, whose last bits lie in the first
  OFFSET cycles of the last (R257). -/
  balls : List Drive := [.hiZ, .hiZ, .hiZ, .hiZ]
  tails : List Drive := [.hiZ, .hiZ, .hiZ, .hiZ]
  deriving DecidableEq, Repr

/-- An alignment set (R265 to R268). -/
structure SapSet where
  /-- It waits for START_IN. -/
  waiting : Bool := false
  startOut : Bool := false
  qsMax : Nat := 0
  nc : Int := 0
  nd : Int := 0
  /-- n_d has been reached. -/
  enabled : Bool := false
  /-- The packet that armed it. -/
  arm : Option Packet := none
  deriving DecidableEq, Repr

/-- A host audio tap stream (R283 to R286). -/
structure TapStream where
  count : Nat
  pack : Nat
  base : Nat
  blocks : Nat
  deriving DecidableEq, Repr

/-- A block written towards host memory: its address, and its words with the header (R284, R285). -/
structure TapBlock where
  addr : Nat
  words : List Word
  deriving DecidableEq, Repr

/-- A frame of a group as its framer sees it: the environment tick of its FS edge (or where the framer ran on), whether there
was an edge, the BCLK cycles it had, its length in units of 0.125 ns, and the glitch periods in it (R257, R275, R278). -/
structure SapFrame where
  edge : Nat
  had : Bool := true
  cycles : Nat
  period : Nat
  glitches : Nat := 0
  deriving DecidableEq, Repr

/-- Serial audio ports and taps. -/
structure Sap where
  groups : AMap SapGroup := []
  sets : AMap SapSet := []
  witness : List WitnessUnit := [{}, {}, {}, {}]
  /-- The index at which START_OUT last rose (R268). -/
  startOut : Option Int := none
  /-- Tap streams by direction × 256 + T0. -/
  taps : AMap TapStream := []
  /-- Tap blocks written and not yet taken by the host, oldest first. -/
  tapOut : List TapBlock := []
  /-- The last quantum of which blocks were handled towards the host, and their streams (R487). -/
  tapDone : Int × List Nat := (0, [])
  deriving DecidableEq, Repr

/-! ### Media network -/

/-- A receive stream (R328 to R335). -/
structure RxStream where
  mac : Nat
  mac2 : Nat
  dual : Bool
  l24 : Bool
  chans : Nat
  ptCheck : Bool
  pt : Nat
  dst : Word
  port : Nat
  filter : Word
  p : Nat
  l : Nat
  ortp : Word
  /-- The boundary from which it runs. -/
  from_ : Int
  /-- Sequence numbers of the packets taken, newest first: the last 64, or with DUAL half the range; and the highest (R334, R336). -/
  seqs : List Nat := []
  hiSeq : Option Nat := none
  /-- Sender index of the last packet modulo P, and the last packet counted as lost (R333). -/
  phase : Nat := 0
  lostPkt : Option Int := none
  /-- Environment tick of the last accepted packet. -/
  heard : Nat := 0
  down : Bool := false
  deriving DecidableEq, Repr

/-- A transmit stream. -/
structure TxStream where
  mac : Nat
  mac2 : Nat
  dual : Bool
  l24 : Bool
  chans : Nat
  classB : Bool
  dst : Word
  port : Nat
  srcPort : Nat
  dscp : Nat
  ttl : Nat
  pt : Nat
  ssrc : Word
  p : Nat
  ortp : Word
  dstMac : Nat
  /-- The boundary from which it runs, and the one from which it is removed (R343). -/
  from_ : Int
  until_ : Option Int := none
  deriving DecidableEq, Repr

/-- An IPv4 header and the UDP ports behind it. -/
structure IpHead where
  src : Word
  dst : Word
  /-- Header checksum and length are good. -/
  ok : Bool := true
  /-- UDP source and destination ports. -/
  udp : Option (Nat × Nat) := none
  deriving DecidableEq, Repr

/-- A frame as a MAC receives it: its start, its length in octets from destination address to FCS, its tag (PCP, VLAN ID and the tag control
word), its addresses and type, the opcode of a MAC control frame, and its octets without the FCS (R316, R317, R338). -/
structure RxFrame where
  start : Nat
  octets : Nat
  crcOk : Bool := true
  tag : Option (Nat × Nat × Nat) := none
  dest : Nat
  etherType : Nat
  control : Nat := 0
  ip : Option IpHead := none
  data : List (BitVec 8) := []
  deriving DecidableEq, Repr

/-- An RTP packet as it comes off a MAC (R328, R330, R336): addresses, header fields and payload words as samples. -/
structure RtpPacket where
  src : Word
  dst : Word
  port : Nat
  version : Nat := 2
  pt : Nat
  seq : Nat
  ts : Word
  padding : Bool := false
  /-- Payload octets after any padding is removed. -/
  octets : Nat
  /-- Samples, interleaved in channel order, each in the low bits of its word. -/
  samples : List Word
  deriving DecidableEq, Repr

/-- A descriptor as it stands in host memory when the host gives it: its eight words, and for transmission the octets of its buffer
(Table 11-6). -/
structure GivenDesc where
  words : List Word
  data : List (BitVec 8) := []
  deriving DecidableEq, Repr

/-- A descriptor that the device owns: what the host set in it (Table 11-6). -/
structure AuxDesc where
  /-- Buffer address, and octets of the buffer or of the frame in it. -/
  addr : Nat
  len : Nat
  sof : Bool := false
  eof : Bool := false
  tsreq : Bool := false
  /-- Octets of the frame in the buffer (transmission). -/
  data : List (BitVec 8) := []
  deriving DecidableEq, Repr

/-- Octets that the device writes to host memory from an address on. -/
structure HostWrite where
  addr : Nat
  data : List (BitVec 8)
  deriving DecidableEq, Repr

/-- A media packet: its stream, RTP header fields and first index, addresses and ports, DSCP and TTL, and its samples in the low bits of
their words (R328, R329). -/
structure MediaPacket where
  stream : Nat
  seq : Nat
  first : Int
  ts : Word
  ssrc : Word
  pt : Nat := 0
  srcMac : Nat := 0
  dstMac : Nat := 0
  srcIp : Nat := 0
  dstIp : Word := 0
  srcPort : Nat := 0
  dstPort : Nat := 0
  dscp : Nat := 0
  ttl : Nat := 0
  l24 : Bool := false
  words : List Word := []
  deriving DecidableEq, Repr

/-- What waits in a transmit queue. -/
inductive FrameBody where
  | media (packet : MediaPacket)
  | ptp (msg : PtpSent)
  /-- A Damuri datagram of a channel: destination address and port, and its packets. -/
  | control (ch dst port : Nat) (words : List Word)
  /-- An auxiliary frame: its ring and descriptors. -/
  | aux (ring : Nat) (descs : List AuxDesc)
  | pause (quanta : Nat)
  deriving DecidableEq, Repr

/-- A frame in a transmit queue: its octets on the line from destination address to FCS, when it was queued, and the PCP and VLAN ID of a
tagged frame that the device originates (Table 11-7). -/
structure NetFrame where
  body : FrameBody
  octets : Nat
  queued : Nat
  tag : Option (Nat × Nat) := none
  deriving DecidableEq, Repr

/-- A shaped queue (R323): idleSlope in kbit/s, limits in bytes, credit in units of 1/400,000 bit, and the tick at which the
credit stood. -/
structure Shaper where
  slope : Nat := 0
  hi : Nat := 0
  lo : Int := 0
  credit : Int := 0
  at_ : Nat := 0
  deriving DecidableEq, Repr

/-- A MAC (R316 to R327). -/
structure Mac where
  enabled : Bool := false
  /-- Words w4 to w17 of the last MAC_CONFIG. -/
  cfg : List Word := []
  link : Bool := false
  honor : Bool := false
  gen : Bool := false
  tp : Nat := 0
  high : Nat := 0
  low : Nat := 0
  /-- Receive FIFO fill in octets. -/
  fill : Nat := 0
  /-- The tick at which a received pause ends (R318). -/
  heldUntil : Option Nat := none
  /-- The tick from which it holds, and the units of 512 bit times counted of it. -/
  heldFrom : Nat := 0
  heldUnits : Nat := 0
  /-- A received pause that takes effect when the frame being sent completes: its time. -/
  pendingPause : Option Nat := none
  /-- R319 is asserting pause, and when its last frame was sent. -/
  pausing : Bool := false
  pauseSent : Nat := 0
  /-- The tick from which it is asserted, and the units of 512 bit times counted of it. -/
  pauseFrom : Nat := 0
  pauseUnits : Nat := 0
  /-- A pause frame waiting to be sent ahead of every queue (R320). -/
  pauseDue : Option Nat := none
  queues : AMap (List NetFrame) := []
  /-- The frame on the line, its queue, and the tick at which it started. -/
  sending : Option (Nat × NetFrame × Nat) := none
  shapers : List Shaper := [{}, {}]
  /-- Owned receive descriptors of RX0 and RX1, from the head. -/
  rxDescs : List (List AuxDesc) := [[], []]
  /-- Owned transmit descriptors of TX0 and TX1 whose chains have not been taken. -/
  txDescs : List (List AuxDesc) := [[], []]
  deriving DecidableEq, Repr

/-- MACs and the stream engine. -/
structure Net where
  macs : AMap Mac := []
  rx : AMap RxStream := []
  tx : AMap TxStream := []
  /-- Removed transmit streams with packets still to come (R343). -/
  txOld : List (Nat × TxStream) := []
  /-- Frames sent and not yet taken by the line, oldest first: MAC and frame. -/
  sent : List (Nat × NetFrame) := []
  /-- Writes of the auxiliary rings to host memory, not yet taken by the host, oldest first: buffers, and descriptors (R338, R340). -/
  backs : List HostWrite := []
  /-- The last quantum without processing whose packets of zeros were sent (R38). -/
  idle : Option Int := none
  deriving DecidableEq, Repr

/-! ### Zenel Link -/

/-- Port states of ZEN_STATUS.PSTATE. -/
inductive ZenPortState where
  | off | training | up | down
  deriving DecidableEq, Repr

/-- An area of the map (R352). -/
structure ZenArea where
  first : Nat
  count : Nat
  owner : Nat
  partner : Nat
  deriving DecidableEq, Repr

/-- A map: areas, its check, and the index from which it is in force. -/
structure ZenMap where
  areas : List ZenArea := []
  check : Nat := 0
  from_ : Int := 0
  deriving DecidableEq, Repr

/-- A hello (R360). -/
structure Hello where
  node : Nat
  rootEn : Bool
  q : Nat
  p : Nat
  serialLo : Word
  mode : Nat
  /-- Upstream neighbour on ring A, or parent, and on ring B, with cable delays in ns. -/
  upA : Nat
  delayA : Nat
  upB : Nat
  delayB : Nat
  headA : Bool
  headB : Bool
  root : Nat
  deriving DecidableEq, Repr

/-- The tag of an area in a frame: writer, and index of the samples (Table 12-2). -/
structure ZenTag where
  writer : Nat
  index : Word
  deriving DecidableEq, Repr

/-- A copy of one area: writer, index of the samples, and the slots (R354). -/
structure AreaData where
  writer : Nat
  index : Word
  slots : List Word
  deriving DecidableEq, Repr

/-- A fragment in an in-band area (Table 14-6). -/
structure Fragment where
  dest : Nat
  src : Nat
  seq : Nat
  frag : Nat
  last : Bool
  octets : Nat
  words : List Word
  deriving DecidableEq, Repr

/-- A Zenel frame (Table 12-2). -/
structure ZenFrame where
  upward : Bool := false
  ring : Nat := 0
  byHead : Bool := false
  label : Nat
  launcher : Nat
  root : Nat
  hops : Nat := 0
  mapCheck : Nat
  rate : Nat
  /-- Area tags by number; one without entry was never written. -/
  tags : AMap ZenTag := []
  /-- The slots from slot 0 on; those beyond the list carry 0. -/
  slots : List Word := []
  /-- In-band areas of channels 13 and 14; none when empty. -/
  inband : List (Option Fragment) := [none, none]
  hello : Option Hello := none
  /-- The frame check of the end block. -/
  check : Word := 0
  /-- No unknown control block and no wrong length (Table 12-3). -/
  framed : Bool := true
  deriving DecidableEq, Repr

/-- A frame sent by a port. -/
structure ZenSent where
  port : Nat
  frame : ZenFrame
  deriving DecidableEq, Repr

/-- The time stamps of a link word in units of 2^-32 ns: its own sending and, of the last link word that its sender has received over this
cable, that word's own time of sending and the time of its receipt (R24, R347). -/
structure LinkStamps where
  sent : Int
  echo : Option (Int × Int) := none
  deriving DecidableEq, Repr

/-- A link word: the sender's node ID, port and Q, and the time stamps (R347). -/
structure LinkWord where
  node : Nat
  port : Nat
  q : Nat
  stamps : LinkStamps
  deriving DecidableEq, Repr

/-- A Zenel port. -/
structure ZenPort where
  state : ZenPortState := .off
  lock : Bool := false
  hiber : Bool := false
  peer : Nat := 0
  peerPort : Nat := 0
  peerValid : Bool := false
  peerQ : Nat := 0
  /-- When the neighbour sent its last link word, by its time, and when that was received (R347). -/
  heard : Option (Int × Int) := none
  delay : Nat := 0
  arrive : Nat := 0
  lastLabel : Int := 0
  /-- Media index at which the last frame passed its check. -/
  lastGood : Int := 0
  deriving DecidableEq, Repr

/-- A ring, or the tree's downward path in place of ring A: whether this node heads it, and the good frames from the root in a
row (R357, R358). -/
structure ZenRing where
  head : Bool := true
  good : Nat := 0
  /-- The label that this node last launched. -/
  launched : Int := 0
  deriving DecidableEq, Repr

/-- A message under reassembly, or the last one completed, of a source in an in-band area: its sequence number, the fragments held, whether
it is complete, and the index at which it began (R419). -/
structure Inbox where
  area : Nat
  src : Nat
  seq : Nat
  frags : List Fragment := []
  complete : Bool := false
  since : Int
  deriving DecidableEq, Repr

/-- The Zenel Link. -/
structure Zen where
  enabled : Bool := false
  node : Nat := 0
  rootEn : Bool := false
  mode : Nat := 0
  portEn : Nat := 0
  p : Nat := 0
  ports : List ZenPort := [{}, {}, {}, {}]
  rings : List ZenRing := [{}, {}]
  /-- Maps by the index from which they are in force, newest first; empty before ZEN_MAP. -/
  maps : List ZenMap := []
  /-- Slot of each drop and insert channel. -/
  drops : AMap Nat := []
  inserts : AMap Nat := []
  /-- The accepted copy with the highest index of each area (R354), and its 64-bit index. -/
  copies : AMap (Int × AreaData) := []
  /-- Hellos held, with the label of their receipt. -/
  hellos : AMap (Int × Hello) := []
  root : Nat := 0
  isRoot : Bool := false
  topGen : Nat := 0
  /-- Order, root, HEAD states and cable delays when the generation last changed (R360). -/
  view : List Nat := []
  delays : List Nat := []
  budget : Bool := false
  pmis : Bool := false
  /-- A node-ID clash was seen: the first index of which no area is written and no hello sent (R362). -/
  clash : Option Int := none
  /-- Last index of an upward frame launched; last sample index whose insert clips were counted (R366). -/
  upLaunched : Int := -1
  clipped : Int := -1
  /-- Frames sent and not yet taken by the line, oldest first. -/
  sent : List ZenSent := []
  /-- Fragments waiting for a frame: in-band area 0 or 1 of channel 13 or 14, oldest first (R418). -/
  outband : List (Nat × Fragment) := []
  /-- Fragments terminated on a path and to be launched on it again: path, area, fragment (R418). -/
  transit : List (Nat × Nat × Fragment) := []
  /-- Messages received (R419), and the last sequence number sent by destination × 2 + area (Table 14-6). -/
  inbox : List Inbox := []
  msgSeq : AMap Nat := []
  deriving DecidableEq, Repr

end Sys2Proof.Machine
end

