-- ==== Sys2Proof/Machine/Types/Snapshot.lean ====
section
/-! DEFINITION. The copied state of Table 13-7, as a twin join transfers it and a snapshot holds it (R398, R399, R456 to R458). -/
namespace Sys2Proof.Machine

/-- The copied state. The healed lines in it hold nothing (Table 13-7). -/
structure Copied where
  rate : Nat
  logQ : Nat
  running : Bool := false
  /-- Ordinal of the quantum at the capture index. -/
  ord : Nat := 0
  cfg : Cfg
  mem : AMap OpMem := []
  objs : AMap ObjMem := []
  lines : List Line := []
  slots : AMap Slot := []
  changes : List Change := []
  /-- Open safe-load sets by channel. -/
  sets : AMap SafeSet := []
  rx : AMap RxStream := []
  tx : AMap TxStream := []
  /-- Serial audio groups and their alignment sets. -/
  groups : AMap SapGroup := []
  sapSets : AMap SapSet := []
  maps : List ZenMap := []
  drops : AMap Nat := []
  inserts : AMap Nat := []
  handles : List Word := []
  /-- The last relay section whose entries it contains (Table 13-8, CATCHUP). -/
  relaySeq : Nat := 0
  deriving DecidableEq, Repr

/-- A snapshot: its 64-octet header as the sixteen words of R457, and the body, which is the device's own image. -/
structure Snapshot where
  header : List Word
  body : Copied
  deriving DecidableEq, Repr

/-- A STATE_SAVE in progress (R456): its packet, the capture boundary, what has been captured, and the size and CRC-64 of the image. -/
structure Save where
  packet : Packet
  boundary : Int
  body : Option Copied := none
  size : Nat
  crc : Nat
  deriving DecidableEq, Repr

end Sys2Proof.Machine
end

