-- ==== Sys2Proof/Machine/Types/Twin.lean ====
section
/-! DEFINITION. Data of twin redundancy (chapter 13). -/
namespace Sys2Proof.Machine

/-- Twin states of Table 13-2 (R376). -/
inductive TwinState where
  | detached | fenced | joining | inStep | active | suspect
  deriving DecidableEq, Repr

/-- An entry of the relay stream (R422): its type, origin channel, index, opcode, packet and reply. -/
structure RelayEntry where
  kind : Nat
  origin : Nat
  index : Int := 0
  op : Nat := 0
  packet : Packet
  reply : Option Reply := none
  deriving DecidableEq, Repr

/-- An entry of a close section (Table 13-5). -/
structure CloseEntry where
  chan : Nat
  first : Nat
  count : Nat
  subst : Bool
  value : Int
  deriving DecidableEq, Repr

/-- The close of a quantum (R389). -/
structure Close where
  index : Int
  overflow : Bool := false
  entries : List CloseEntry := []
  deriving DecidableEq, Repr

/-- A relay section (R393, R422). -/
structure RelaySection where
  seq : Nat
  words : List Word
  deriving DecidableEq, Repr

/-- A signature with its quantum and EXCUSE (R395, R396). -/
structure Signature where
  index : Int
  value : Nat
  excuse : Bool
  deriving DecidableEq, Repr

/-- A copy block as it goes on the Twin Link: its number and octets, with the size, the CRC-64 and k_c that block 0 holds. -/
structure CopyBlock where
  num : Nat
  octets : Nat
  size : Nat
  crc : Nat
  k : Int
  deriving DecidableEq, Repr

/-- A Twin Link frame (Table 13-5). The mirror section lists the channels from 0 on, none being zero with its SUBST bit; channels beyond the
list are zero without it. -/
structure TwlFrame where
  label : Nat
  /-- The rate whose layout it has. -/
  rate : Nat := 1
  /-- Its blocks have the types of Table 13-5, and the check of its end block. -/
  framed : Bool := true
  check : Word := 0
  /-- Environment tick at which it began to arrive. -/
  start : Nat := 0
  epoch : Nat := 0
  state : TwinState := .fenced
  secondary : Bool := false
  renew : Bool := false
  ack : Bool := false
  claim : Bool := false
  detach : Bool := false
  unrelayed : Bool := false
  fenceReq : Bool := false
  fenceForce : Bool := false
  h : Word := 0
  handover : Bool := false
  hack : Bool := false
  commit : Bool := false
  cancel : Bool := false
  urgent : Bool := false
  sig : Option (Word × Nat × Bool) := none
  copyMissing : Nat := 0
  copyReq : Bool := false
  serial : Nat := 0
  mirror : List (Option Int) := []
  close : Option Close := none
  relay : Option RelaySection := none
  copy : Option CopyBlock := none
  deriving DecidableEq, Repr

/-- Join phases of Table 13-8; LOG ends at once. -/
inductive JoinPhase where
  | none | copy | catchup | heal | verify
  deriving DecidableEq, Repr

/-- A planned handover at the holder (R383): its boundary, whether it is urgent, whether COMMIT has been sent, and whether TWIN_FENCE
asked for it, with FORCE. -/
structure Handover where
  h : Int
  urgent : Bool
  committed : Bool := false
  fence : Option Bool := none
  deriving DecidableEq, Repr

/-- A capture for a joining partner (Table 13-8, COPY). -/
structure Capture where
  boundary : Int
  body : Option Copied := none
  complete : Bool := false
  size : Nat := 0
  crc : Nat := 0
  /-- The next copy block to send. -/
  next : Nat := 0
  deriving DecidableEq, Repr

/-- The Twin Unit. -/
structure Twin where
  state : TwinState := .detached
  /-- TWN_CFG.ENABLE. -/
  enabled : Bool := false
  /-- The fence state, and the period at whose start it changes (R372). -/
  fenced : Bool := false
  fenceFrom : Option Int := none
  /-- Pair addresses of ETH0 to ETH3: MAC and IPv4 address, 0 when none (R373). -/
  pairAddrs : List (Nat × Nat) := []
  hold : Bool := false
  /-- Lease epoch, and the highest seen. -/
  epoch : Nat := 0
  seen : Nat := 0
  /-- A partner has been heard since reset or ENABLE; what it last said of itself. -/
  heard : Bool := false
  partner : TwinState := .detached
  partnerSecondary : Bool := false
  partnerSerial : Nat := 0
  partnerEpoch : Nat := 0
  /-- Environment ticks: the last renewal received; the last renewal sent; the sending of the last acknowledged one. -/
  renewAt : Nat := 0
  sentAt : Nat := 0
  ackedAt : Nat := 0
  /-- The last frame and the last pulse received. -/
  frameAt : Option Nat := none
  pulseAt : Option Nat := none
  /-- ALIVE_IN: its last edge, and whether it toggles. ALIVE_OUT: its level and last edge. -/
  aliveAt : Option Nat := none
  aliveIn : Bool := false
  aliveOut : Bool := false
  aliveSent : Nat := 0
  /-- The tick and kind of the last LEASE_OUT pulse: true for a renewal. -/
  pulseOut : Option (Nat × Bool) := none
  plost : Bool := false
  local_ : Bool := false
  unver : Bool := false
  alarm : Bool := false
  /-- The state that a WARM reset ended, until the event log can take it (R376). -/
  left : Option TwinState := none
  /-- Silence has been noted since the last renewal. -/
  silent : Bool := false
  /-- The tick at which an initial claim may be made. -/
  claimAt : Option Nat := none
  /-- The first index of the ramp of a claim that was not in step (R382). -/
  rampFrom : Option Int := none
  /-- A handover under way at the holder; one answered at the partner: its boundary and epoch, and whether COMMIT has come. -/
  hand : Option Handover := none
  offered : Option (Int × Nat × Bool) := none
  /-- The partner has been IN_STEP without an unexcused mismatch since this tick; the hold-off starts there (R385). -/
  stepSince : Option Nat := none
  /-- Flags of the next frame. -/
  outRenew : Bool := false
  outAck : Bool := false
  outClaim : Bool := false
  outDetach : Bool := false
  outFence : Option Bool := none
  outHand : Option (Int × Bool) := none
  outHack : Option Int := none
  outCommit : Option Int := none
  outCancel : Option Int := none
  outSig : Option Signature := none
  outClose : Option Close := none
  /-- Period of the last frame launched. -/
  launched : Option Int := none
  /-- The frame on the line. -/
  sent : Option TwlFrame := none
  /-- The Twin Link receiver: block lock, port state (0 OFF, 1 TRAINING, 2 UP, 3 DOWN), delay in ns, intact frames in a row. -/
  lock : Bool := false
  pstate : Nat := 0
  delay : Nat := 0
  intact : Nat := 0
  /-- Pair commands were executed without relay (R394). -/
  unrelayed : Bool := false
  /-- Relay entries that wait for their sections, oldest first (R392, R422). -/
  relayOut : List RelayEntry := []
  /-- Words of entries not yet sent, the sequence number of the section in the line, and how often it was sent. -/
  relayWords : List Word := []
  /-- Words that the next sections hold before a capture begins; 0 when none waits. -/
  relayCut : Nat := 0
  relaySec : Option (RelaySection × Nat) := none
  relaySeq : Nat := 0
  /-- The next section expected, the words received and not yet a whole entry, and the tick at which a gap opened. -/
  relayNext : Option Nat := none
  relayIn : List Word := []
  gapAt : Option Nat := none
  /-- Mirror values sent, and received, by index, newest first; closes received. -/
  mirrorOut : List (Int × List (Option Int)) := []
  mirrorIn : List (Int × List (Option Int)) := []
  closes : List Close := []
  /-- Own signatures and the partner's, newest first; quanta with an excusing condition; the last quantum compared. -/
  sigs : List Signature := []
  partnerSigs : List Signature := []
  excused : List Int := []
  compared : Int := 0
  /-- Quanta compared, or counted as not received, newest first. -/
  judged : List Int := []
  /-- Unexcused mismatches in the current run; matches in VERIFY. -/
  run : Nat := 0
  matches_ : Nat := 0
  /-- The join (R399). -/
  phase : JoinPhase := .none
  joinAt : Int := 0
  healTo : Int := 0
  blocks : List Nat := []
  blockSize : Nat := 0
  snapKib : Nat := 0
  /-- Relay entries logged in a join, with their sections. -/
  joinLog : List (Nat × RelayEntry) := []
  retryAt : Option Nat := none
  capture : Option Capture := none
  /-- Own device time minus the partner's. -/
  skew : Int := 0
  deriving DecidableEq, Repr

end Sys2Proof.Machine
end

