-- ==== Sys2Proof/Syntax.lean ====
section
/-! DEFINITION. The commands of the block: one constructor per row of the table of operations and events. The first
operand of every one is the environment time of its arrival, counted in nominal ticks of 2.5 ns of CLK_CNT (R289). -/
namespace Sys2Proof
open Sys2Proof.Machine

/-- What the outside can do to the device, and what comes about inside it at a named moment. -/
inductive Instr where
  /-- PING (R442). Command that returns its parameter words unchanged. -/
  | ping (t : Nat) (p : Packet)
  /-- GET_INFO (R443). Command that returns ordering code, revisions, firmware versions, serial number and board identity. -/
  | getInfo (t : Nat) (p : Packet)
  /-- GET_STATUS (R444). Command that returns run state, twin state, rate, Q, load, temperature and other status captured at execution. -/
  | getStatus (t : Nat) (p : Packet)
  /-- SET_RATE (R40). Command that sets sample rate and Q in READY after re-admitting the committed graph and checking port, stream and Zenel limits. -/
  | setRate (t : Nat) (p : Packet)
  /-- START_PROCESSING (R37). Quantum-exact command that starts processing with cleared operation state at the first quantum boundary not before its index. -/
  | startProcessing (t : Nat) (p : Packet)
  /-- STOP_PROCESSING (R38). Quantum-exact command that completes the quantum with the stop index, ramps outputs to silence and then sends zeros. -/
  | stopProcessing (t : Nat) (p : Packet)
  /-- FW_UPDATE_BEGIN (R453). Command that opens a firmware update session for an image of a given size. -/
  | fwUpdateBegin (t : Nat) (p : Packet)
  /-- FW_UPDATE_DATA (R454). Command that writes image words into the open update session. -/
  | fwUpdateData (t : Nat) (p : Packet)
  /-- FW_UPDATE_COMMIT (R455). Command that aborts or checks and installs the patch image. -/
  | fwUpdateCommit (t : Nat) (p : Packet)
  /-- RESET_SCOPE (R448). Command that requests a WARM, DOMAIN or BLOCK reset, replying first. -/
  | resetScope (t : Nat) (p : Packet)
  /-- BOARD_TABLE_LOAD (R449). Continued command that loads the board table, checked when the chain completes. -/
  | boardTableLoad (t : Nat) (p : Packet)
  /-- CHANNEL_CONFIG (R451). Command that enables, resets or sets REMOTE, filters and notification address of a command channel. -/
  | channelConfig (t : Nat) (p : Packet)
  /-- GRAPH_BEGIN (R52). Command that opens the single build area and returns its handle. -/
  | graphBegin (t : Nat) (p : Packet)
  /-- GRAPH_ADD_OP (R51). Command that adds an operation with its kind, ports and parameters to the build. -/
  | graphAddOp (t : Nat) (p : Packet)
  /-- GRAPH_CONNECT (R51). Command that adds an edge with optional delay to the build. -/
  | graphConnect (t : Nat) (p : Packet)
  /-- GRAPH_COMMIT (R53). Quantum-exact command that admits the build and makes it current at once or queues its replacement at a boundary. -/
  | graphCommit (t : Nat) (p : Packet)
  /-- GRAPH_QUERY_COST (R567). Command that runs the structure checks and returns per-mille load on every admission resource. -/
  | graphQueryCost (t : Nat) (p : Packet)
  /-- PATH_LATENCY (R74). Command that returns minimum and maximum fixed latency between a router source and sink. -/
  | pathLatency (t : Nat) (p : Packet)
  /-- OP_CANCEL (R249). Quantum-exact command that suppresses an operation for a number of quanta. -/
  | opCancel (t : Nat) (p : Packet)
  /-- SAFE_SET_BEGIN (R65). Command that opens a safe-load set on its channel. -/
  | safeSetBegin (t : Nat) (p : Packet)
  /-- SAFE_SET_COMMIT (R68). Command that schedules every member of the open set to swap in between two samples at one index. -/
  | safeSetCommit (t : Nat) (p : Packet)
  /-- LAYOUT_LOAD (R77). Continued quantum-exact command that loads the loudspeaker layout. -/
  | layoutLoad (t : Nat) (p : Packet)
  /-- MESH_LOAD (R78). Continued quantum-exact command that loads the panning mesh and reference point. -/
  | meshLoad (t : Nat) (p : Packet)
  /-- OBJECT_CREATE (R86). Quantum-exact command that creates an object with a live handle, or releases it with a one-quantum fade. -/
  | objectCreate (t : Nat) (p : Packet)
  /-- TRAJ_APPEND (R90). Command that enters trajectory segments into an object's queue, cutting or discarding later ones. -/
  | trajAppend (t : Nat) (p : Packet)
  /-- TRAJ_FLUSH (R95). Command that empties an object's segment queue at index E and returns the held position. -/
  | trajFlush (t : Nat) (p : Packet)
  /-- OBJECT_PARAMS (R117). Sample-exact command that sets all object parameters after checking the object-tap budget. -/
  | objectParams (t : Nat) (p : Packet)
  /-- ZONE_MASK (R118). Sample-exact command that sets an object's zone mask. -/
  | zoneMask (t : Nat) (p : Packet)
  /-- SOUND_SPEED (R119). Sample-exact command that sets the speed of sound for every object. -/
  | soundSpeed (t : Nat) (p : Packet)
  /-- OBJECT_QUERY (R120). Command that returns an object's state at its latest quantum-end evaluation. -/
  | objectQuery (t : Nat) (p : Packet)
  /-- ROUTE_SET (R133). Sample-exact command that crossfades a sink to a new source or ramps its gain. -/
  | routeSet (t : Nat) (p : Packet)
  /-- ROUTE_CLEAR (R134). Sample-exact command that crossfades a range of sinks to silence. -/
  | routeClear (t : Nat) (p : Packet)
  /-- XPOINT_SET (R143). Sample-exact command that ramps one bus crosspoint or MATRIX cell gain. -/
  | xpointSet (t : Nat) (p : Packet)
  /-- XPOINT_BLOCK (R156). Sample-exact command that writes K consecutive crosspoint or MATRIX gains as one change. -/
  | xpointBlock (t : Nat) (p : Packet)
  /-- BUS_CREATE (R144). Quantum-exact command that creates a bus with a headroom shift or releases it with a fade. -/
  | busCreate (t : Nat) (p : Packet)
  /-- GAIN_SET (R141). Sample-exact command that ramps GAIN operation channel gains. -/
  | gainSet (t : Nat) (p : Packet)
  /-- FADE_PARAMS (R152). Sample-exact command that sets default crossfade length, curve and ramp length. -/
  | fadeParams (t : Nat) (p : Packet)
  /-- FILTER_LOAD_BEGIN (R170). Command that allocates a staging slot for a CONVOLVE operation. -/
  | filterLoadBegin (t : Nat) (p : Packet)
  /-- FILTER_LOAD_DATA (R171). Command that writes taps into a slot in LOADING. -/
  | filterLoadData (t : Nat) (p : Packet)
  /-- FILTER_LOAD_END (R172). Command that checks the slot's taps and CRC and computes spectra, or discards the slot. -/
  | filterLoadEnd (t : Nat) (p : Packet)
  /-- FILTER_SWAP (R174). Sample-exact command that runs a prepared filter alongside and crossfades to it at its index. -/
  | filterSwap (t : Nat) (p : Packet)
  /-- CONV_QUERY (R187). Command that returns a convolution channel's plan, coverage, swap state and counts. -/
  | convQuery (t : Nat) (p : Packet)
  /-- DIKE_CONFIG (R207). Sample-exact command that sets trim, ceiling, release, limiter enable and default ramp of Dike channels. -/
  | dikeConfig (t : Nat) (p : Packet)
  /-- OUTPUT_MUTE (R199). Sample-exact command that ramps Dike channels to mute or unmute. -/
  | outputMute (t : Nat) (p : Packet)
  /-- DITHER_CONFIG (R202). Sample-exact command that sets dither enable, mute-zero and seed of Dike channels. -/
  | ditherConfig (t : Nat) (p : Packet)
  /-- OUTPUT_DELAY (R198). Sample-exact command that crossfades Dike channels to a new output delay. -/
  | outputDelay (t : Nat) (p : Packet)
  /-- SAP_CONFIG (R255). Command that sets the two configuration words of an OFF SAP group. -/
  | sapConfig (t : Nat) (p : Packet)
  /-- SAP_ARM (R265). Command that forms an alignment set of groups and arms them on an index or START_IN trigger. -/
  | sapArm (t : Nat) (p : Packet)
  /-- SAP_STOP (R269). Quantum-exact command that disables data of named groups and returns them to OFF. -/
  | sapStop (t : Nat) (p : Packet)
  /-- TAP_CONFIG (R283). Quantum-exact command that defines, replaces or releases a host audio tap stream. -/
  | tapConfig (t : Nat) (p : Packet)
  /-- TIME_CONFIG (R294). Command that selects the time source, servo settings, steps device time or sets the media origin. -/
  | timeConfig (t : Nat) (p : Packet)
  /-- PTP_CONFIG (R302). Command that configures the PTP port, profile, intervals and announced quality. -/
  | ptpConfig (t : Nat) (p : Packet)
  /-- TIME_QUERY (R313). Command that returns device time, media index, servo and PTP state captured in one cycle. -/
  | timeQuery (t : Nat) (p : Packet)
  /-- MEDIA_CLOCK (R307). Command that sets the WCLK_OUT mode and PPS_OUT enable and width. -/
  | mediaClock (t : Nat) (p : Packet)
  /-- MAC_CONFIG (R316). Command that configures a MAC's speed, addresses, VLAN, MTU, control port and auxiliary rings. -/
  | macConfig (t : Nat) (p : Packet)
  /-- STREAM_RX_ADD (R342). Quantum-exact command that adds a receive RTP stream with its jitter buffers. -/
  | streamRxAdd (t : Nat) (p : Packet)
  /-- STREAM_TX_ADD (R342). Quantum-exact command that adds a transmit RTP stream and returns its SSRC. -/
  | streamTxAdd (t : Nat) (p : Packet)
  /-- STREAM_REMOVE (R343). Quantum-exact command that stops a receive or transmit stream at its boundary. -/
  | streamRemove (t : Nat) (p : Packet)
  /-- SHAPER_SET (R323). Command that sets idleSlope and credit limits of a shaped transmit queue. -/
  | shaperSet (t : Nat) (p : Packet)
  /-- PAUSE_CONFIG (R319). Command that sets pause honouring, generation, pause time and watermarks of a MAC. -/
  | pauseConfig (t : Nat) (p : Packet)
  /-- ZEN_CONFIG (R367). Command that sets node ID, ROOT_EN, mode, port enables and playout offset. -/
  | zenConfig (t : Nat) (p : Packet)
  /-- ZEN_MAP (R352). Quantum-exact command that defines the Zenel area map and returns its check. -/
  | zenMap (t : Nat) (p : Packet)
  /-- ZEN_DROP (R368). Quantum-exact command that maps drop channels to ring slots. -/
  | zenDrop (t : Nat) (p : Packet)
  /-- ZEN_INSERT (R368). Quantum-exact command that maps insert channels to ring slots of own areas. -/
  | zenInsert (t : Nat) (p : Packet)
  /-- ZEN_TOPOLOGY (R369). Command that returns the ring topology state and node entries. -/
  | zenTopology (t : Nat) (p : Packet)
  /-- TWIN_CONFIG (R402). Command that enables or detaches twin operation and sets role, policies and pair addresses. -/
  | twinConfig (t : Nat) (p : Packet)
  /-- TWIN_JOIN (R399). Command that starts a join to the holder's state. -/
  | twinJoin (t : Nat) (p : Packet)
  /-- TWIN_HANDOVER (R383). Command at the holder that starts a planned handover of the lease. -/
  | twinHandover (t : Nat) (p : Packet)
  /-- TWIN_STATUS (R402). Command that returns twin status, partner state, epoch, heal and skew. -/
  | twinStatus (t : Nat) (p : Packet)
  /-- TWIN_FENCE (R402). Command that fences this device with HOLD or sends a fence request to the partner, or releases HOLD. -/
  | twinFence (t : Nat) (p : Packet)
  /-- DRAM_START (R503). Command that starts the DRAM channels from the board table and reserves the DRAM areas. -/
  | dramStart (t : Nat) (p : Packet)
  /-- DRAM_OPPOINT (R510). Command that requests a change of the DRAM operating point. -/
  | dramOppoint (t : Nat) (p : Packet)
  /-- STATE_SAVE (R456). Command that captures a snapshot of copied state into a DRAM slot or host memory. -/
  | stateSave (t : Nat) (p : Packet)
  /-- STATE_RESTORE (R458). Command that checks a snapshot and sets rate, Q, graph and copied parameters from it. -/
  | stateRestore (t : Nat) (p : Packet)
  /-- KEEP_WRITE (R460). Command that writes words to the host area of keep SRAM with CRC update. -/
  | keepWrite (t : Nat) (p : Packet)
  /-- KEEP_READ (R461). Command that returns words from keep SRAM. -/
  | keepRead (t : Nat) (p : Packet)
  /-- METER_SUBSCRIBE (R462). Command that starts or releases delivery of Dike or Reed meter records as notifications. -/
  | meterSubscribe (t : Nat) (p : Packet)
  /-- EVENT_READ (R464). Command that returns event-log entries from a sequence number. -/
  | eventRead (t : Nat) (p : Packet)
  /-- COUNTER_READ (R466). Command that returns, and optionally clears, counters of a class. -/
  | counterRead (t : Nat) (p : Packet)
  /-- PCIE_COMMAND_FETCH (R410). Device fetches the next command packet of a PCIe channel once the tail differs and the reply ring has room. -/
  | pcieCommandFetch (t : Nat) (n : Nat) (words : List Word)
  /-- SPI_PKT_WRITE (R412). SPI instruction that delivers a command packet to the SPI command buffer. -/
  | spiPktWrite (t : Nat) (octets : Nat) (words : List Word)
  /-- SPI_PKT_READ (R414). SPI instruction that reads out the oldest reply or notification. -/
  | spiPktRead (t : Nat) (whole : Bool)
  /-- SPI_REG_READ (R415). SPI instruction that reads an MW0 register after wait octets and a marker. -/
  | spiRegRead (t : Nat) (off : Nat)
  /-- SPI_REG_READ_TIMEOUT (R415). After 32 wait octets without the register value, the device sends marker 0xFF and counts the failure. -/
  | spiRegReadTimeout (t : Nat)
  /-- SPI_REG_WRITE (R415). SPI instruction that writes an MW0 register. -/
  | spiRegWrite (t : Nat) (off : Nat) (v : Word)
  /-- SPI_STATUS (R412). SPI instruction that returns only the status octet, clearing LOST. -/
  | spiStatus (t : Nat)
  /-- UDP_DATAGRAM_RECEIVED (R416). A datagram to the Damuri port is read as back-to-back packets and queued on its UDP channel. -/
  | udpDatagramReceived (t : Nat) (m : Nat) (src : Nat) (port : Nat) (octets : Nat) (words : List Word)
  /-- INBAND_FRAGMENT_RECEIVED (R419). A Zenel in-band fragment addressed to this node is reassembled into a message. -/
  | inbandFragmentReceived (t : Nat) (area : Nat) (f : Fragment)
  /-- INBAND_MESSAGE_TIMEOUT (R419). An in-band message left incomplete for 64 periods is discarded and counted. -/
  | inbandMessageTimeout (t : Nat) (area : Nat) (src : Nat)
  /-- RELAY_FORWARD_TIMEOUT (R423). A non-holder without a relay reply 10 ms after forwarding answers PARTNER_FAULT. -/
  | relayForwardTimeout (t : Nat) (n : Nat)
  /-- TIMED_COMMAND_APPLY (R62). An accepted timed change takes effect when its selected index or quantum boundary arrives. -/
  | timedCommandApply (t : Nat)
  /-- QUANTUM_READINESS (R235). At the readiness time of quantum k the scheduler marks every source operation ready and substitutes missing inputs. -/
  | quantumReadiness (t : Nat) (k : Int)
  /-- INSTANCE_DISPATCH (R239). The scheduler moves the head of a ready list into a free engine slot or starts the next sequenced pass. -/
  | instanceDispatch (t : Nat) (l : Nat)
  /-- INSTANCE_COMPLETE (R235). An instance completes and makes ready every instance whose last dependency it was. -/
  | instanceComplete (t : Nat) (k : Int) (i : Inst)
  /-- SCHEDULER_TICK (R243). At each microsecond tick, delay-list entries whose release tick has arrived move to their ready lists. -/
  | schedulerTick (t : Nat)
  /-- WAIT_TIMEOUT (R245). A dispatched instance over its wait limit is stopped, its slot freed and its outputs zeroed. -/
  | waitTimeout (t : Nat) (k : Int) (i : Inst)
  /-- SINK_DEADLINE (R246). At the sink deadline of quantum k incomplete sinks miss, old instances are retired and transmit DMA takes the quantum. -/
  | sinkDeadline (t : Nat) (k : Int)
  /-- FILTER_SWAP_COPY_DONE (R177). The copy of new spectra into the polders completes and the staging slot returns to FREE. -/
  | filterSwapCopyDone (t : Nat) (i : Nat)
  /-- SAP_CLOCK_START (R266). At frame n_c an armed group enters QUIET and master groups start driving clocks. -/
  | sapClockStart (t : Nat) (g : Nat)
  /-- SAP_DATA_ENABLE (R266). At frame n_d every group of the alignment set enables data and enters RUN. -/
  | sapDataEnable (t : Nat) (n : Nat)
  /-- START_IN_EDGE (R267). A rising edge on START_IN is timestamped and fixes n_c and n_d of the waiting set. -/
  | startInEdge (t : Nat)
  /-- SAP_CLOSE_DONE (R269). After QS frames in CLOSING a group takes its idle state and returns to OFF. -/
  | sapCloseDone (t : Nat) (g : Nat)
  /-- SAP_RECEIVE_FRAME (R263). A received SAP frame is labelled with its media index and its samples written to the input ring. -/
  | sapReceiveFrame (t : Nat) (g : Nat) (f : SapFrame) (bits : List (List Bool)) (full : Nat)
  /-- SAP_TRANSMIT_FRAME (R279). At a transmit frame start the port sends its FIFO sample, or zeros when fenced or starved. -/
  | sapTransmitFrame (t : Nat) (g : Nat) (f : SapFrame) (starved : Nat)
  /-- SAP_CLOCK_STOPPED (R275). No BCLK edge within 4 nominal periods moves the group to STOPPED. -/
  | sapClockStopped (t : Nat) (g : Nat)
  /-- SAP_RATE_CHECK (R275). At the close of each 256-frame block the mean period is checked and a deviation moves the group to RATEHOLD. -/
  | sapRateCheck (t : Nat) (g : Nat) (sum : Nat)
  /-- SAP_REJOIN_START (R277). The first BCLK edge in STOPPED or RATEHOLD with AUTOREJ set enters REJOIN. -/
  | sapRejoinStart (t : Nat) (g : Nat)
  /-- SAP_REJOIN_DONE (R277). After 64 good frames the group is relabelled and enables data at the next quantum boundary. -/
  | sapRejoinDone (t : Nat) (g : Nat)
  /-- TAP_BLOCK_READ (R286). At B(k) + Q − 1 the device reads a tap block from the host and substitutes zeros if its header is wrong. -/
  | tapBlockRead (t : Nat) (first : Nat) (k : Int) (block : List Word)
  /-- TAP_BLOCK_WRITE (R286). The device writes a tap block's samples then header towards the host and sets OUTDONE. -/
  | tapBlockWrite (t : Nat) (first : Nat) (k : Int)
  /-- PTP_SYNC_RECEIVED (R305). A Sync message is timestamped and, if one-step, yields a phase measurement. -/
  | ptpSyncReceived (t : Nat) (h : PtpHeader) (twoStep : Bool) (t1 : Int)
  /-- PTP_FOLLOW_UP_RECEIVED (R305). A Follow_Up matching the pending Sync completes the exchange. -/
  | ptpFollowUpReceived (t : Nat) (h : PtpHeader) (t1 : Int)
  /-- PTP_DELAY_RESP_RECEIVED (R304). A Delay_Resp updates the mean path delay. -/
  | ptpDelayRespReceived (t : Nat) (h : PtpHeader) (clock : Nat) (t4 : Int)
  /-- PTP_DELAY_REQ_RECEIVED (R301). As master, a received Delay_Req is answered within the rate limit. -/
  | ptpDelayReqReceived (t : Nat) (h : PtpHeader)
  /-- PTP_ANNOUNCE_RECEIVED (R301). An Announce feeds foreign-master qualification and BMCA, possibly selecting a new master. -/
  | ptpAnnounceReceived (t : Nat) (h : PtpHeader) (a : PtpAnnounce)
  /-- PTP_SYNC_SEND (R302). As master the port sends Sync and Follow_Up at each sync interval. -/
  | ptpSyncSend (t : Nat)
  /-- PTP_ANNOUNCE_SEND (R303). As master the port sends Announce at each announce interval. -/
  | ptpAnnounceSend (t : Nat)
  /-- PTP_DELAY_REQ_SEND (R302). As slave the port sends Delay_Req at its interval. -/
  | ptpDelayReqSend (t : Nat)
  /-- PTP_FOLLOW_UP_TIMEOUT (R305). A two-step Sync without Follow_Up within one sync interval is discarded. -/
  | ptpFollowUpTimeout (t : Nat)
  /-- PTP_MASTER_LOST (R303). Missing Announce or Sync exchanges for the timeout lose the master and enter HOLDOVER. -/
  | ptpMasterLost (t : Nat)
  /-- PPS_IN_EDGE (R294). A PPS_IN rising edge is timestamped and gives a phase measurement. -/
  | ppsInEdge (t : Nat)
  /-- CLOCK_BLOCK_MEASURE (R296). A block of 64 WCLK or MCLK periods closes and gives a phase measurement. -/
  | clockBlockMeasure (t : Nat) (key : Nat)
  /-- TIME_SOURCE_LOST (R294). A PPS, WCLK or MCLK source without edges or in range for its limit is lost and the servo enters HOLDOVER. -/
  | timeSourceLost (t : Nat)
  /-- TIME_STEP_APPLY (R36). An accepted step of device time is applied at the next quantum boundary in whole quanta. -/
  | timeStepApply (t : Nat)
  /-- REFCLK_LOST (R309). Missing or off-frequency REFCLK holds the counter and clears TVALID. -/
  | refclkLost (t : Nat)
  /-- REFCLK_RETURN (R309). REFCLK returns and PLL_CNT relocks; the counter resumes with the servo in HOLDOVER. -/
  | refclkReturn (t : Nat)
  /-- PLL_LOCK_LOSS (R310). A PLL losing lock clears clock-good of the domains it feeds. -/
  | pllLockLoss (t : Nat) (pll : Nat)
  /-- WCLK_OUT_MODE_SWITCH (R307). A new WCLK_OUT mode takes effect at the next period whose index is a multiple of 64. -/
  | wclkOutModeSwitch (t : Nat)
  /-- PPS_OUT_SECOND (R308). At each whole second PPS_OUT rises and pending width or enable changes apply. -/
  | ppsOutSecond (t : Nat)
  /-- MAC_FRAME_RECEIVED (R317). An intact received frame is classified and passed to one consumer or dropped. -/
  | macFrameReceived (t : Nat) (m : Nat) (f : RxFrame) (fill : Nat)
  /-- PAUSE_FRAME_RECEIVED (R318). A received pause frame holds or releases the transmit queues when HONOR is set. -/
  | pauseFrameReceived (t : Nat) (m : Nat) (n : Nat)
  /-- PAUSE_HOLD_EXPIRY (R318). The hold time of a received pause runs out and the queues resume. -/
  | pauseHoldExpiry (t : Nat) (m : Nat)
  /-- PAUSE_REPEAT (R319). Half of t_p elapsed with fill above the low watermark repeats the pause frame. -/
  | pauseRepeat (t : Nat) (m : Nat) (fill : Nat)
  /-- MAC_FRAME_TRANSMIT (R322). A MAC starts the next frame by strict priority and shaper credit. -/
  | macFrameTransmit (t : Nat) (m : Nat)
  /-- MAC_FRAME_SENT (R338). A transmitted frame completes and its auxiliary descriptors are written back. -/
  | macFrameSent (t : Nat) (m : Nat) (aborted : Bool)
  /-- MEDIA_PACKET_LATE_DROP (R324). A media packet not started within 1 ms of queueing is discarded. -/
  | mediaPacketLateDrop (t : Nat) (m : Nat)
  /-- MAC_LINK_CHANGE (R325). Link loss or return on a MAC changes stream delivery and raises LINKCHG. -/
  | macLinkChange (t : Nat) (m : Nat) (up hiber : Bool)
  /-- STREAM_PACKET_RECEIVED (R332). A stream packet's samples are written to the jitter buffer or discarded as late, early, duplicate or bad. -/
  | streamPacketReceived (t : Nat) (m : Nat) (r : RtpPacket)
  /-- STREAM_DOWN_TIMEOUT (R335). A receive stream with no accepted packet for 64 packet times enters DOWN. -/
  | streamDownTimeout (t : Nat) (i : Nat)
  /-- ZEN_FRAME_RECEIVED (R351). A received Zenel frame is checked, read, and forwarded by cut-through with own areas written. -/
  | zenFrameReceived (t : Nat) (p : Nat) (f : ZenFrame) (fifoOk hiber : Bool)
  /-- ZEN_FRAME_LAUNCH (R354). At a period start the root, a head or a branch node launches a frame with own and copied areas. -/
  | zenFrameLaunch (t : Nat)
  /-- ZEN_LOCK_LOSS (R357). Upstream block lock loss ends the frame with an inverted check and makes the node head. -/
  | zenLockLoss (t : Nat) (p : Nat) (inFrame : Option ZenFrame)
  /-- ZEN_MISSING_FRAMES (R357). Four periods without a good frame on a ring port make the node head. -/
  | zenMissingFrames (t : Nat) (p : Nat)
  /-- ZEN_ROOT_CHANGE (R359). At the period start after its view changes a node becomes or stops being root. -/
  | zenRootChange (t : Nat)
  /-- ZEN_LINK_WORD (R347). A link word gives the neighbour's ID and timestamps for cable delay. -/
  | zenLinkWord (t : Nat) (p : Nat) (node : Nat) (peer : Nat) (q : Nat) (x : LinkStamps)
  /-- TWIN_LINK_FRAME_LAUNCH (R386). At each period start a device launches its Twin Link frame with control, mirror, relay and copy sections. -/
  | twinLinkFrameLaunch (t : Nat)
  /-- TWIN_LINK_FRAME_RECEIVED (R386). A received Twin Link frame is checked and its lease, mirror, signature and copy sections taken. -/
  | twinLinkFrameReceived (t : Nat) (f : TwlFrame)
  /-- RELAY_SECTION_RECEIVED (R393). A relay section is taken once and its entries executed or forwarded. -/
  | relaySectionReceived (t : Nat) (x : RelaySection)
  /-- RELAY_GAP_TIMEOUT (R393). A relay sequence gap not filled within two frames moves the partner to JOINING. -/
  | relayGapTimeout (t : Nat)
  /-- TWL_LOCK_LOSS (R394). Twin Link block loss moves the lease to the lease balls and sets UNVER or UNRELAYED. -/
  | twlLockLoss (t : Nat)
  /-- LEASE_RENEWAL_TIMER (R377). Every 250 µs the holder sends a renewal on both paths. -/
  | leaseRenewalTimer (t : Nat)
  /-- LEASE_PULSE_RECEIVED (R377). A LEASE_IN pulse is classified as renewal or acknowledgement. -/
  | leasePulseReceived (t : Nat) (width : Nat)
  /-- LEASE_SELF_FENCE_TIMEOUT (R379). 900 µs without acknowledged renewal self-fences the holder or sets PLOST. -/
  | leaseSelfFenceTimeout (t : Nat)
  /-- LEASE_SILENCE (R378). 1.1 ms without renewals lets a permitted non-holder claim or raises ALARM. -/
  | leaseSilence (t : Nat)
  /-- TWIN_ROLE_DELAY_EXPIRY (R378). The role delay of an initial claim expires and the claim is made. -/
  | twinRoleDelayExpiry (t : Nat)
  /-- ALIVE_IN_STOPPED (R379). No ALIVE_IN edge for 50 µs marks the partner as not running. -/
  | aliveInStopped (t : Nat)
  /-- TWIN_FENCE_SWITCH (R372). At period h the device's fence state changes for all transmitters. -/
  | twinFenceSwitch (t : Nat)
  /-- HANDOVER_RECEIVED (R383). An IN_STEP partner answers a HANDOVER with HACK. -/
  | handoverReceived (t : Nat) (h : Word) (epoch : Nat) (urgent : Bool)
  /-- HACK_RECEIVED (R383). A timely HACK makes the holder send COMMIT and fence from h. -/
  | hackReceived (t : Nat) (h : Word)
  /-- COMMIT_RECEIVED (R383). COMMIT by period h makes the partner unfence from h and become ACTIVE. -/
  | commitReceived (t : Nat) (h : Word)
  /-- CANCEL_RECEIVED (R383). A CANCEL abandons the pending handover at the partner. -/
  | cancelReceived (t : Nat) (h : Word)
  /-- HACK_DEADLINE (R383). Without HACK by the limit before h the holder sends CANCEL and logs HANDOVER_FAIL. -/
  | hackDeadline (t : Nat)
  /-- TAKEBACK_HOLDOFF_EXPIRY (R385). A SECONDARY holder starts a takeback handover after the PRIMARY has been IN_STEP for the hold-off. -/
  | takebackHoldoffExpiry (t : Nat)
  /-- FENCEREQ_RECEIVED (R402). A partner fence request fences this device with HOLD, handing over first if holder. -/
  | fencereqReceived (t : Nat) (force : Bool)
  /-- DETACH_RECEIVED (R402). A DETACH from the holder sets HOLD at the partner. -/
  | detachReceived (t : Nat)
  /-- MIRROR_READY (R390). A partner with all mirror sections and an intact close marks quantum k ready on mirrored values. -/
  | mirrorReady (t : Nat) (k : Int)
  /-- MIRROR_FALLBACK (R390). At the fallback time the partner runs quantum k on its own receivers and sets LOCAL. -/
  | mirrorFallback (t : Nat) (k : Int)
  /-- SIGNATURE_MISS (R396). A signature not received by the deadline of quantum k + 2 is counted. -/
  | signatureMiss (t : Nat) (k : Int)
  /-- TWIN_AUTOJOIN_START (R376). With AUTOJOIN, a FENCED or SUSPECT partner starts a join while the holder is ACTIVE. -/
  | twinAutojoinStart (t : Nat)
  /-- JOIN_COPY_BLOCK (R399). A copy block enters the shadow; when all arrive and the CRC agrees the shadow is committed. -/
  | joinCopyBlock (t : Nat) (x : CopyBlock) (crcOk : Bool) (image : Copied)
  /-- JOIN_CATCHUP_DONE (R399). The replay reaches the current quantum and the join enters HEAL. -/
  | joinCatchupDone (t : Nat)
  /-- JOIN_HEAL_DONE (R399). Index k_c + H is reached and the join enters VERIFY. -/
  | joinHealDone (t : Nat)
  /-- JOIN_RETRY (R400). 1 s after a failed join with AUTOJOIN the partner retries. -/
  | joinRetry (t : Nat)
  /-- RESET_SOURCE_ASSERT (R514). A reset source asserts, widening the effective reach and entering LOADING. -/
  | resetSourceAssert (t : Nat) (cause : Nat)
  /-- RESET_SOURCE_RELEASE (R514). A reset source releases; when the effective reach is free the release sequence starts. -/
  | resetSourceRelease (t : Nat) (cause : Nat)
  /-- POWER_ON_TIMER (R513). 1 ms after supplies are good the power-on source releases. -/
  | powerOnTimer (t : Nat)
  /-- FIRMWARE_WATCHDOG (R519). An unserviced watchdog after 250 ms applies a WARM reset. -/
  | firmwareWatchdog (t : Nat)
  /-- RESET_SCOPE_APPLY (R448). 100 µs to 1 ms after the reply the requested reset is applied. -/
  | resetScopeApply (t : Nat)
  /-- CLOCK_GOOD_ASSERT (R520). A clock-good asserting releases the domains or blocks that wait on it. -/
  | clockGoodAssert (t : Nat) (c : Nat)
  /-- CLOCK_GOOD_TIMEOUT (R521). A clock-good not asserted within 2 ms holds its blocks in reset and records CLOCK_NOT_GOOD. -/
  | clockGoodTimeout (t : Nat) (c : Nat)
  /-- READY_ENTRY (R520). The release sequence ends in READY, releasing IRQ_N and enabling channel 8. -/
  | readyEntry (t : Nat)
  /-- IDLE_TIMEOUT (R528). A block not idle within IDLETO has its master port completed and isolated. -/
  | idleTimeout (t : Nat) (i : Nat)
  /-- DOMAIN_POWER_DONE (R536). A requested domain change completes and PDDONE sets. -/
  | domainPowerDone (t : Nat) (d : Nat)
  /-- SUPPLY_WARNING (R531). A rail below its warning level raises BROWNOUT_WARN and may start an urgent handover. -/
  | supplyWarning (t : Nat) (rail : Nat) (mv : Nat)
  /-- SUPPLY_RECOVERY (R532). A rail back above recovery ends the warning and writes the brownout record. -/
  | supplyRecovery (t : Nat) (rail : Nat) (low : Nat)
  /-- THERM_ALERT_CHANGE (R549). Die temperature crossing a threshold drives or releases THERM_ALERT_N. -/
  | thermAlertChange (t : Nat) (temp : Int)
  /-- POLDER_READY (R492). A polder completes FILL or return from RETAIN and waiting accesses proceed. -/
  | polderReady (t : Nat) (p : Nat)
  /-- POLDER_SCRUB (R495). Periodic check of polder words corrects or reports ECC errors. -/
  | polderScrub (t : Nat) (off : Nat) (err : Option Bool) (master : Option Nat)
  /-- BUS_TRANSACTION_TIMEOUT (R499). A transaction outstanding for WTO µs is retired with an error and logged as BUS_HANG. -/
  | busTransactionTimeout (t : Nat) (m : Nat) (id : Nat) (addr : Nat)
  /-- BUS_LATE_RESPONSE (R500). A response to a retired transaction is discarded and counted. -/
  | busLateResponse (t : Nat) (m : Nat) (id : Nat)
  /-- DRAM_REFRESH (R507). A per-bank refresh interval expires and the bank is refreshed with any pending neighbour refresh. -/
  | dramRefresh (t : Nat) (c : Nat) (neighbours : Nat)
  /-- DRAM_MR4_POLL (R507). Every 4 ms MR4 is read; rate changes set TEMP and faults set FAULT. -/
  | dramMr4Poll (t : Nat) (rates : List Nat) (fault : Bool)
  /-- DRAM_SELF_REFRESH_ENTRY (R509). A channel idle for SRTIME enters self-refresh in READY or HALTED. -/
  | dramSelfRefreshEntry (t : Nat) (c : Nat) (request : Bool)
  /-- DRAM_SELF_REFRESH_EXIT (R509). A waiting request exits self-refresh after minimum residency and is served. -/
  | dramSelfRefreshExit (t : Nat) (c : Nat)
  /-- DRAM_OPPOINT_SWITCH (R510). At the first sink deadline after acceptance requests are held and write queues drained. -/
  | dramOppointSwitch (t : Nat)
  /-- DRAM_OPPOINT_DONE (R510). After self-refresh, relock and timing swap the channels resume and OPDONE sets. -/
  | dramOppointDone (t : Nat)
  /-- STATE_SAVE_COMPLETE (R456). A snapshot capture completes and STATE_SAVE is answered with size, CRC and index. -/
  | stateSaveComplete (t : Nat)
  /-- REGISTER_WRITE (R12). Write to a register field without its own row, taking effect by access type, posting and decode rules. -/
  | registerWrite (t : Nat) (win : Nat) (off : Nat) (be : Nat) (v : Word)
  /-- REGISTER_READ_CLEAR (R12). Read of an RC field returns its value and clears it. -/
  | registerReadClear (t : Nat) (win : Nat) (off : Nat)
  /-- BIT_ALIAS_WRITE (R477). MW1 write updates one bit of an MW0 register atomically. -/
  | bitAliasWrite (t : Nat) (off : Nat) (v : Word)
  /-- POSTED_WRITE_COMPLETE (R472). A posted write takes effect in its home domain and XBUSY clears. -/
  | postedWriteComplete (t : Nat) (b : Nat)
  /-- POSTED_WRITE_TIMEOUT (R474). A posted write not taken effect after 10 µs is discarded with WLOST. -/
  | postedWriteTimeout (t : Nat) (b : Nat)
  /-- TIM_SNAP (R315). Writing TIM_CTL.SNAP captures raw count, device time and media index in one cycle. -/
  | timSnap (t : Nat)
  /-- SAPG_WTPOP (R288). Writing SAPG_WTPOP removes the head witness entry of the selected unit. -/
  | sapgWtpop (t : Nat) (v : Word)
  /-- IRQ_EOI (R480). Writing IRQ_EOI re-arms vectors, sending again if the source is asserted. -/
  | irqEoi (t : Nat) (v : Word)
  /-- IRQ_MSIX_UNMASK (R480). Clearing a vector mask sends its held message if conditions still hold. -/
  | irqMsixUnmask (t : Nat) (i : Option Nat)
  /-- CMD_CTAIL_WRITE (R410). Writing CMD_CTAILn gives new command entries, or is ignored as a ring error. -/
  | cmdCtailWrite (t : Nat) (n : Nat) (v : BitVec 16)
  /-- CMD_RCONS_WRITE (R410). Writing CMD_RCONSn frees reply entries, or is ignored as a ring error. -/
  | cmdRconsWrite (t : Nat) (n : Nat) (v : BitVec 16)
  /-- CMD_CHANNEL_ENABLE (R484). Setting CMD_CFGn.EN zeroes the ring indices and writes the status block. -/
  | cmdChannelEnable (t : Nat) (n : Nat) (ien : Bool) (log2k : Nat)
  /-- CMD_CHANNEL_DISABLE (R484). Clearing CMD_CFGn.EN stops fetching and resets the channel after the executing command. -/
  | cmdChannelDisable (t : Nat) (n : Nat) (ien : Bool)
  /-- MAC_RXTAIL_WRITE (R340). Writing a receive tail gives receive descriptors to the device. -/
  | macRxtailWrite (t : Nat) (m : Nat) (r : Nat) (tail : Nat) (ds : List GivenDesc)
  /-- MAC_TXTAIL_WRITE (R339). Writing a transmit tail gives transmit descriptors to the device. -/
  | macTxtailWrite (t : Nat) (m : Nat) (r : Nat) (tail : Nat) (ds : List GivenDesc)
  /-- RPC_PDREQ_WRITE (R535). Writing RPC_PDREQ switches host-controlled power domains or is refused into RPC_PDERR. -/
  | rpcPdreqWrite (t : Nat) (v : Word)
  /-- PCIE_LINK_CHANGE (R436). The PCIe link goes down or comes up, changing whether host-address commands are accepted and whether tap blocks towards the host can be written. -/
  | pcieLinkChange (t : Nat) (up : Bool) (enable : Bool) (mask : Bool)
  /-- ZEN_BLOCK_LOCK_GAIN (R364). A Zenel port receiver acquires 64b/66b block lock, setting ZEN_STATUS.LOCK and ZEN_EVT.LINK and leaving DOWN. -/
  | zenBlockLockGain (t : Nat) (p : Nat)
  /-- TWL_BLOCK_LOCK_GAIN (R394). The Twin Link receiver acquires block lock, setting TWL_STATUS.LOCK and TWL_EVT.LINK so that frames can be received again. -/
  | twlBlockLockGain (t : Nat) (delay : Nat)
  /-- ALIVE_IN_EDGE (R379). An edge on ALIVE_IN restarts the 50 µs stopped timer and marks the partner as running again. -/
  | aliveInEdge (t : Nat)
  /-- ALIVE_OUT_TOGGLE (R377). Every 10 µs while twin-enabled and CCA runs, the device toggles ALIVE_OUT. -/
  | aliveOutToggle (t : Nat)
  /-- BLOCK_IDLE_REPORTED (R528). All blocks named by an idle request report idle before IDLETO, so the RPC applies the block or domain reset or switches the domain off. -/
  | blockIdleReported (t : Nat) (i : Nat)
  /-- PTP_QUALIFICATION_TIMEOUT (R301). The PTP port in PRE_MASTER or LISTENING reaches its qualification or receipt timeout with no better master and enters MASTER. -/
  | ptpQualificationTimeout (t : Nat)
  deriving DecidableEq, Repr

end Sys2Proof
end

