-- ==== Sys2Proof/WellFormed.lean ====
section
/-! DEFINITION. Well-formed commands: operands that the device's ports, registers and frames can carry. The meanings do not ask for it. -/
namespace Sys2Proof
open Sys2Proof.Machine

/-- A number below a bound. -/
def below (n i : Nat) : Bool := decide (i < n)

/-- Words of one packet: at most 1,024 (R405). -/
def packetWords (ws : List Word) : Bool := decide (ws.length ≤ 1024)

/-- The words hold all octets of a transaction or datagram. -/
def wordsHold (octets : Nat) (ws : List Word) : Bool := decide (octets ≤ 4 * ws.length)

/-- An offset inside a window (Table 16-1). -/
def windowOffset (win off : Nat) : Bool :=
  match win with | 0 => below 65536 off | 1 => below 131072 off | 2 => below (2 ^ 24) off | _ => false

/-- A packet on a channel that a transport has, at most 1,024 words with its header (Table 14-3, R405). -/
def Machine.Packet.wf (p : Packet) : Bool := below 15 p.ch && decide (p.params.length ≤ 1020)

/-- The ranges of Table 14-6. -/
def Machine.Fragment.wf (f : Fragment) : Bool :=
  below 4096 f.dest && below 4096 f.src && below 256 f.seq && below 128 f.frag && decide (1 ≤ f.octets) && decide (f.octets ≤ 120) && decide (f.words.length ≤ 30)

/-- A descriptor has eight words (Table 11-6). -/
def Machine.GivenDesc.wf (g : GivenDesc) : Bool := decide (g.words.length = 8)

/-- The widths of the header fields of a PTP message. -/
def Machine.PtpHeader.wf (h : PtpHeader) : Bool := below 16 h.version && below 256 h.domain && below (2 ^ 64) h.clock && below 65536 h.port && below 65536 h.seq

/-- A well-formed command. -/
def Instr.wf : Instr → Bool
  | .ping _ p => p.wf
  | .getInfo _ p => p.wf
  | .getStatus _ p => p.wf
  | .setRate _ p => p.wf
  | .startProcessing _ p => p.wf
  | .stopProcessing _ p => p.wf
  | .fwUpdateBegin _ p => p.wf
  | .fwUpdateData _ p => p.wf
  | .fwUpdateCommit _ p => p.wf
  | .resetScope _ p => p.wf
  | .boardTableLoad _ p => p.wf
  | .channelConfig _ p => p.wf
  | .graphBegin _ p => p.wf
  | .graphAddOp _ p => p.wf
  | .graphConnect _ p => p.wf
  | .graphCommit _ p => p.wf
  | .graphQueryCost _ p => p.wf
  | .pathLatency _ p => p.wf
  | .opCancel _ p => p.wf
  | .safeSetBegin _ p => p.wf
  | .safeSetCommit _ p => p.wf
  | .layoutLoad _ p => p.wf
  | .meshLoad _ p => p.wf
  | .objectCreate _ p => p.wf
  | .trajAppend _ p => p.wf
  | .trajFlush _ p => p.wf
  | .objectParams _ p => p.wf
  | .zoneMask _ p => p.wf
  | .soundSpeed _ p => p.wf
  | .objectQuery _ p => p.wf
  | .routeSet _ p => p.wf
  | .routeClear _ p => p.wf
  | .xpointSet _ p => p.wf
  | .xpointBlock _ p => p.wf
  | .busCreate _ p => p.wf
  | .gainSet _ p => p.wf
  | .fadeParams _ p => p.wf
  | .filterLoadBegin _ p => p.wf
  | .filterLoadData _ p => p.wf
  | .filterLoadEnd _ p => p.wf
  | .filterSwap _ p => p.wf
  | .convQuery _ p => p.wf
  | .dikeConfig _ p => p.wf
  | .outputMute _ p => p.wf
  | .ditherConfig _ p => p.wf
  | .outputDelay _ p => p.wf
  | .sapConfig _ p => p.wf
  | .sapArm _ p => p.wf
  | .sapStop _ p => p.wf
  | .tapConfig _ p => p.wf
  | .timeConfig _ p => p.wf
  | .ptpConfig _ p => p.wf
  | .timeQuery _ p => p.wf
  | .mediaClock _ p => p.wf
  | .macConfig _ p => p.wf
  | .streamRxAdd _ p => p.wf
  | .streamTxAdd _ p => p.wf
  | .streamRemove _ p => p.wf
  | .shaperSet _ p => p.wf
  | .pauseConfig _ p => p.wf
  | .zenConfig _ p => p.wf
  | .zenMap _ p => p.wf
  | .zenDrop _ p => p.wf
  | .zenInsert _ p => p.wf
  | .zenTopology _ p => p.wf
  | .twinConfig _ p => p.wf
  | .twinJoin _ p => p.wf
  | .twinHandover _ p => p.wf
  | .twinStatus _ p => p.wf
  | .twinFence _ p => p.wf
  | .dramStart _ p => p.wf
  | .dramOppoint _ p => p.wf
  | .stateSave _ p => p.wf
  | .stateRestore _ p => p.wf
  | .keepWrite _ p => p.wf
  | .keepRead _ p => p.wf
  | .meterSubscribe _ p => p.wf
  | .eventRead _ p => p.wf
  | .counterRead _ p => p.wf
  | .pcieCommandFetch _ n words => below 8 n && packetWords words
  | .spiPktWrite _ octets words => below 4097 octets && packetWords words && wordsHold octets words
  | .spiPktRead _ _ => true
  | .spiRegRead _ off => below 65536 off
  | .spiRegReadTimeout _ => true
  | .spiRegWrite _ off _ => below 65536 off
  | .spiStatus _ => true
  | .udpDatagramReceived _ m src port octets words => below 4 m && below (2 ^ 32) src && below 65536 port && below 65508 octets && wordsHold octets words
  | .inbandFragmentReceived _ area f => below 2 area && f.wf
  | .inbandMessageTimeout _ area src => below 2 area && below 4096 src
  | .relayForwardTimeout _ n => below 15 n
  | .timedCommandApply _ => true
  | .quantumReadiness _ _ => true
  | .instanceDispatch _ l => below 10 l
  | .instanceComplete _ _ _ => true
  | .schedulerTick _ => true
  | .waitTimeout _ _ _ => true
  | .sinkDeadline _ _ => true
  | .filterSwapCopyDone _ _ => true
  | .sapClockStart _ g => below 12 g
  | .sapDataEnable _ n => below 8 n
  | .startInEdge _ => true
  | .sapCloseDone _ g => below 12 g
  | .sapReceiveFrame _ g _ bits full => below 12 g && decide (bits.length ≤ 4) && below 16 full
  | .sapTransmitFrame _ g _ starved => below 12 g && below 16 starved
  | .sapClockStopped _ g => below 12 g
  | .sapRateCheck _ g _ => below 12 g
  | .sapRejoinStart _ g => below 12 g
  | .sapRejoinDone _ g => below 12 g
  | .tapBlockRead _ first _ _ => below 512 first
  | .tapBlockWrite _ first _ => below 512 first
  | .ptpSyncReceived _ h _ _ => h.wf
  | .ptpFollowUpReceived _ h _ => h.wf
  | .ptpDelayRespReceived _ h clock _ => h.wf && below (2 ^ 64) clock
  | .ptpDelayReqReceived _ h => h.wf
  | .ptpAnnounceReceived _ h _ => h.wf
  | .ptpSyncSend _ => true
  | .ptpAnnounceSend _ => true
  | .ptpDelayReqSend _ => true
  | .ptpFollowUpTimeout _ => true
  | .ptpMasterLost _ => true
  | .ppsInEdge _ => true
  | .clockBlockMeasure _ key => decide (1 ≤ key) && below 6 key
  | .timeSourceLost _ => true
  | .timeStepApply _ => true
  | .refclkLost _ => true
  | .refclkReturn _ => true
  | .pllLockLoss _ pll => below 5 pll
  | .wclkOutModeSwitch _ => true
  | .ppsOutSecond _ => true
  | .macFrameReceived _ m f fill => below 4 m && below (2 ^ 18) fill && decide (f.data.length = f.octets - 4)
  | .pauseFrameReceived _ m n => below 4 m && below 65536 n
  | .pauseHoldExpiry _ m => below 4 m
  | .pauseRepeat _ m fill => below 4 m && below (2 ^ 18) fill
  | .macFrameTransmit _ m => below 4 m
  | .macFrameSent _ m _ => below 4 m
  | .mediaPacketLateDrop _ m => below 4 m
  | .macLinkChange _ m _ _ => below 4 m
  | .streamPacketReceived _ m _ => below 4 m
  | .streamDownTimeout _ i => below 256 i
  | .zenFrameReceived _ p _ _ _ => below 4 p
  | .zenFrameLaunch _ => true
  | .zenLockLoss _ p _ => below 4 p
  | .zenMissingFrames _ p => below 4 p
  | .zenRootChange _ => true
  | .zenLinkWord _ p node peer _ _ => below 4 p && below 4096 node && below 4 peer
  | .twinLinkFrameLaunch _ => true
  | .twinLinkFrameReceived _ _ => true
  | .relaySectionReceived _ x => below 65536 x.seq
  | .relayGapTimeout _ => true
  | .twlLockLoss _ => true
  | .leaseRenewalTimer _ => true
  | .leasePulseReceived _ _ => true
  | .leaseSelfFenceTimeout _ => true
  | .leaseSilence _ => true
  | .twinRoleDelayExpiry _ => true
  | .aliveInStopped _ => true
  | .twinFenceSwitch _ => true
  | .handoverReceived _ _ epoch _ => below (2 ^ 32) epoch
  | .hackReceived _ _ => true
  | .commitReceived _ _ => true
  | .cancelReceived _ _ => true
  | .hackDeadline _ => true
  | .takebackHoldoffExpiry _ => true
  | .fencereqReceived _ _ => true
  | .detachReceived _ => true
  | .mirrorReady _ _ => true
  | .mirrorFallback _ _ => true
  | .signatureMiss _ _ => true
  | .twinAutojoinStart _ => true
  | .joinCopyBlock _ _ _ _ => true
  | .joinCatchupDone _ => true
  | .joinHealDone _ => true
  | .joinRetry _ => true
  | .resetSourceAssert _ cause => decide (1 ≤ cause) && below 6 cause
  | .resetSourceRelease _ cause => decide (1 ≤ cause) && below 10 cause
  | .powerOnTimer _ => true
  | .firmwareWatchdog _ => true
  | .resetScopeApply _ => true
  | .clockGoodAssert _ c => below 29 c
  | .clockGoodTimeout _ c => below 29 c
  | .readyEntry _ => true
  | .idleTimeout _ _ => true
  | .domainPowerDone _ d => below 16 d
  | .supplyWarning _ rail mv => below 2 rail && below 4096 mv
  | .supplyRecovery _ rail low => below 2 rail && below 4096 low
  | .thermAlertChange _ _ => true
  | .polderReady _ p => below 32 p
  | .polderScrub _ off _ master => below (2 ^ 27) off && master.all (below 16)
  | .busTransactionTimeout _ m id addr => below 16 m && below 64 id && below (2 ^ 48) addr
  | .busLateResponse _ m id => below 16 m && below 64 id
  | .dramRefresh _ c _ => below 4 c
  | .dramMr4Poll _ rates _ => decide (rates.length = 4)
  | .dramSelfRefreshEntry _ c _ => below 4 c
  | .dramSelfRefreshExit _ c => below 4 c
  | .dramOppointSwitch _ => true
  | .dramOppointDone _ => true
  | .stateSaveComplete _ => true
  | .registerWrite _ win off be _ => windowOffset win off && below 16 be
  | .registerReadClear _ win off => windowOffset win off
  | .bitAliasWrite _ off _ => windowOffset 1 off
  | .postedWriteComplete _ b => below 36 b
  | .postedWriteTimeout _ b => below 36 b
  | .timSnap _ => true
  | .sapgWtpop _ _ => true
  | .irqEoi _ _ => true
  | .irqMsixUnmask _ i => i.all (below 32)
  | .cmdCtailWrite _ n _ => below 8 n
  | .cmdRconsWrite _ n _ => below 8 n
  | .cmdChannelEnable _ n _ log2k => below 8 n && below 16 log2k
  | .cmdChannelDisable _ n _ => below 8 n
  | .macRxtailWrite _ m r tail ds => below 4 m && below 2 r && below 4096 tail && ds.all Machine.GivenDesc.wf
  | .macTxtailWrite _ m r tail ds => below 4 m && below 2 r && below 4096 tail && ds.all Machine.GivenDesc.wf
  | .rpcPdreqWrite _ _ => true
  | .pcieLinkChange _ _ _ _ => true
  | .zenBlockLockGain _ p => below 4 p
  | .twlBlockLockGain _ delay => below (2 ^ 20) delay
  | .aliveInEdge _ => true
  | .aliveOutToggle _ => true
  | .blockIdleReported _ _ => true
  | .ptpQualificationTimeout _ => true

end Sys2Proof
end

