-- ==== Sys2Proof/Config.lean ====
section
/-! DEFINITION. What an implementation fixes and the spec leaves open: free values. No constant here has a body, so nothing
can be proved about its value. Those with a number argument are applied to the state's `free` counter, which each taking
advances. -/
namespace Sys2Proof.Config

/-- Whether the part is graded -BE; else -BA (R5). -/
opaque gradeE : Bool
/-- Device serial number, 64 bits (Table 15-5). -/
opaque serial : BitVec 64
/-- ROM firmware version (Table 15-5). -/
opaque romVersion : Word
/-- Fused CRC-32 of the map (Table 18-9). -/
opaque fuseCrc : Word
/-- Whether the fuse map passes its check when a COLD reset reads the macro (R525). -/
opaque fuseValid : Nat → Bool
/-- The Syunmund public key held in ROM: a point of P-256 (R3, R452). -/
opaque romKey : Nat × Nat
/-- The suffix letter of a custom fuse map, A to Z; none with fuse map A (R5, Table 00-3). -/
opaque fuseSuffix : Option (Fin 26)
/-- The code of a ball under a custom fuse map: codes 5 to 7 are never programmed (R5, R524). -/
opaque customCode : Nat → Fin 5
/-- A measured die temperature, 1/256 °C (R444). -/
opaque dieTemp : Nat → BitVec 16
/-- A measured VDD_CORE, mV (R444). -/
opaque vddCore : Nat → BitVec 12
/-- A measured VDD_AON, mV (Table 18-8). -/
opaque vddAon : Nat → BitVec 12
/-- A handle the device chooses (R52, R86, R170). -/
opaque handle : Nat → BitVec 32
/-- An SSRC the device chooses (R342). -/
opaque ssrc : Nat → BitVec 32
/-- The ratio of the measured raw tick to 2.5 ns, in units of 2^-46 (R296). -/
opaque rhoRef : Nat → Nat
/-- The word of a meter record whose exact value does not fit its word (R205, R228: no result is stated). -/
opaque overWord : Nat → BitVec 32

/-- A word of a successful reply for which the spec states no value: w4 of EVENT_READ when no entry is returned (R464), w4 of FW_UPDATE_COMMIT
with ABORT (R455). -/
opaque unstated : Nat → BitVec 32
/-- Size in octets of a captured state, whose image is the device's own (R457). -/
opaque snapSize : Nat → Nat
/-- CRC-64 of a captured state's image (R395, R456). -/
opaque snapCrc : Nat → BitVec 64
/-- Whether the holder's copied state exceeds the join shadow (R399): known to the holder alone. -/
opaque holderTooBig : Nat → Bool
/-- Where the device places what a graph allocates in the convolution and object-history areas (R493): whether it puts a byte into a
polder. The key lists the channel and the covered length of each CONVOLVE operation, and the object of each OBJECT operation. -/
opaque polderHolds : List (Nat × Nat) → Nat → Bool
/-- Channels of DRAM whose manufacturer ID differs from the one expected (R503). -/
opaque dramMismatch : Nat → BitVec 4
/-- Channels of DRAM whose pattern test fails (R503). -/
opaque dramTestFail : Nat → BitVec 4
/-- MR4 refresh rate code of a channel as DRAM_START reads it (R503, R507). -/
opaque dramRate : Nat → Nat → BitVec 5
/-- Timing word of a die density and an operating point, the slowest values of JESD209-5 (chapter 17). -/
opaque dramTiming : Nat → Nat → Nat → BitVec 32
/-- An octet of the captured image in a copy block, named by its number and by the image's size, CRC-64 and k_c (R399): the image is the
device's own. -/
opaque copyOctet : List Nat → Nat → BitVec 8
/-- The largest residual of the trim of a master SAP group's clock in the second that ends at a tick (R374); `State.residual` bounds it. -/
opaque twinPhase : Nat → Nat → BitVec 16

/-- REFCLK edges in the 1 ms of CLK_AON that ends at a tick (Table 10-8). -/
opaque refCount : Nat → BitVec 20
/-- The lowest level of a core rail since the last read, as measured by now, mV (Table 18-8). -/
opaque vddLow : Nat → Nat → BitVec 12
/-- DRAM reads forwarded from the write queue, and the longest read latency in ns, from one tick to another (Table 17-8). -/
opaque dramForwarded : Nat → Nat → BitVec 32
opaque dramLatency : Nat → Nat → BitVec 16
/-- Where the buffers of an operation begin in graph buffer memory (R478): the order of the operations is not stated. The list gives each
operation's id and octets. -/
opaque bufferBase : List (Nat × Nat) → Nat → BitVec 24
/-- Levels at GPIO0 to GPIO15 (Table 18-8). -/
opaque gpioIn : Nat → BitVec 16
/-- Transactions outstanding at a master port at a tick, and the largest number since the last read (Table 17-7): bus transactions are
no commands of the table. -/
opaque outstanding : Nat → Nat → BitVec 14
/-- A word of graph buffer memory that nothing has written yet, or that holds what no rule places (R478). -/
opaque bufferWord : Nat → Nat → Word

/-- The mean arrival of Zenel frame starts after the period start, ns (Table 12-6: the mean's window is not stated). -/
opaque zenArrive : Nat → BitVec 24

/-- An octet of the management area that carries a hello (R360): the fields of a hello are stated, their places are not. -/
opaque helloOctet : List Nat → Nat → BitVec 8

end Sys2Proof.Config
end

