-- ==== Sys2Proof/Machine/Types/Balls.lean ====
section
/-! DEFINITION. Nets of the balls (Tables 19-2 to 19-9). -/
namespace Sys2Proof.Machine

/-- A DRAM signal of a channel (Table 19-3). -/
inductive DramPin where
  | dq (n : Nat) | dmi (n : Nat) | rdqs (n : Nat) | wck (n : Nat) | ca (n : Nat) | ck | cs
  deriving DecidableEq, Repr

/-- The net of a ball. -/
inductive BallNet where
  | vss | vddCore | vddSram | vddSerdes | vddaSerdes | vddDramq | vddDram2 | vddIo18 | vddAon
  | vddIosap (bank : Nat)
  | dram (chan : Nat) (pin : DramPin)
  | dramRst
  /-- SerDes lanes: Ethernet, Zenel, Twin Link, PCIe; number, transmit or receive, P or N. -/
  | eth (m : Nat) (tx p : Bool) | zl (m : Nat) (tx p : Bool) | twl (tx p : Bool) | pcie (m : Nat) (tx p : Bool)
  | pcieRefclk (p : Bool) | refclk (p : Bool) | iref (n : Nat)
  | sapD (port : Nat) | sapBclk (g : Nat) | sapFs (g : Nat)
  | mclkIn (n : Nat) | wclkIn | ppsIn | startIn | leaseIn | aliveIn
  | wclkOut | ppsOut | startOut | leaseOut | aliveOut
  | spiSck | spiCsN | spiMosi | spiMiso | irqN | thermAlertN | resetN | perstN
  | gpio (n : Nat)
  | tck | tms | tdi | tdo | trstN
  deriving DecidableEq, Repr

/-- What stands on a ball: the five states that the codes 0 to 4 of the fuse map name (R524). -/
inductive Pad where
  | hiZ | pullDown | pullUp | low | high
  deriving DecidableEq, Repr

end Sys2Proof.Machine
end

