-- ==== Sys2Proof/Machine/Balls.lean ====
section
/-! DEFINITION. The net of each ball, and its fuse code under fuse map A (R540 to R548). -/
namespace Sys2Proof.Machine

/-- Ball index of a row number and a column (R540). -/
def ballIndex (r c : Nat) : Nat := 38 * r + c - 1

/-- A strip ball of a DRAM channel: offset o and position 0 outer, 1 second, 2 third, 3 inner (Table 19-3). -/
def dramBall (ch o pos : Nat) : BallNet :=
  let p := fun (x : DramPin) => BallNet.dram ch x
  let data := fun (a b : Nat) (c : DramPin) => if pos = 0 then p (.dq a) else if pos = 1 then p (.dq b) else if pos = 2 then p c else .vddDramq
  let pair := fun (x : DramPin) => if pos ≤ 1 then p x else .vss
  match o with
  | 0 => data 0 1 (.dq 2) | 1 => pair (.wck 0) | 2 => data 3 4 (.dmi 0) | 3 => pair (.rdqs 0) | 4 => data 5 6 (.dq 7)
  | 5 => .vss
  | 6 => if pos < 3 then p (.ca pos) else .vddDram2
  | 7 => if pos ≤ 1 then p .ck else if pos = 2 then p .cs else .vss
  | 8 => if pos < 3 then p (.ca (3 + pos)) else .vddDram2
  | 9 => if pos = 0 then p (.ca 6) else .vss
  | 10 => data 8 9 (.dq 10) | 11 => pair (.wck 1) | 12 => data 11 12 (.dmi 1) | 13 => pair (.rdqs 1) | _ => data 13 14 (.dq 15)

/-- A ball of the north strip (Table 19-4). -/
def northBall (r c : Nat) : BallNet :=
  let k := (c - 5) / 2
  let p := decide ((c - 5) % 2 = 0)
  if r = 1 then .vss
  else if r = 3 then (if c % 3 = 0 then .vddaSerdes else .vddSerdes)
  else
    let tx := decide (r = 0)
    if k ≤ 3 then .eth k tx p else if k ≤ 7 then .zl (k - 4) tx p else if k = 8 then .twl tx p else if k ≤ 12 then .pcie (k - 9) tx p
    else if k = 13 then (if tx then .pcieRefclk p else .refclk p) else if tx then .iref ((c - 5) % 2) else .vss

/-- A ball of the south strip, ports (Table 19-5); row numbers 34 AU, 35 AV, 36 AW, 37 AY. -/
def southBall (r c : Nat) : BallNet :=
  let g := (c - 5) / 2
  let a := decide ((c - 5) % 2 = 0)
  match r with
  | 37 => .sapD (4 * g + if a then 0 else 1)
  | 36 => if a then .sapBclk g else .vss
  | 35 => .sapD (4 * g + if a then 2 else 3)
  | _ => if a then .sapFs g else .vddIosap (g / 3)

/-- Clock and lease balls (Table 19-6), row by row from AU. -/
def clockBalls : List (List BallNet) :=
  [[.aliveIn, .aliveOut, .vddIo18, .vss, .vss, .vddIo18], [.startIn, .startOut, .ppsIn, .ppsOut, .leaseIn, .leaseOut],
   [.vss, .vss, .vddIo18, .vss, .vss, .vddIo18], [.mclkIn 0, .mclkIn 1, .mclkIn 2, .mclkIn 3, .wclkIn, .wclkOut]]

/-- Corner balls (Table 19-7): rows A to D, then AU to AY; west columns, then east. -/
def cornerBalls : List (List BallNet) :=
  [[.vss, .perstN, .irqN, .vss, .tck, .tms, .tdi, .tdo], [.spiSck, .spiCsN, .spiMosi, .spiMiso, .trstN, .vss, .vddIo18, .vss],
   [.vddIo18, .vss, .vddIo18, .vss, .vddAon, .vss, .vddAon, .vss], [.resetN, .thermAlertN, .dramRst, .vddIo18, .vss, .vddAon, .vss, .vddAon],
   [.vddAon, .vss, .vddAon, .vss, .vddAon, .vss, .vddAon, .vss],
   [.gpio 4, .gpio 5, .gpio 6, .gpio 7, .gpio 12, .gpio 13, .gpio 14, .gpio 15], [.vss, .vddIo18, .vss, .vddIo18, .vss, .vddIo18, .vss, .vddIo18],
   [.gpio 0, .gpio 1, .gpio 2, .gpio 3, .gpio 8, .gpio 9, .gpio 10, .gpio 11]]

/-- The net of the ball at row number r and column c (R541 to R546). -/
def ballAt (r c : Nat) : BallNet :=
  let edge := decide (r < 4) || decide (34 ≤ r)
  if decide (c < 5) || decide (34 < c) then
    if edge then ((cornerBalls.getD (if r < 4 then r else r - 30) []).getD (if c < 5 then c - 1 else c - 31) .vss)
    else
      let west := decide (c < 5)
      dramBall ((if west then 0 else 2) + if 19 ≤ r then 1 else 0) (if r < 19 then r - 4 else r - 19) (if west then c - 1 else 38 - c)
  else if r < 4 then northBall r c
  else if 34 ≤ r then (if c ≤ 28 then southBall r c else (clockBalls.getD (r - 34) []).getD (c - 29) .vss)
  else if (r + c) % 2 = 0 then .vss else if c ≤ 29 then .vddCore else .vddSram

/-- The net of a ball index (R540). -/
def ballNet (i : Nat) : BallNet := ballAt (i / 38) (i % 38 + 1)

/-- The fuse code of a net under fuse map A (Table 19-9, R548). -/
def BallNet.code : BallNet → Nat
  | .mclkIn _ => 1 | .wclkIn => 1 | .ppsIn => 1 | .startIn => 1 | .leaseIn => 1 | .aliveIn => 1
  | .wclkOut => 3 | .ppsOut => 3 | .startOut => 3 | .leaseOut => 3 | .aliveOut => 3
  | .spiSck => 1 | .spiMosi => 1 | .spiCsN => 2 | .irqN => 3 | .resetN => 2 | .perstN => 2
  | .gpio _ => 1 | .tck => 1 | .trstN => 1 | .tms => 2 | .tdi => 2
  | .dram _ (.dq _) => 1 | .dram _ (.dmi _) => 1 | .dram _ (.rdqs _) => 1 | .dram _ _ => 3 | .dramRst => 3
  | .vss => 0 | .vddCore => 0 | .vddSram => 0 | .vddSerdes => 0 | .vddaSerdes => 0 | .vddDramq => 0 | .vddDram2 => 0 | .vddIo18 => 0 | .vddAon => 0
  | .vddIosap _ => 0 | .eth _ _ _ => 0 | .zl _ _ _ => 0 | .twl _ _ => 0 | .pcie _ _ _ => 0 | .pcieRefclk _ => 0 | .refclk _ => 0 | .iref _ => 0
  | .sapD _ => 0 | .sapBclk _ => 0 | .sapFs _ => 0 | .spiMiso => 0 | .thermAlertN => 0 | .tdo => 0

/-- A supply ball: its position in the fuse map holds 0 (R524, R548). -/
def BallNet.supply : BallNet → Bool
  | .vss => true | .vddCore => true | .vddSram => true | .vddSerdes => true | .vddaSerdes => true | .vddDramq => true | .vddDram2 => true
  | .vddIo18 => true | .vddAon => true | .vddIosap _ => true | _ => false

/-- The code of a ball index: fuse map A's, or a custom map's (R5, R524, R548). -/
def fuseCode (i : Nat) : Nat :=
  if (ballNet i).supply then 0 else if Config.fuseSuffix.isNone then (ballNet i).code else (Config.customCode i).val

/-- The state that a code names (R524). -/
def Pad.ofCode (c : Nat) : Pad := if c = 1 then .pullDown else if c = 2 then .pullUp else if c = 3 then .low else if c = 4 then .high else .hiZ

end Sys2Proof.Machine
end

