-- ==== Sys2Proof/Machine/Ops.lean ====
section
/-! DEFINITION. The named operations every family uses: bit fields, maps, lists, and integer rounding. -/
namespace Sys2Proof

/-! ### Finite maps -/

/-- The value under a key. -/
def AMap.find {α : Type} : AMap α → Nat → Option α
  | [], _ => none
  | (k, v) :: m, i => if k = i then some v else AMap.find m i

/-- The value under a key, or a default. -/
def AMap.getD {α : Type} (m : AMap α) (i : Nat) (d : α) : α := (AMap.find m i).getD d

/-- Whether a key has a value. -/
def AMap.has {α : Type} (m : AMap α) (i : Nat) : Bool := (AMap.find m i).isSome

/-- Put a value under a key, keeping the keys rising. -/
def AMap.put {α : Type} : AMap α → Nat → α → AMap α
  | [], i, v => [(i, v)]
  | (k, w) :: m, i, v =>
    if i < k then (i, v) :: (k, w) :: m
    else if i = k then (i, v) :: m
    else (k, w) :: AMap.put m i v

/-- Remove a key. -/
def AMap.del {α : Type} (m : AMap α) (i : Nat) : AMap α := m.filter fun kv => !decide (kv.1 = i)

/-- Change the value under a key, when there is one. -/
def AMap.upd {α : Type} (m : AMap α) (i : Nat) (f : α → α) : AMap α :=
  m.map fun kv => if kv.1 = i then (kv.1, f kv.2) else kv

/-- Change every value. -/
def AMap.mapVal {α β : Type} (m : AMap α) (f : α → β) : AMap β := m.map fun kv => (kv.1, f kv.2)

/-- The keys, rising. -/
def AMap.keys {α : Type} (m : AMap α) : List Nat := m.map Prod.fst

/-- The values, in key order. -/
def AMap.vals {α : Type} (m : AMap α) : List α := m.map Prod.snd

/-- Whether the keys rise strictly: the canonical form. -/
def AMap.wf {α : Type} : AMap α → Bool
  | [] => true
  | [_] => true
  | (k, _) :: (k', v') :: m => decide (k < k') && AMap.wf ((k', v') :: m)

end Sys2Proof

namespace Sys2Proof.Machine

/-! ### Bit fields (R8: ranges are written [msb:lsb]) -/

/-- Field [hi:lo] of a word, as a number. -/
def fld (w : Word) (hi lo : Nat) : Nat := w.toNat / 2 ^ lo % 2 ^ (hi + 1 - lo)

/-- Bit i of a word. -/
def bitOf (w : Word) (i : Nat) : Bool := w.toNat.testBit i

/-- An n-bit two's-complement pattern as an integer (R434). -/
def asSigned (n v : Nat) : Int := if v % 2 ^ n < 2 ^ (n - 1) then ((v % 2 ^ n : Nat) : Int) else ((v % 2 ^ n : Nat) : Int) - 2 ^ n

/-- Signed field [hi:lo] of a word (R434). -/
def sfld (w : Word) (hi lo : Nat) : Int := asSigned (hi + 1 - lo) (fld w hi lo)

/-- The low 32 bits of an integer's two's-complement form (R34). -/
def lo32 (i : Int) : Word := BitVec.ofInt 32 i

/-- Bits 63 to 32 of an integer's two's-complement form (R11). -/
def hi32 (i : Int) : Word := BitVec.ofInt 32 (i / 2 ^ 32)

/-- A number as a word, wrapping. -/
def w32 (n : Nat) : Word := BitVec.ofNat 32 n

/-- A Boolean as 0 or 1. -/
def b2n (b : Bool) : Nat := if b then 1 else 0

/-- A Boolean as bit i of a word. -/
def flagBit (b : Bool) (i : Nat) : Nat := if b then 2 ^ i else 0

/-- A 64-bit unsigned value from two words, low word first (R11). -/
def u64 (lo hi : Word) : Nat := lo.toNat + 2 ^ 32 * hi.toNat

/-- A 64-bit signed value from two words, low word first (R11, R434). -/
def s64 (lo hi : Word) : Int := asSigned 64 (u64 lo hi)

/-- Word w(i) of a packet's parameters, counted from w4 (R434); 0 beyond the end. -/
def wd (ws : List Word) (i : Nat) : Word := ws.getD (i - 4) 0

/-! ### Lists -/

/-- The first condition that holds, with what it stands for. -/
def firstHit {α : Type} : List (Bool × α) → Option α
  | [] => none
  | (b, x) :: r => if b then some x else firstHit r

/-- The numbers lo, lo + 1, …, lo + n − 1. -/
def span (lo n : Nat) : List Nat := (List.range n).map (lo + ·)

/-- Replace element i of a list. -/
def setAt {α : Type} (l : List α) (i : Nat) (v : α) : List α := l.set i v

/-- Sum of a list of integers. -/
def isum (l : List Int) : Int := l.foldl (· + ·) 0

/-- Sum of a list of numbers. -/
def nsum (l : List Nat) : Nat := l.foldl (· + ·) 0

/-- Whether a list of numbers holds one twice. -/
def hasDup : List Nat → Bool
  | [] => false
  | x :: xs => xs.contains x || hasDup xs

/-- The first number that a list holds twice, in list order of its second standing. -/
def firstDup (seen : List Nat) : List Nat → Option Nat
  | [] => none
  | x :: xs => if seen.contains x then some x else firstDup (x :: seen) xs

/-- The smallest number from 1 on that a list does not hold, at most n. -/
def leastUnused (used : List Nat) : Nat → Nat
  | 0 => 1
  | n + 1 => let c := leastUnused used n; if used.contains c then n + 2 else c

/-- Merge a value into a list sorted by a key, after every entry whose key is not larger. -/
def insertBy {α : Type} (le : α → α → Bool) (x : α) : List α → List α
  | [] => [x]
  | y :: ys => if le y x then y :: insertBy le x ys else x :: y :: ys

/-- Stable insertion sort. -/
def sortBy {α : Type} (le : α → α → Bool) (l : List α) : List α := l.foldl (fun acc x => insertBy le x acc) []

/-! ### Division and rounding of integers -/

/-- Division rounded down; the divisor is positive wherever it is used. -/
def fdivI (a b : Int) : Int := Int.fdiv a b

/-- Division rounded up. -/
def cdivI (a b : Int) : Int := -(Int.fdiv (-a) b)

/-- Division of numbers rounded up. -/
def cdivN (a b : Nat) : Nat := (a + b - 1) / b

/-- Division rounded half to even (R211's rounding, b > 0). -/
def rhe (a b : Int) : Int :=
  let q := Int.fdiv a b
  let r := a - q * b
  if 2 * r < b then q else if b < 2 * r then q + 1 else if q % 2 = 0 then q else q + 1

/-- Division rounded to nearest, halves away from zero (R36). -/
def rhaz (a b : Int) : Int := if a < 0 then -(Int.fdiv (2 * (-a) + b) (2 * b)) else Int.fdiv (2 * a + b) (2 * b)

/-- Clip an integer into a range. -/
def clampI (lo hi x : Int) : Int := if x < lo then lo else if hi < x then hi else x

/-- Saturation to an n-bit signed value. -/
def satBits (n : Nat) (x : Int) : Int := clampI (-(2 ^ (n - 1))) (2 ^ (n - 1) - 1) x

/-- Whether an integer lies outside the n-bit signed range. -/
def overBits (n : Nat) (x : Int) : Bool := decide (x < -(2 ^ (n - 1))) || decide (2 ^ (n - 1) - 1 < x)

/-- Saturating 32-bit count (R466). -/
def satCount (n d : Nat) : Nat := min (n + d) (2 ^ 32 - 1)

/-- Base-2 logarithm of a power of two, by search. -/
def log2n (n : Nat) : Nat := Nat.log2 n

end Sys2Proof.Machine
end

