-- ==== Sys2Proof/Machine/Types/Memory.lean ====
section
/-! DEFINITION. State of the memories and of the bus matrix: polders, transactions, the DRAM controller (chapter 17). -/
namespace Sys2Proof.Machine

/-- Polder states (R492). -/
inductive PolderState where
  | off | fill | on | retain
  deriving DecidableEq, Repr

/-- An operating-point change in progress (R510): the command that is answered when it ends, the target, and whether the
requests are held. -/
structure OpChange where
  packet : Packet
  target : Nat
  /-- The index of the first sink deadline after acceptance. -/
  after : Int := 0
  switching : Bool := false
  deriving DecidableEq, Repr

/-- An idle self-refresh of a channel (R509): entering, or in it since a tick. -/
inductive SelfRefresh where
  | active
  | entered (at_ : Nat)
  deriving DecidableEq, Repr

/-- The DRAM controller (R502 to R510). -/
structure Dram where
  op : Nat := 0
  /-- Timing set B is active. -/
  setB : Bool := false
  grain : Nat := 0
  change : Option OpChange := none
  chans : List SelfRefresh := [.active, .active, .active, .active]
  /-- MR4 refresh rate codes. -/
  rates : List Nat := [0, 0, 0, 0]
  deriving DecidableEq, Repr

/-- Polders, bus matrix and snapshots. -/
structure Mem where
  polders : List PolderState := List.replicate 32 .off
  /-- Polders in RETAIN whose return to ON an access has started (R492). -/
  waking : List Nat := []
  /-- Transactions retired whose response may still come: master and ID. -/
  retired : List (Nat × Nat) := []
  /-- Registers of measured values that were read, by MW0 offset, with the tick of the last read: their RC fields cleared there. -/
  readAt : AMap Nat := []
  /-- Snapshot slots in DRAM, snapshots in host memory by address, and a save in progress (R456). -/
  slots : AMap Snapshot := []
  host : AMap Snapshot := []
  save : Option Save := none
  deriving DecidableEq, Repr

end Sys2Proof.Machine
end

