-- ==== Sys2Proof/Machine/Types/System.lean ====
section
/-! DEFINITION. Run state, firmware session and board table (R439 to R455). -/
namespace Sys2Proof.Machine

/-- Run states of Table 15-6 (R444). -/
inductive RunState where
  | off | loading | boot | ready | running | halted
  deriving DecidableEq, Repr

/-- An open firmware-update session: its channel, the image size in octets, and the words written by word offset (R453, R454). -/
structure FwSession where
  ch : Nat
  size : Nat
  image : AMap Word := []
  deriving DecidableEq, Repr

/-- Control firmware in force: the patch loaded, if any (R452 to R455). -/
structure Firmware where
  patch : Option (List Word) := none
  session : Option FwSession := none
  deriving DecidableEq, Repr

/-- A meter subscription (R462): its channel, tag, source, Dike range word or op id, decimation, and the records that have
closed since the last one delivered. -/
structure MeterSub where
  ch : Nat
  tag : BitVec 16
  source : Nat
  range : Word
  decim : Nat
  seen : Nat := 0
  /-- Dike records of the period that closes, by channel, with the index at which it ended. -/
  got : Int × AMap (List Word) := (0, [])
  deriving DecidableEq, Repr

/-- A reset source: cause code, reach (0 COLD, 1 WARM, 2 DOMAIN, 3 BLOCK), domain and block (R513). -/
structure ResetSource where
  cause : Nat
  reach : Nat
  domain : Nat := 0
  block : Nat := 0
  deriving DecidableEq, Repr

/-- An idle request in progress (R528): the reset that follows, or none when domains are switched off; the master ports of the blocks
concerned; the domains; and the tick at which it was raised. -/
structure IdleRequest where
  source : Option ResetSource
  ports : List Nat
  domains : List Nat
  since : Nat
  deriving DecidableEq, Repr

/-- A supply below its warning level: the rail, the tick and the device time in ns of the onset (R531). -/
structure Brownout where
  rail : Nat
  since : Nat
  ns : Int
  deriving DecidableEq, Repr

/-- The Reset and Power Controller (chapter 18), and THERM_ALERT_N (R549). -/
structure Rpc where
  /-- Sources asserted, in the order of their assertion. -/
  sources : List ResetSource := []
  idle : List IdleRequest := []
  /-- Domains that are being switched, bit i for domain i, and those that wait for a clock-good. -/
  busy : Nat := 0
  waits : List Nat := []
  /-- The tick from which the release sequence waits for clock-good. -/
  stepAt : Nat := 0
  warn : List Brownout := []
  /-- The fuse map has been read, and passed its check (R525, R526). -/
  fuseRead : Bool := false
  fuseOk : Bool := false
  /-- THERM_ALERT_N is driven low. -/
  therm : Bool := false
  deriving DecidableEq, Repr

/-- An interrupt message sent: its vector, and the address and data of the vector's table entry at that moment (R480, Table 16-5). -/
structure Message where
  vector : Nat
  addr : Nat
  data : Word
  deriving DecidableEq, Repr

/-- A reset request that waits for its moment (R448). -/
structure PendingReset where
  reach : Nat
  domain : Nat
  block : Nat
  /-- Environment ticks at which the reply was sent. -/
  replied : Nat
  deriving DecidableEq, Repr

end Sys2Proof.Machine
end

