-- ==== Sys2Proof/Machine/State.lean ====
section
/-! DEFINITION. The state of the AXK-8192: everything the spec gives the device, and the queue of waiting commands. -/
namespace Sys2Proof.Machine

/-- The device never stops on a command: no rule of the spec leaves a command of the table without an effect, so no
fault has a constructor. -/
inductive Fault where
  deriving DecidableEq, Repr

/-- Why a command has no meaning here. -/
inductive Refusal where
  /-- Raised by an arm of `exec` whose command has not been given its meaning; safe. -/
  | notModelled (mnemonic : String)
  deriving DecidableEq, Repr

/-- The state. -/
structure State where
  /-- Environment time of the last command, in nominal ticks of 2.5 ns. -/
  now : Nat := 0
  /-- Model's own: counts the free values taken so far. -/
  free : Nat := 0
  run : RunState := .boot
  /-- Halt reason of Table 15-6. -/
  halt : Nat := 0
  /-- Rate code and log2 Q (R446). -/
  rate : Nat := 1
  logQ : Nat := 3
  tu : TimeUnit := {}
  /-- Stored register values by MW0 offset (chapter 16); a register that is not listed holds its reset value. -/
  regs : AMap Word := []
  chans : AMap Channel := []
  /-- The event log, newest first, at most 4,096 entries (R464). -/
  log : List LogEntry := []
  /-- Conditions whose run has been logged: event code and target. -/
  runs : List (Nat × Nat) := []
  /-- Counters of Table 15-10, by class × 2^21 + index (R466). -/
  counters : AMap Nat := []
  /-- Accepted changes that wait for their index, in acceptance order (R60 to R64). -/
  changes : List Change := []
  nextOrder : Nat := 0
  /-- Meter subscriptions by number (R462). -/
  subs : AMap MeterSub := []
  fw : Firmware := {}
  /-- The board table loaded (R449); empty before. -/
  board : List Word := []
  /-- Handles given since the last WARM reset (R52, R86, R170). -/
  handles : List Word := []
  /-- Keep SRAM: the octets that are not 0, addresses rising (R459, R533). -/
  keep : List Host.Cell := []
  /-- RPC_KEEPCRC and RPC_STATUS.KEEPOK (R533), and whether the check of option loading is still to come. -/
  keepCrc : Word := 0
  keepOk : Bool := false
  keepDue : Bool := true
  /-- Power domains on and released, bit i for domain i of R448 (R25). -/
  pd : Nat := 7
  /-- Highest admission load of the current graph in per mille, and its resource code (R444). -/
  load : Nat × Nat := (0, 0)
  /-- DRAM_START has succeeded (R503). -/
  dramOn : Bool := false
  dram : Dram := {}
  /-- Polders and bus matrix (chapter 17). -/
  mem : Mem := {}
  /-- Build area (R52); configuration in force; engines and scheduler. -/
  build : Option Build := none
  cfg : Cfg := {}
  audio : Audio := {}
  /-- The PCIe link is up (R436). -/
  pcie : Bool := false
  /-- Serial audio ports and taps; media network; Zenel Link. -/
  sap : Sap := {}
  net : Net := {}
  zen : Zen := {}
  twin : Twin := {}
  pendReset : Option PendingReset := none
  rpc : Rpc := {}
  /-- The channel that the interpreter served last (R428). -/
  served : Nat := 0
  spi : Spi := {}
  /-- Posted writes in progress by block (R472), and the data that the last register read returned. -/
  posted : AMap Posted := []
  read : Word := 0
  /-- The MSI-X Enable and Function Mask bits of the PCIe function, and the messages sent, oldest first (R480). -/
  msixEnable : Bool := false
  msixMask : Bool := false
  messages : List Message := []
  /-- Commands that wait, first in first out. -/
  pending : List Instr := []
  deriving DecidableEq, Repr

/-- The machine right after reset. -/
def State.reset : State := { log := [⟨1, 1, 0, 0, [1]⟩] }

end Sys2Proof.Machine
end

