-- ==== Sys2Proof/Machine/Clock.lean ====
section
/-! DEFINITION. Device time, media time and the quantum, read from the state (R29, R34, R57, R289). -/
namespace Sys2Proof.Machine

/-- One nanosecond in the time model's unit of 2^-32 ns (R289). -/
def nsUnit : Int := 2 ^ 32

/-- Device sample rate in Hz (R446). -/
def fsOf (code : Nat) : Nat := if code = 0 then 44100 else if code = 1 then 48000 else if code = 2 then 88200 else 96000

/-- Sample rate of the device. -/
def State.fs (s : State) : Nat := fsOf s.rate

/-- Whether the rate is 88.2 or 96 kHz (R6, R43). -/
def State.highRate (s : State) : Bool := decide (2 ≤ s.rate)

/-- The quantum Q in samples. -/
def State.q (s : State) : Nat := 2 ^ s.logQ

/-- floor(r × R × 5 / 2^15) (R289). -/
def scaledCount (raw rate : Nat) : Int := ((raw * rate * 5 / 2 ^ 15 : Nat) : Int)

/-- Device time T(r) in units of 2^-32 ns (R289). -/
def TimeUnit.time (u : TimeUnit) : Int := u.offset + scaledCount u.raw u.rate

/-- Device time of the state. -/
def State.time (s : State) : Int := s.tu.time

/-- Whole-nanosecond device time, T >> 32 (R289). -/
def State.ns (s : State) : Int := Int.fdiv s.time nsUnit

/-- The media index of the sample period that holds a device time (R34). -/
def State.indexAt (s : State) (t : Int) : Int := Int.fdiv ((t - s.tu.origin * nsUnit) * s.fs) (10 ^ 9 * nsUnit)

/-- The media index now (R34, R35). -/
def State.index (s : State) : Int := s.indexAt s.time

/-- The first device time that lies in the period of index n (R34). -/
def State.startOf (s : State) (n : Int) : Int := s.tu.origin * nsUnit + cdivI (n * (10 ^ 9 * nsUnit)) s.fs

/-- The quantum that holds an index (R29). -/
def State.quantumOf (s : State) (n : Int) : Int := Int.fdiv n s.q

/-- The first quantum boundary not earlier than an index (R37, R63). -/
def State.boundaryFrom (s : State) (n : Int) : Int := cdivI n s.q * s.q

/-- The quantum in progress: the one that holds the media index now (R444; DEDUCED, log entry 7). -/
def State.curQuantum (s : State) : Int := s.quantumOf s.index

/-- First index of the quantum in progress. -/
def State.curFirst (s : State) : Int := s.curQuantum * s.q

/-- The index at whose start quantum k is ready: Step 3 of Table 01-8 (R30). -/
def State.readyIndex (s : State) (k : Int) : Int := k * s.q + s.q + 1

/-- The index at whose start the sinks of quantum k are due: Step 5 of Table 01-8 (R30). -/
def State.deadlineIndex (s : State) (k : Int) : Int := k * s.q + 2 * s.q + 1

/-- Quantum k has reached its readiness time. -/
def State.readyReached (s : State) (k : Int) : Bool := decide (s.readyIndex k ≤ s.index)

/-- Quantum k has reached its sink deadline. -/
def State.deadlineReached (s : State) (k : Int) : Bool := decide (s.deadlineIndex k ≤ s.index)

/-- The earliest apply index E: the first sample of the lowest-numbered quantum whose readiness time lies at least
25 µs ahead (R57). -/
def State.earliest (s : State) : Int :=
  let x := (s.time - s.tu.origin * nsUnit + 25000 * nsUnit) * s.fs
  cdivI (x - (s.q + 1) * (10 ^ 9 * nsUnit)) (s.q * (10 ^ 9 * nsUnit)) * s.q

/-- Δ of R58: (a − E) mod 2^32. -/
def applyDelta (a : Word) (e : Int) : Nat := (a - lo32 e).toNat

/-- The index an apply time selects, or none when it is LATE (R58, R59). -/
def State.selectIndex (s : State) (a : Word) : Option Int :=
  if a = 0 then some s.earliest
  else if applyDelta a s.earliest < 2 ^ 31 then some (s.earliest + applyDelta a s.earliest) else none

/-- The system counter counts: PLL_CNT has locked and REFCLK is there (R292, R309). -/
def TimeUnit.runs (u : TimeUnit) : Bool := u.counting && !u.refLost

/-- The environment's time moves on to t; the raw counter counts along while it runs (R35, R289, R309). -/
def State.atTime (s : State) (t : Nat) : State :=
  { s with now := max s.now t, tu := { s.tu with raw := if s.tu.runs then s.tu.raw + (t - s.now) else s.tu.raw } }

/-- A duration in nanoseconds as ticks of 2.5 ns, rounded up. -/
def ticksOfNs (ns : Nat) : Nat := (ns * 2 + 4) / 5

/-- A duration in microseconds as ticks of 2.5 ns. -/
def ticksOfUs (us : Nat) : Nat := us * 400

/-- Milliseconds as ticks of 2.5 ns. -/
def ticksOfMs (ms : Nat) : Nat := ms * 400000

/-- Take a free value's number and count it. -/
def State.takeFree (s : State) : Nat × State := (s.free, { s with free := s.free + 1 })

end Sys2Proof.Machine
end

