-- ==== Sys2Proof/Machine/Numeric.lean ====
section
/-! DEFINITION. Arithmetic of the whole device: rounding and saturation (R210, R211), the functions that its formulas name,
ramps and crossfades (R135, R141), the interpolation kernels (R115, R206), and the real transforms (R216 to R219). -/
namespace Sys2Proof.Machine

/-! ### Saturation (R210) -/

/-- sat40. -/
def sat40 (x : Int) : Int := satBits 40 x
/-- sat32. -/
def sat32 (x : Int) : Int := satBits 32 x

/-! ### Real functions, in fixed point with 192 fraction bits -/

/-- 1.0. -/
def fxOne : Int := 2 ^ 192
/-- π. -/
def fxPi : Int := 0x3243f6a8885a308d313198a2e03707344a4093822299f31d0
/-- ln 2. -/
def fxLn2 : Int := 0xb17217f7d1cf79abc9e3b39803f2f6af40f343267298b62d
/-- ln 10. -/
def fxLn10 : Int := 0x24d763776aaa2b05ba95b58ae0b4c28a38a3fb3e76977e43a

/-- Product of two fixed-point values. -/
def fxMul (a b : Int) : Int := Int.fdiv (a * b) fxOne

/-- Alternating Taylor terms: the sum from term t on, each next term t × x² / (n (n + 1)), negated. -/
def fxTrig : Nat → Int → Int → Int → Int
  | 0, _, _, _ => 0
  | k + 1, t, x2, n => t + fxTrig k (-(Int.fdiv (fxMul t x2) (n * (n + 1)))) x2 (n + 2)

/-- sin x for x from 0 to π/2. -/
def fxSin0 (x : Int) : Int := fxTrig 40 x (fxMul x x) 2
/-- cos x for x from 0 to π/2. -/
def fxCos0 (x : Int) : Int := fxTrig 40 fxOne (fxMul x x) 1

/-- sin(2π a / b) for b > 0, by quadrants. -/
def fxSinTurn (a : Int) (b : Nat) : Int :=
  let m := a % b
  let q := 4 * m / b
  let r := 4 * m - q * b
  let x := Int.fdiv (fxPi * r) (2 * b)
  if q = 0 then fxSin0 x else if q = 1 then fxCos0 x else if q = 2 then -(fxSin0 x) else -(fxCos0 x)

/-- cos(2π a / b) for b > 0. -/
def fxCosTurn (a : Int) (b : Nat) : Int := fxSinTurn (4 * a + b) (4 * b)

/-- Taylor terms of exp. -/
def fxExpSeries : Nat → Int → Int → Int → Int
  | 0, _, _, _ => 0
  | k + 1, t, x, n => t + fxExpSeries k (Int.fdiv (fxMul t x) n) x (n + 1)

/-- exp x. -/
def fxExp (x : Int) : Int :=
  let k := Int.fdiv x fxLn2
  let e := fxExpSeries 60 fxOne (x - k * fxLn2) 1
  if 0 ≤ k then e * 2 ^ k.toNat else Int.fdiv e (2 ^ (-k).toNat)

/-- Terms of atanh z. -/
def fxAtanhSeries : Nat → Int → Int → Int → Int
  | 0, _, _, _ => 0
  | k + 1, t, z2, n => Int.fdiv t n + fxAtanhSeries k (fxMul t z2) z2 (n + 2)

/-- ln(a / b) for a, b > 0. -/
def fxLn (a b : Nat) : Int :=
  let k : Int := (Nat.log2 a : Int) - (Nat.log2 b : Int)
  let f : Int := if 0 ≤ k then Int.fdiv (a * fxOne) (b * 2 ^ k.toNat) else Int.fdiv (a * fxOne * 2 ^ (-k).toNat) b
  let z := Int.fdiv ((f - fxOne) * fxOne) (f + fxOne)
  2 * fxAtanhSeries 70 z (fxMul z z) 1 + k * fxLn2

/-- Round a fixed-point value times a scale to an integer, half to even (R210). -/
def fxRound (x scale : Int) : Int := rhe (x * scale) fxOne

/-- Integer square root, bit by bit. -/
def isqrtBits : Nat → Nat → Nat → Nat
  | 0, _, r => r
  | b + 1, n, r => let c := r + 2 ^ b; isqrtBits b n (if c * c ≤ n then c else r)

/-- floor √n. -/
def isqrt (n : Nat) : Nat := isqrtBits (Nat.log2 n / 2 + 1) n 0

/-- round(√(a / b)) for b > 0 (R211). -/
def roundSqrt (a b : Nat) : Nat :=
  let r := isqrt (a / b)
  let c := (2 * r + 1) * (2 * r + 1) * b
  if c < 4 * a then r + 1 else if c = 4 * a then (if r % 2 = 0 then r else r + 1) else r

/-- A smoothing coefficient in Q2.30: round((1 − exp(−1 / (T fs))) 2^30), T in units of 0.1 ms (R194, R226). -/
def smoothCoef (tenths fs : Nat) : Int :=
  fxRound (fxOne - fxExp (Int.fdiv (-(10000 * fxOne)) (tenths * fs))) (2 ^ 30)

/-! ### Cosines of any precision (R164) -/

/-- Terms of atan(1 / x) = Σ (−1)^j / ((2j + 1) x^(2j + 1)), from a power of 1 / x on. -/
def arcSeries : Nat → Int → Int → Int → Int
  | 0, _, _, _ => 0
  | k + 1, t, x2, n => Int.fdiv t n - arcSeries k (Int.fdiv t x2) x2 (n + 2)

/-- π with p fraction bits, by π / 4 = 4 atan(1/5) − atan(1/239). -/
def piAt (p : Nat) : Int := 4 * (4 * arcSeries (p / 4 + 4) (2 ^ p / 5) 25 1 - arcSeries (p / 4 + 4) (2 ^ p / 239) 57121 1)

/-- Terms of cos x with p fraction bits, from term t on. -/
def cosSeries (p : Nat) : Nat → Int → Int → Int → Int
  | 0, _, _, _ => 0
  | k + 1, t, x2, n => t - cosSeries p k (Int.fdiv (t * x2) (2 ^ p * n * (n + 1))) x2 (n + 2)

/-- cos(π m / b) for 0 ≤ m ≤ b / 2 with p ≥ 64 fraction bits: exact at its ends, else within 8 p units of its last place. -/
def cosAt (p m b : Nat) : Int :=
  if m = 0 then 2 ^ p else if 2 * m = b then 0
  else let x := Int.fdiv (piAt p * m) b; cosSeries p (p / 4) (2 ^ p) (Int.fdiv (x * x) (2 ^ p)) 1

/-! ### Crossfades and ramps -/

/-- Weights (a_in, a_out) at step j of a crossfade of length len (R135). -/
def fadeWeights (c : Curve) (len j : Nat) : Int × Int :=
  match c with
  | .linear => let a := rhe ((2 * j + 1) * 2 ^ 30) (2 * len); (a, 2 ^ 30 - a)
  | .power => (fxRound (fxSinTurn (2 * j + 1) (8 * len)) (2 ^ 30), fxRound (fxCosTurn (2 * j + 1) (8 * len)) (2 ^ 30))

/-- The combination of a crossfade before saturation (R136, R137). -/
def fadeMix (yOut yIn : Int) (w : Int × Int) : Int := rhe (yOut * w.2 + yIn * w.1) (2 ^ 30)

/-- Gain of a ramp at index n, n ≥ start (R141). -/
def Ramp.at_ (r : Ramp) (n : Int) : Int :=
  if n < r.start + r.len then r.g0 + rhe ((r.g1 - r.g0) * (n - r.start + 1)) r.len else r.g1

/-- Value of a track at an index: its newest ramp that has started, else the start value. -/
def Track.at_ : Track → Int → Int → Int
  | [], d, _ => d
  | r :: rest, d, n => if r.start ≤ n then r.at_ n else Track.at_ rest d n

/-- The value a track ends at. -/
def Track.final (t : Track) (d : Int) : Int := match t with | [] => d | r :: _ => r.g1

/-- Ramps that a reader at the horizon or later can still need. -/
def Track.prune : Track → Int → Track
  | [], _ => []
  | r :: rest, h => if r.start ≤ h then [r] else r :: Track.prune rest h

/-- A change to g1 with a ramp of len samples, taking effect at index n; a change at the same index is overridden (R62, R141). -/
def Track.push (t : Track) (d n : Int) (len : Nat) (g1 : Int) : Track :=
  let older := t.filter fun r => decide (r.start < n)
  ⟨n, len, Track.at_ older d (n - 1), g1⟩ :: older

/-- A step: a change with no ramp. -/
def Track.setAt (t : Track) (d n g1 : Int) : Track := t.push d n 0 g1

/-- A ramp is running at an index. -/
def Track.running (t : Track) (n : Int) : Bool :=
  match t.find? fun r => decide (r.start ≤ n) with | none => false | some r => decide (n < r.start + r.len)

/-- Fades that run at an index, oldest first: those after the newest one that has ended (R137, R138). -/
def fadesRunning {α : Type} (fs : List (Fade α)) (n : Int) : List (Fade α) :=
  ((fs.filter fun f => decide (f.start ≤ n)).reverse.takeWhile fun f => decide (n < f.start + f.len)).reverse

/-- The index at which a change due at n takes effect: where two crossfades run, the first index after the older of them
ends; never before an earlier change, and in the place of one that starts there (R62, R138). -/
def fadeStart {α : Type} (fs : List (Fade α)) (n : Int) : Int :=
  let n0 := fs.foldl (fun m f => max m f.start) n
  match fadesRunning (fs.filter fun f => decide (f.start < n0)) n0 with
  | a :: _ :: _ => a.start + a.len
  | _ => n0

/-! ### Interpolation kernels (R115, R206) -/

/-- A window × sinc value at t = a / 64, half-width w2 / 2 samples, in fixed point. -/
def kernelPoint (a : Int) (w2 : Nat) : Int :=
  let sinc := if a = 0 then fxOne else Int.fdiv (fxSinTurn a 128 * 64 * fxOne) (fxPi * a)
  let win := Int.fdiv (42 * fxOne) 100 + Int.fdiv (fxCosTurn a (64 * w2)) 2 + Int.fdiv (8 * fxCosTurn (2 * a) (64 * w2)) 100
  fxMul sinc win

/-- Add the rounding remainder of a row to its entry of largest magnitude, the lower index winning ties. -/
def fixRow (row : List Int) : List Int :=
  let big := row.foldl (fun m x => max m x.natAbs) 0
  let i := row.findIdx fun x => decide (x.natAbs = big)
  row.set i (row.getD i 0 + (2 ^ 30 - isum row))

/-- A normalised row in Q2.30. -/
def kernelRowOf (pts : List Int) : List Int := let s := isum pts; fixRow (pts.map fun r => rhe (r * 2 ^ 30) s)

/-- Row p of the kernel table c[p][j] (R115). -/
def kernelRow (p : Nat) : List Int := kernelRowOf ((List.range 8).map fun (j : Nat) => kernelPoint (((j : Int) - 3) * 64 - p) 9)

/-- Row k of the true-peak kernel c4[k][j] (R206). -/
def peakRow (k : Nat) : List Int := kernelRowOf ((List.range 12).map fun (j : Nat) => kernelPoint (((j : Int) - 5) * 64 - 16 * k) 12)

/-- A history read at delay τ (Q13.19), the newest sample first: the exact point before saturation (R114). -/
def interpolate (hist : List Int) (tau : Int) : Int :=
  let tq := rhe tau 8192
  let m := (tq / 64).toNat
  let c := kernelRow (tq % 64).toNat
  rhe (isum ((List.range 8).map fun j => c.getD j 0 * hist.getD (m + 1 + j) 0)) (2 ^ 23)

/-- A fabric sample as S7.24 before saturation (R113). -/
def toHistory (x : Int) : Int := rhe x (2 ^ 7)

/-- The dither generator's 64-bit value for a seed at an index (R202). -/
def noiseWord (seed : Nat) (n : Int) : BitVec 64 :=
  let z0 := BitVec.ofInt 64 n ^^^ (BitVec.ofNat 64 seed * 0x9E3779B97F4A7C15#64)
  let z1 := (z0 ^^^ (z0 >>> 30)) * 0xBF58476D1CE4E5B9#64
  let z2 := (z1 ^^^ (z1 >>> 27)) * 0x94D049BB133111EB#64
  z2 ^^^ (z2 >>> 31)

/-! ### Blocks and transforms (R215 to R219) -/

/-- round(c / 2^k), half to even; exact for k ≤ 0 (R216). -/
def shiftRound (c k : Int) : Int := if k ≤ 0 then c * 2 ^ (-k).toNat else rhe c (2 ^ k.toNat)

/-- Whether every component is below 2^29 after narrowing by 2^k. -/
def blockFits (cs : List Int) (k : Int) : Bool := cs.all fun c => decide ((shiftRound c k).natAbs < 2 ^ 29)

/-- The smallest k for which a block fits, from a start value upwards. -/
def leastShift (cs : List Int) : Nat → Int → Int
  | 0, k => k
  | n + 1, k => if blockFits cs k then k else leastShift cs n (k + 1)

/-- Normalise integer components with exponent e (R216): the narrowed components and the new exponent. -/
def normalise (cs : List Int) (e : Int) : List Int × Int :=
  let big := cs.foldl (fun m x => max m x.natAbs) 0
  if big = 0 then (cs, -128)
  else
    let k0 := leastShift cs 3 ((Nat.log2 big : Int) - 28)
    let k := if e + k0 < -127 then -127 - e else k0
    (cs.map fun c => shiftRound c k, e + k)

/-- Normalise complex components. -/
def normaliseC (zs : List (Int × Int)) (e : Int) : List (Int × Int) × Int :=
  let r := normalise (zs.map Prod.fst ++ zs.map Prod.snd) e
  ((r.1.take zs.length).zip (r.1.drop zs.length), r.2)

/-- Twiddle factor W_N^k in Q2.30 (R217). -/
def twiddle (n k : Nat) : Int × Int := (fxRound (fxCosTurn k n) (2 ^ 30), -(fxRound (fxSinTurn k n) (2 ^ 30)))

/-- Exact complex product (R215). -/
def cmul (a b : Int × Int) : Int × Int := (a.1 * b.1 - a.2 * b.2, a.1 * b.2 + a.2 * b.1)
def cadd (a b : Int × Int) : Int × Int := (a.1 + b.1, a.2 + b.2)
def csub (a b : Int × Int) : Int × Int := (a.1 - b.1, a.2 - b.2)
def conj (a : Int × Int) : Int × Int := (a.1, -a.2)
/-- Twiddle product, each part rounded once (R217). -/
def twMul (v w : Int × Int) : Int × Int := let p := cmul v w; (rhe p.1 (2 ^ 30), rhe p.2 (2 ^ 30))

/-- Reversal of the low b bits. -/
def bitrev : Nat → Nat → Nat
  | 0, _ => 0
  | b + 1, i => (i % 2) * 2 ^ b + bitrev b (i / 2)

/-- One stage of butterflies over the whole block (R218 step 3). -/
def fftStage (n h : Nat) (inv : Bool) (a : List (Int × Int)) : List (Int × Int) :=
  (List.range n).map fun i =>
    let t := i % (2 * h) % h
    let lo := i - i % (2 * h) + t
    let w := twiddle n (t * (n / (2 * h)))
    let p := twMul (a.getD (lo + h) (0, 0)) (if inv then conj w else w)
    if i % (2 * h) < h then cadd (a.getD lo (0, 0)) p else csub (a.getD lo (0, 0)) p

/-- Stages s, s + 1, …, normalising after each. -/
def fftStages (n : Nat) (inv : Bool) : Nat → Nat → List (Int × Int) × Int → List (Int × Int) × Int
  | 0, _, a => a
  | k + 1, s, a => fftStages n inv k (s + 1) (normaliseC (fftStage n (2 ^ (s - 1)) inv a.1) a.2)

/-- Steps 2 and 3 of R218 on a normalised block of n = 2^lg values. -/
def fftCore (lg : Nat) (inv : Bool) (a : List (Int × Int) × Int) : List (Int × Int) × Int :=
  fftStages (2 ^ lg) inv lg 1 ((List.range (2 ^ lg)).map (fun i => a.1.getD (bitrev lg i) (0, 0)), a.2)

/-- Forward transform of 2B = 2^(lg + 1) samples: packed words and exponent (R218). -/
def realForward (lg : Nat) (x : List Int) : List (Int × Int) × Int :=
  let b := 2 ^ lg
  let z := fftCore lg false (normaliseC ((List.range b).map fun i => (x.getD (2 * i) 0, x.getD (2 * i + 1) 0)) 0)
  let at_ := fun i => z.1.getD (i % b) (0, 0)
  let ends := [((at_ 0).1 + (at_ 0).2, (0 : Int)), ((at_ 0).1 - (at_ 0).2, 0)]
  let mid := (span 1 (b - 1)).map fun k =>
    let e := cadd (at_ k) (conj (at_ (b - k)))
    let o := csub (at_ k) (conj (at_ (b - k)))
    let w := cmul (twiddle (2 * b) k) o
    (rhe (e.1 * 2 ^ 30 + w.2) (2 ^ 31), rhe (e.2 * 2 ^ 30 - w.1) (2 ^ 31))
  let r := normaliseC (ends ++ mid) z.2
  (((r.1.getD 0 (0, 0)).1, (r.1.getD 1 (0, 0)).1) :: r.1.drop 2, r.2)

/-- Inverse transform of a packed spectrum of B = 2^lg words with exponent e: 2B samples at scale 2^31 (R219). -/
def realInverse (lg : Nat) (xp : List (Int × Int)) (e : Int) : List Int :=
  let b := 2 ^ lg
  if e = -128 then List.replicate (2 * b) 0
  else
    let x0 := (xp.getD 0 (0, 0)).1
    let xb := (xp.getD 0 (0, 0)).2
    let z := (x0 + xb, x0 - xb) :: (span 1 (b - 1)).map fun k =>
      let ev := cadd (xp.getD k (0, 0)) (conj (xp.getD (b - k) (0, 0)))
      let od := csub (xp.getD k (0, 0)) (conj (xp.getD (b - k) (0, 0)))
      let t := twMul od (conj (twiddle (2 * b) k))
      (ev.1 - t.2, ev.2 + t.1)
    let r := fftCore lg true (normaliseC z e)
    let k := (lg : Int) + 1 - r.2
    r.1.flatMap fun v => [shiftRound v.1 k, shiftRound v.2 k]

end Sys2Proof.Machine
end

