-- ==== Sys2Proof/Machine/Types/Regs.lean ====
section
/-! DEFINITION. Shape of the register map (Table 00-4, Table 16-2). -/
namespace Sys2Proof.Machine

/-- Access types of Table 00-4 (R12). -/
inductive Acc where
  | rw | ro | wo | w1c | rc | rws
  deriving DecidableEq, Repr

/-- A field of a register: bits [hi:lo], access type, reset value. -/
structure RegField where
  hi : Nat
  lo : Nat
  acc : Acc
  reset : Nat
  deriving DecidableEq, Repr

/-- A register: block index, offset in the block, array stride and count, and how many blocks repeat it. -/
structure RegRow where
  block : Nat
  off : Nat
  stride : Nat
  count : Nat
  reps : Nat
  fields : List RegField
  deriving DecidableEq, Repr

end Sys2Proof.Machine
end

