-- ==== Sys2Proof/Machine/RegMap.lean ====
section
/-! DEFINITION. The register map: every register of the field tables 06-3, 08-5, 09-7, 10-8, 10-9, 11-8, 11-9, 12-6, 13-12,
13-13, 16-4 to 16-8, 17-7, 17-8, 18-8 and 18-9, with its access types and reset values, and a name for each offset (R12, R471). -/
namespace Sys2Proof.Machine

/-- MW0 offset of DKE_STATUS. -/
def rDkeStatus : Nat := 0x8400
/-- MW0 offset of DKE_CTL. -/
def rDkeCtl : Nat := 0x8404
/-- MW0 offset of DKE_CHANS. -/
def rDkeChans : Nat := 0x8408
/-- MW0 offset of DKE_MUTED. -/
def rDkeMuted : Nat := 0x840c
/-- MW0 offset of DKE_LIMACT. -/
def rDkeLimact : Nat := 0x8410
/-- MW0 offset of DKE_CLIPSUM. -/
def rDkeClipsum : Nat := 0x8414
/-- MW0 offset of DKE_CLAMPSUM. -/
def rDkeClampsum : Nat := 0x8418
/-- MW0 offset of DKE_DLYBASE. -/
def rDkeDlybase : Nat := 0x841c
/-- MW0 offset of SCH_STATUS. -/
def rSchStatus : Nat := 0x8000
/-- MW0 offset of SCH_CTL. -/
def rSchCtl : Nat := 0x8004
/-- MW0 offset of SCH_INFLIGHT. -/
def rSchInflight : Nat := 0x8008
/-- MW0 offset of SCH_READY. -/
def rSchReady : Nat := 0x800c
/-- MW0 offset of SCH_DELAY. -/
def rSchDelay : Nat := 0x8010
/-- MW0 offset of SCH_BITMAP. -/
def rSchBitmap : Nat := 0x8014
/-- MW0 offset of SCH_MISSCNT. -/
def rSchMisscnt : Nat := 0x8018
/-- MW0 offset of SCH_RETIRECNT. -/
def rSchRetirecnt : Nat := 0x801c
/-- MW0 offset of SCH_WAITTOCNT. -/
def rSchWaittocnt : Nat := 0x8020
/-- MW0 offset of SCH_CANCELCNT. -/
def rSchCancelcnt : Nat := 0x8024
/-- MW0 offset of SCH_OVFCNT. -/
def rSchOvfcnt : Nat := 0x8028
/-- MW0 offset of SCH_LASTMISS. -/
def rSchLastmiss : Nat := 0x802c
/-- MW0 offset of SCH_LASTOP. -/
def rSchLastop : Nat := 0x8030
/-- MW0 offset of SCH_LOAD. -/
def rSchLoad : Nat := 0x8034
/-- MW0 offset of SCH_EVT. -/
def rSchEvt : Nat := 0x8038
/-- MW0 offset of SCH_EVTEN. -/
def rSchEvten : Nat := 0x803c
/-- MW0 offset of SAPG_STATUS. -/
def rSapgStatus : Nat := 0x2000
/-- MW0 offset of SAPG_CFG0. -/
def rSapgCfg0 : Nat := 0x2004
/-- MW0 offset of SAPG_CFG1. -/
def rSapgCfg1 : Nat := 0x2008
/-- MW0 offset of SAPG_RATE. -/
def rSapgRate : Nat := 0x200c
/-- MW0 offset of SAPG_PHASE. -/
def rSapgPhase : Nat := 0x2010
/-- MW0 offset of SAPG_XRUN0 to SAPG_XRUN3. -/
def rSapgXrun : Nat := 0x2014
/-- MW0 offset of SAPG_GLITCHCNT. -/
def rSapgGlitchcnt : Nat := 0x2024
/-- MW0 offset of SAPG_STOPCNT. -/
def rSapgStopcnt : Nat := 0x2028
/-- MW0 offset of SAPG_RATECNT. -/
def rSapgRatecnt : Nat := 0x202c
/-- MW0 offset of SAPG_FRAMECNT. -/
def rSapgFramecnt : Nat := 0x2030
/-- MW0 offset of SAPG_SLIPCNT. -/
def rSapgSlipcnt : Nat := 0x2034
/-- MW0 offset of SAPG_EVT. -/
def rSapgEvt : Nat := 0x2038
/-- MW0 offset of SAPG_EVTEN. -/
def rSapgEvten : Nat := 0x203c
/-- MW0 offset of SAPG_WITCTL. -/
def rSapgWitctl : Nat := 0x2040
/-- MW0 offset of SAPG_WITLVL. -/
def rSapgWitlvl : Nat := 0x2044
/-- MW0 offset of SAPG_WTSEL. -/
def rSapgWtsel : Nat := 0x2048
/-- MW0 offset of SAPG_WTPOP. -/
def rSapgWtpop : Nat := 0x204c
/-- MW0 offset of SAPG_WTS0. -/
def rSapgWts0 : Nat := 0x2050
/-- MW0 offset of SAPG_WTS1. -/
def rSapgWts1 : Nat := 0x2054
/-- MW0 offset of SAPG_WTS2. -/
def rSapgWts2 : Nat := 0x2058
/-- MW0 offset of SAPG_WTS3. -/
def rSapgWts3 : Nat := 0x205c
/-- MW0 offset of CLK_STATUS. -/
def rClkStatus : Nat := 0x1800
/-- MW0 offset of CLK_GOOD. -/
def rClkGood : Nat := 0x1804
/-- MW0 offset of CLK_MCG. -/
def rClkMcg : Nat := 0x1808
/-- MW0 offset of CLK_REFCNT. -/
def rClkRefcnt : Nat := 0x180c
/-- MW0 offset of CLK_LOSSCNT. -/
def rClkLosscnt : Nat := 0x1810
/-- MW0 offset of CLK_EVT. -/
def rClkEvt : Nat := 0x1814
/-- MW0 offset of CLK_EVTEN. -/
def rClkEvten : Nat := 0x1818
/-- MW0 offset of TIM_STATUS. -/
def rTimStatus : Nat := 0x1400
/-- MW0 offset of TIM_CTL. -/
def rTimCtl : Nat := 0x1404
/-- MW0 offset of TIM_RAWLO. -/
def rTimRawlo : Nat := 0x1408
/-- MW0 offset of TIM_RAWHI. -/
def rTimRawhi : Nat := 0x140c
/-- MW0 offset of TIM_NSLO. -/
def rTimNslo : Nat := 0x1410
/-- MW0 offset of TIM_NSHI. -/
def rTimNshi : Nat := 0x1414
/-- MW0 offset of TIM_FRAC. -/
def rTimFrac : Nat := 0x1418
/-- MW0 offset of TIM_MEDLO. -/
def rTimMedlo : Nat := 0x141c
/-- MW0 offset of TIM_MEDHI. -/
def rTimMedhi : Nat := 0x1420
/-- MW0 offset of TIM_RATELO. -/
def rTimRatelo : Nat := 0x1424
/-- MW0 offset of TIM_RATEHI. -/
def rTimRatehi : Nat := 0x1428
/-- MW0 offset of TIM_THETA. -/
def rTimTheta : Nat := 0x142c
/-- MW0 offset of TIM_PATHDLY. -/
def rTimPathdly : Nat := 0x1430
/-- MW0 offset of TIM_PPSLO. -/
def rTimPpslo : Nat := 0x1434
/-- MW0 offset of TIM_PPSHI. -/
def rTimPpshi : Nat := 0x1438
/-- MW0 offset of TIM_PPSCNT. -/
def rTimPpscnt : Nat := 0x143c
/-- MW0 offset of TIM_OUTLIER. -/
def rTimOutlier : Nat := 0x1440
/-- MW0 offset of TIM_SEQERR. -/
def rTimSeqerr : Nat := 0x1444
/-- MW0 offset of TIM_BADMSG. -/
def rTimBadmsg : Nat := 0x1448
/-- MW0 offset of TIM_STEPCNT. -/
def rTimStepcnt : Nat := 0x144c
/-- MW0 offset of TIM_HOLDCNT. -/
def rTimHoldcnt : Nat := 0x1450
/-- MW0 offset of TIM_EVT. -/
def rTimEvt : Nat := 0x1454
/-- MW0 offset of TIM_EVTEN. -/
def rTimEvten : Nat := 0x1458
/-- MW0 offset of TIM_ORIGIN. -/
def rTimOrigin : Nat := 0x145c
/-- MW0 offset of TIM_ORIGINHI. -/
def rTimOriginhi : Nat := 0x1460
/-- MW0 offset of MAC_STATUS. -/
def rMacStatus : Nat := 0x5000
/-- MW0 offset of MAC_ADDRLO. -/
def rMacAddrlo : Nat := 0x5008
/-- MW0 offset of MAC_ADDRHI. -/
def rMacAddrhi : Nat := 0x500c
/-- MW0 offset of MAC_RXFIFO. -/
def rMacRxfifo : Nat := 0x5010
/-- MW0 offset of MAC_STHALF. -/
def rMacSthalf : Nat := 0x5014
/-- MW0 offset of MAC_EVT. -/
def rMacEvt : Nat := 0x5018
/-- MW0 offset of MAC_EVTEN. -/
def rMacEvten : Nat := 0x501c
/-- MW0 offset of MAC_RXTAILn. -/
def rMacRxtail : Nat := 0x5020
/-- MW0 offset of MAC_RXHEADn. -/
def rMacRxhead : Nat := 0x5028
/-- MW0 offset of MAC_TXTAILn. -/
def rMacTxtail : Nat := 0x5030
/-- MW0 offset of MAC_TXHEADn. -/
def rMacTxhead : Nat := 0x5038
/-- MW0 offset of MAC_STATn. -/
def rMacStat : Nat := 0x5040
/-- MW0 offset of STE_STATUS. -/
def rSteStatus : Nat := 0x6000
/-- MW0 offset of STE_RXCOUNT. -/
def rSteRxcount : Nat := 0x6004
/-- MW0 offset of STE_TXCOUNT. -/
def rSteTxcount : Nat := 0x6008
/-- MW0 offset of STE_LATECNT. -/
def rSteLatecnt : Nat := 0x600c
/-- MW0 offset of STE_EARLYCNT. -/
def rSteEarlycnt : Nat := 0x6010
/-- MW0 offset of STE_LOSTCNT. -/
def rSteLostcnt : Nat := 0x6014
/-- MW0 offset of STE_DUPCNT. -/
def rSteDupcnt : Nat := 0x6018
/-- MW0 offset of STE_BADPKT. -/
def rSteBadpkt : Nat := 0x601c
/-- MW0 offset of STE_SEQGAP. -/
def rSteSeqgap : Nat := 0x6020
/-- MW0 offset of STE_DOWN. -/
def rSteDown : Nat := 0x6024
/-- MW0 offset of STE_EVT. -/
def rSteEvt : Nat := 0x6028
/-- MW0 offset of STE_EVTEN. -/
def rSteEvten : Nat := 0x602c
/-- MW0 offset of ZEN_STATUS. -/
def rZenStatus : Nat := 0x6400
/-- MW0 offset of ZEN_PEER. -/
def rZenPeer : Nat := 0x6404
/-- MW0 offset of ZEN_HOPDLY. -/
def rZenHopdly : Nat := 0x6408
/-- MW0 offset of ZEN_ARRIVE. -/
def rZenArrive : Nat := 0x640c
/-- MW0 offset of ZEN_LASTLBL. -/
def rZenLastlbl : Nat := 0x6410
/-- MW0 offset of ZEN_FRAMECNT. -/
def rZenFramecnt : Nat := 0x6414
/-- MW0 offset of ZEN_CHKCNT. -/
def rZenChkcnt : Nat := 0x6418
/-- MW0 offset of ZEN_LOCKCNT. -/
def rZenLockcnt : Nat := 0x641c
/-- MW0 offset of ZEN_LBLCNT. -/
def rZenLblcnt : Nat := 0x6420
/-- MW0 offset of ZEN_FIFOCNT. -/
def rZenFifocnt : Nat := 0x6424
/-- MW0 offset of ZEN_EVT. -/
def rZenEvt : Nat := 0x6428
/-- MW0 offset of ZEN_EVTEN. -/
def rZenEvten : Nat := 0x642c
/-- MW0 offset of ZEN_NODE. -/
def rZenNode : Nat := 0x6440
/-- MW0 offset of ZEN_ROOT. -/
def rZenRoot : Nat := 0x6444
/-- MW0 offset of ZEN_POFF. -/
def rZenPoff : Nat := 0x6448
/-- MW0 offset of ZEN_LAPDLY. -/
def rZenLapdly : Nat := 0x644c
/-- MW0 offset of ZEN_MAPCHK. -/
def rZenMapchk : Nat := 0x6450
/-- MW0 offset of ZEN_DROPLOST. -/
def rZenDroplost : Nat := 0x6454
/-- MW0 offset of ZEN_DROPLATE. -/
def rZenDroplate : Nat := 0x6458
/-- MW0 offset of ZEN_MAPERR. -/
def rZenMaperr : Nat := 0x645c
/-- MW0 offset of ZEN_HEADCNT. -/
def rZenHeadcnt : Nat := 0x6460
/-- MW0 offset of ZEN_NEVT. -/
def rZenNevt : Nat := 0x6464
/-- MW0 offset of ZEN_NEVTEN. -/
def rZenNevten : Nat := 0x6468
/-- MW0 offset of TWN_STATUS. -/
def rTwnStatus : Nat := 0xc00
/-- MW0 offset of TWN_CFG. -/
def rTwnCfg : Nat := 0xc04
/-- MW0 offset of TWN_HOLDOFF. -/
def rTwnHoldoff : Nat := 0xc08
/-- MW0 offset of TWN_EPOCH. -/
def rTwnEpoch : Nat := 0xc0c
/-- MW0 offset of TWN_LEASE. -/
def rTwnLease : Nat := 0xc10
/-- MW0 offset of TWN_SIGLO. -/
def rTwnSiglo : Nat := 0xc14
/-- MW0 offset of TWN_SIGHI. -/
def rTwnSighi : Nat := 0xc18
/-- MW0 offset of TWN_SIGIDX. -/
def rTwnSigidx : Nat := 0xc1c
/-- MW0 offset of TWN_MISMATCH. -/
def rTwnMismatch : Nat := 0xc20
/-- MW0 offset of TWN_EXCUSED. -/
def rTwnExcused : Nat := 0xc24
/-- MW0 offset of TWN_SIGMISS. -/
def rTwnSigmiss : Nat := 0xc28
/-- MW0 offset of TWN_HANDCNT. -/
def rTwnHandcnt : Nat := 0xc2c
/-- MW0 offset of TWN_CLAIMCNT. -/
def rTwnClaimcnt : Nat := 0xc30
/-- MW0 offset of TWN_SHADOWPKT. -/
def rTwnShadowpkt : Nat := 0xc34
/-- MW0 offset of TWN_HEAL. -/
def rTwnHeal : Nat := 0xc38
/-- MW0 offset of TWN_SKEW. -/
def rTwnSkew : Nat := 0xc3c
/-- MW0 offset of TWN_PHASE. -/
def rTwnPhase : Nat := 0xc40
/-- MW0 offset of TWN_EVT. -/
def rTwnEvt : Nat := 0xc44
/-- MW0 offset of TWN_EVTEN. -/
def rTwnEvten : Nat := 0xc48
/-- MW0 offset of TWL_STATUS. -/
def rTwlStatus : Nat := 0x7400
/-- MW0 offset of TWL_DELAY. -/
def rTwlDelay : Nat := 0x7404
/-- MW0 offset of TWL_MIRROR. -/
def rTwlMirror : Nat := 0x7408
/-- MW0 offset of TWL_SNAPKIB. -/
def rTwlSnapkib : Nat := 0x740c
/-- MW0 offset of TWL_FRAMECNT. -/
def rTwlFramecnt : Nat := 0x7410
/-- MW0 offset of TWL_CHKCNT. -/
def rTwlChkcnt : Nat := 0x7414
/-- MW0 offset of TWL_LOCKCNT. -/
def rTwlLockcnt : Nat := 0x7418
/-- MW0 offset of TWL_SEQERR. -/
def rTwlSeqerr : Nat := 0x741c
/-- MW0 offset of TWL_MIRLATE. -/
def rTwlMirlate : Nat := 0x7420
/-- MW0 offset of TWL_COPYCNT. -/
def rTwlCopycnt : Nat := 0x7424
/-- MW0 offset of TWL_EVT. -/
def rTwlEvt : Nat := 0x7428
/-- MW0 offset of TWL_EVTEN. -/
def rTwlEvten : Nat := 0x742c
/-- MW0 offset of GLB_ID. -/
def rGlbId : Nat := 0x0
/-- MW0 offset of GLB_REV. -/
def rGlbRev : Nat := 0x4
/-- MW0 offset of GLB_STATE. -/
def rGlbState : Nat := 0x8
/-- MW0 offset of GLB_SCRATCHn. -/
def rGlbScratch : Nat := 0x10
/-- MW0 offset of GLB_WLOST0. -/
def rGlbWlost0 : Nat := 0x20
/-- MW0 offset of GLB_WLOST1. -/
def rGlbWlost1 : Nat := 0x24
/-- MW0 offset of GLB_OFFACC. -/
def rGlbOffacc : Nat := 0x28
/-- MW0 offset of GLB_BADACC. -/
def rGlbBadacc : Nat := 0x2c
/-- MW0 offset of GLB_LASTBAD. -/
def rGlbLastbad : Nat := 0x30
/-- MW0 offset of IRQ_PEND. -/
def rIrqPend : Nat := 0x400
/-- MW0 offset of IRQ_ENMSI. -/
def rIrqEnmsi : Nat := 0x404
/-- MW0 offset of IRQ_ENPIN. -/
def rIrqEnpin : Nat := 0x408
/-- MW0 offset of IRQ_EOI. -/
def rIrqEoi : Nat := 0x40c
/-- MW0 offset of IRQ_ARMED. -/
def rIrqArmed : Nat := 0x410
/-- MW0 offset of IRQ_PIN. -/
def rIrqPin : Nat := 0x414
/-- MW0 offset of IRQ_SAPG. -/
def rIrqSapg : Nat := 0x418
/-- MW0 offset of IRQ_MSICNT. -/
def rIrqMsicnt : Nat := 0x41c
/-- MW0 offset of IRQ_PBA0. -/
def rIrqPba0 : Nat := 0x500
/-- MW0 offset of IRQ_MSIXADDRLOn. -/
def rIrqMsixaddrlo : Nat := 0x600
/-- MW0 offset of IRQ_MSIXADDRHIn. -/
def rIrqMsixaddrhi : Nat := 0x604
/-- MW0 offset of IRQ_MSIXDATAn. -/
def rIrqMsixdata : Nat := 0x608
/-- MW0 offset of IRQ_MSIXCTLn. -/
def rIrqMsixctl : Nat := 0x60c
/-- MW0 offset of CMD_CFGn. -/
def rCmdCfg : Nat := 0x1000
/-- MW0 offset of CMD_BASELOn. -/
def rCmdBaselo : Nat := 0x1004
/-- MW0 offset of CMD_BASEHIn. -/
def rCmdBasehi : Nat := 0x1008
/-- MW0 offset of CMD_CTAILn. -/
def rCmdCtail : Nat := 0x100c
/-- MW0 offset of CMD_RCONSn. -/
def rCmdRcons : Nat := 0x1010
/-- MW0 offset of CMD_PTRn. -/
def rCmdPtr : Nat := 0x1014
/-- MW0 offset of CMD_RINGERRn. -/
def rCmdRingerr : Nat := 0x1018
/-- MW0 offset of CMD_GSTAT. -/
def rCmdGstat : Nat := 0x1100
/-- MW0 offset of CMD_SPI. -/
def rCmdSpi : Nat := 0x1104
/-- MW0 offset of EVT_NEWEST. -/
def rEvtNewest : Nat := 0x1c00
/-- MW0 offset of EVT_OLDEST. -/
def rEvtOldest : Nat := 0x1c04
/-- MW0 offset of EVT_ACKSEQ. -/
def rEvtAckseq : Nat := 0x1c08
/-- MW0 offset of EVT_CTL. -/
def rEvtCtl : Nat := 0x1c0c
/-- MW0 offset of EVT_EVT. -/
def rEvtEvt : Nat := 0x1c10
/-- MW0 offset of EVT_EVTEN. -/
def rEvtEvten : Nat := 0x1c14
/-- MW0 offset of EVT_LOSTCNT. -/
def rEvtLostcnt : Nat := 0x1c18
/-- MW0 offset of TAP_STATUS. -/
def rTapStatus : Nat := 0x8800
/-- MW0 offset of TAP_EVT. -/
def rTapEvt : Nat := 0x8804
/-- MW0 offset of TAP_EVTEN. -/
def rTapEvten : Nat := 0x8808
/-- MW0 offset of TAP_STREAMS. -/
def rTapStreams : Nat := 0x880c
/-- MW0 offset of TAP_MISSCNT. -/
def rTapMisscnt : Nat := 0x8810
/-- MW0 offset of TAP_LOSTCNT. -/
def rTapLostcnt : Nat := 0x8814
/-- MW0 offset of BMX_STATUS. -/
def rBmxStatus : Nat := 0x7c00
/-- MW0 offset of BMX_CTL. -/
def rBmxCtl : Nat := 0x7c04
/-- MW0 offset of BMX_ISO. -/
def rBmxIso : Nat := 0x7c08
/-- MW0 offset of BMX_POLST0. -/
def rBmxPolst0 : Nat := 0x7c0c
/-- MW0 offset of BMX_POLST1. -/
def rBmxPolst1 : Nat := 0x7c10
/-- MW0 offset of BMX_HANGCNT. -/
def rBmxHangcnt : Nat := 0x7c14
/-- MW0 offset of BMX_HANGMST. -/
def rBmxHangmst : Nat := 0x7c18
/-- MW0 offset of BMX_HANGADLO. -/
def rBmxHangadlo : Nat := 0x7c1c
/-- MW0 offset of BMX_HANGADHI. -/
def rBmxHangadhi : Nat := 0x7c20
/-- MW0 offset of BMX_LATERSP. -/
def rBmxLatersp : Nat := 0x7c24
/-- MW0 offset of BMX_ECCCOR. -/
def rBmxEcccor : Nat := 0x7c28
/-- MW0 offset of BMX_ECCUNC. -/
def rBmxEccunc : Nat := 0x7c2c
/-- MW0 offset of BMX_ECCADDR. -/
def rBmxEccaddr : Nat := 0x7c30
/-- MW0 offset of BMX_EVT. -/
def rBmxEvt : Nat := 0x7c34
/-- MW0 offset of BMX_EVTEN. -/
def rBmxEvten : Nat := 0x7c38
/-- MW0 offset of BMX_QOSn. -/
def rBmxQos : Nat := 0x7c40
/-- MW0 offset of BMX_OUTSTn. -/
def rBmxOutst : Nat := 0x7c80
/-- MW0 offset of DRM_STATUS. -/
def rDrmStatus : Nat := 0x7800
/-- MW0 offset of DRM_CFG. -/
def rDrmCfg : Nat := 0x7804
/-- MW0 offset of DRM_CTL. -/
def rDrmCtl : Nat := 0x7808
/-- MW0 offset of DRM_TEMP. -/
def rDrmTemp : Nat := 0x780c
/-- MW0 offset of DRM_FWDCNT. -/
def rDrmFwdcnt : Nat := 0x7810
/-- MW0 offset of DRM_NRCNT. -/
def rDrmNrcnt : Nat := 0x7814
/-- MW0 offset of DRM_SRCNT. -/
def rDrmSrcnt : Nat := 0x7818
/-- MW0 offset of DRM_SRABORT. -/
def rDrmSrabort : Nat := 0x781c
/-- MW0 offset of DRM_SRWAIT. -/
def rDrmSrwait : Nat := 0x7820
/-- MW0 offset of DRM_LATMAX. -/
def rDrmLatmax : Nat := 0x7824
/-- MW0 offset of DRM_EVT. -/
def rDrmEvt : Nat := 0x7828
/-- MW0 offset of DRM_EVTEN. -/
def rDrmEvten : Nat := 0x782c
/-- MW0 offset of DRM_TMGAn. -/
def rDrmTmga : Nat := 0x7840
/-- MW0 offset of DRM_TMGBn. -/
def rDrmTmgb : Nat := 0x7850
/-- MW0 offset of DRM_DLYn. -/
def rDrmDly : Nat := 0x7880
/-- MW0 offset of RPC_STATUS. -/
def rRpcStatus : Nat := 0x800
/-- MW0 offset of RPC_CTL. -/
def rRpcCtl : Nat := 0x804
/-- MW0 offset of RPC_LASTCAUSE. -/
def rRpcLastcause : Nat := 0x808
/-- MW0 offset of RPC_RESETCNT. -/
def rRpcResetcnt : Nat := 0x80c
/-- MW0 offset of RPC_PDREQ. -/
def rRpcPdreq : Nat := 0x810
/-- MW0 offset of RPC_PDSTAT. -/
def rRpcPdstat : Nat := 0x814
/-- MW0 offset of RPC_PDERR. -/
def rRpcPderr : Nat := 0x818
/-- MW0 offset of RPC_VCORE. -/
def rRpcVcore : Nat := 0x81c
/-- MW0 offset of RPC_VAON. -/
def rRpcVaon : Nat := 0x820
/-- MW0 offset of RPC_BRLAST. -/
def rRpcBrlast : Nat := 0x824
/-- MW0 offset of RPC_BRCNT. -/
def rRpcBrcnt : Nat := 0x828
/-- MW0 offset of RPC_KEEPCRC. -/
def rRpcKeepcrc : Nat := 0x82c
/-- MW0 offset of RPC_GPIO. -/
def rRpcGpio : Nat := 0x830
/-- MW0 offset of RPC_GPIOIN. -/
def rRpcGpioin : Nat := 0x834
/-- MW0 offset of RPC_EVT. -/
def rRpcEvt : Nat := 0x838
/-- MW0 offset of RPC_EVTEN. -/
def rRpcEvten : Nat := 0x83c
/-- MW0 offset of RPC_HELD. -/
def rRpcHeld : Nat := 0x840
/-- MW0 offset of RPC_BKPn. -/
def rRpcBkp : Nat := 0x880
/-- MW0 offset of RPC_BKP31. -/
def rRpcBkp31 : Nat := 0x8fc
/-- MW0 offset of FUS_STATUS. -/
def rFusStatus : Nat := 0x8c00
/-- MW0 offset of FUS_MAP. -/
def rFusMap : Nat := 0x8c04
/-- MW0 offset of FUS_SERLO. -/
def rFusSerlo : Nat := 0x8c08
/-- MW0 offset of FUS_SERHI. -/
def rFusSerhi : Nat := 0x8c0c
/-- MW0 offset of FUS_BALLSEL. -/
def rFusBallsel : Nat := 0x8c10
/-- MW0 offset of FUS_BALLCODE. -/
def rFusBallcode : Nat := 0x8c14
/-- MW0 offset of FUS_CRC. -/
def rFusCrc : Nat := 0x8c18

/-- Registers, part 0. -/
def regRows0 : List RegRow := [
  ⟨33, 0x0, 0, 1, 1, [⟨0, 0, .ro, 0x0⟩, ⟨1, 1, .w1c, 0x0⟩, ⟨2, 2, .ro, 0x0⟩]⟩,
  ⟨33, 0x4, 0, 1, 1, [⟨3, 0, .rw, 0x6⟩]⟩,
  ⟨33, 0x8, 0, 1, 1, [⟨11, 0, .ro, 0x0⟩]⟩,
  ⟨33, 0xc, 0, 1, 1, [⟨11, 0, .ro, 0x0⟩]⟩,
  ⟨33, 0x10, 0, 1, 1, [⟨11, 0, .ro, 0x0⟩]⟩,
  ⟨33, 0x14, 0, 1, 1, [⟨31, 0, .rc, 0x0⟩]⟩,
  ⟨33, 0x18, 0, 1, 1, [⟨31, 0, .rc, 0x0⟩]⟩,
  ⟨33, 0x1c, 0, 1, 1, [⟨31, 0, .ro, 0x0⟩]⟩,
  ⟨32, 0x0, 0, 1, 1, [⟨0, 0, .ro, 0x0⟩, ⟨1, 1, .w1c, 0x0⟩, ⟨2, 2, .ro, 0x0⟩, ⟨3, 3, .ro, 0x0⟩]⟩,
  ⟨32, 0x4, 0, 1, 1, [⟨3, 0, .rw, 0x4⟩, ⟨27, 16, .rw, 0xe00⟩]⟩,
  ⟨32, 0x8, 0, 1, 1, [⟨7, 0, .ro, 0x0⟩, ⟨23, 16, .rc, 0x0⟩]⟩,
  ⟨32, 0xc, 0, 1, 1, [⟨12, 0, .ro, 0x0⟩, ⟨28, 16, .rc, 0x0⟩]⟩,
  ⟨32, 0x10, 0, 1, 1, [⟨13, 0, .ro, 0x0⟩]⟩,
  ⟨32, 0x14, 0, 1, 1, [⟨15, 0, .ro, 0x0⟩]⟩,
  ⟨32, 0x18, 0, 1, 1, [⟨31, 0, .rc, 0x0⟩]⟩,
  ⟨32, 0x1c, 0, 1, 1, [⟨31, 0, .rc, 0x0⟩]⟩,
  ⟨32, 0x20, 0, 1, 1, [⟨31, 0, .rc, 0x0⟩]⟩,
  ⟨32, 0x24, 0, 1, 1, [⟨31, 0, .rc, 0x0⟩]⟩,
  ⟨32, 0x28, 0, 1, 1, [⟨31, 0, .rc, 0x0⟩]⟩,
  ⟨32, 0x2c, 0, 1, 1, [⟨31, 0, .ro, 0x0⟩]⟩,
  ⟨32, 0x30, 0, 1, 1, [⟨13, 0, .ro, 0x0⟩, ⟨23, 16, .ro, 0x0⟩]⟩,
  ⟨32, 0x34, 0, 1, 1, [⟨9, 0, .ro, 0x0⟩, ⟨25, 16, .rc, 0x0⟩]⟩,
  ⟨32, 0x38, 0, 1, 1, [⟨0, 0, .w1c, 0x0⟩, ⟨1, 1, .w1c, 0x0⟩, ⟨2, 2, .w1c, 0x0⟩, ⟨3, 3, .w1c, 0x0⟩, ⟨4, 4, .w1c, 0x0⟩]⟩,
  ⟨32, 0x3c, 0, 1, 1, [⟨4, 0, .rw, 0x7⟩]⟩,
  ⟨8, 0x0, 0, 1, 12, [⟨2, 0, .ro, 0x0⟩, ⟨3, 3, .ro, 0x0⟩, ⟨7, 4, .ro, 0xf⟩, ⟨11, 8, .ro, 0x0⟩]⟩,
  ⟨8, 0x4, 0, 1, 12, [⟨31, 0, .ro, 0x0⟩]⟩,
  ⟨8, 0x8, 0, 1, 12, [⟨31, 0, .ro, 0x1000⟩]⟩,
  ⟨8, 0xc, 0, 1, 12, [⟨15, 0, .ro, 0x0⟩]⟩,
  ⟨8, 0x10, 0, 1, 12, [⟨15, 0, .ro, 0x0⟩]⟩,
  ⟨8, 0x14, 4, 4, 12, [⟨31, 0, .rc, 0x0⟩]⟩,
  ⟨8, 0x24, 0, 1, 12, [⟨31, 0, .rc, 0x0⟩]⟩,
  ⟨8, 0x28, 0, 1, 12, [⟨31, 0, .rc, 0x0⟩]⟩]
/-- Registers, part 1. -/
def regRows1 : List RegRow := [
  ⟨8, 0x2c, 0, 1, 12, [⟨31, 0, .rc, 0x0⟩]⟩,
  ⟨8, 0x30, 0, 1, 12, [⟨31, 0, .rc, 0x0⟩]⟩,
  ⟨8, 0x34, 0, 1, 12, [⟨31, 0, .rc, 0x0⟩]⟩,
  ⟨8, 0x38, 0, 1, 12, [⟨0, 0, .w1c, 0x0⟩, ⟨1, 1, .w1c, 0x0⟩, ⟨2, 2, .w1c, 0x0⟩, ⟨3, 3, .w1c, 0x0⟩, ⟨4, 4, .w1c, 0x0⟩, ⟨5, 5, .w1c, 0x0⟩, ⟨6, 6, .w1c, 0x0⟩, ⟨7, 7, .w1c, 0x0⟩]⟩,
  ⟨8, 0x3c, 0, 1, 12, [⟨7, 0, .rw, 0x47⟩]⟩,
  ⟨8, 0x40, 0, 1, 1, [⟨15, 0, .rw, 0x0⟩, ⟨19, 16, .rw, 0x0⟩]⟩,
  ⟨8, 0x44, 0, 1, 1, [⟨31, 0, .ro, 0x0⟩]⟩,
  ⟨8, 0x48, 0, 1, 1, [⟨1, 0, .rw, 0x0⟩]⟩,
  ⟨8, 0x4c, 0, 1, 1, [⟨0, 0, .wo, 0x0⟩]⟩,
  ⟨8, 0x50, 0, 1, 1, [⟨31, 0, .ro, 0x0⟩]⟩,
  ⟨8, 0x54, 0, 1, 1, [⟨31, 0, .ro, 0x0⟩]⟩,
  ⟨8, 0x58, 0, 1, 1, [⟨31, 0, .ro, 0x0⟩]⟩,
  ⟨8, 0x5c, 0, 1, 1, [⟨0, 0, .ro, 0x0⟩, ⟨1, 1, .ro, 0x0⟩]⟩,
  ⟨6, 0x0, 0, 1, 1, [⟨0, 0, .ro, 0x0⟩, ⟨1, 1, .w1c, 0x0⟩, ⟨2, 2, .ro, 0x0⟩, ⟨7, 3, .ro, 0x0⟩]⟩,
  ⟨6, 0x4, 0, 1, 1, [⟨31, 0, .ro, 0x0⟩]⟩,
  ⟨6, 0x8, 0, 1, 1, [⟨12, 0, .ro, 0x0⟩]⟩,
  ⟨6, 0xc, 0, 1, 1, [⟨19, 0, .ro, 0x0⟩]⟩,
  ⟨6, 0x10, 0, 1, 1, [⟨31, 0, .rc, 0x0⟩]⟩,
  ⟨6, 0x14, 0, 1, 1, [⟨0, 0, .w1c, 0x0⟩, ⟨5, 1, .w1c, 0x0⟩]⟩,
  ⟨6, 0x18, 0, 1, 1, [⟨5, 0, .rw, 0x3f⟩]⟩,
  ⟨5, 0x0, 0, 1, 1, [⟨0, 0, .ro, 0x0⟩, ⟨1, 1, .w1c, 0x0⟩, ⟨2, 2, .ro, 0x0⟩, ⟨3, 3, .ro, 0x0⟩, ⟨4, 4, .ro, 0x0⟩, ⟨7, 5, .ro, 0x0⟩, ⟨10, 8, .ro, 0x0⟩]⟩,
  ⟨5, 0x4, 0, 1, 1, [⟨0, 0, .wo, 0x0⟩]⟩,
  ⟨5, 0x8, 0, 1, 1, [⟨31, 0, .ro, 0x0⟩]⟩,
  ⟨5, 0xc, 0, 1, 1, [⟨31, 0, .ro, 0x0⟩]⟩,
  ⟨5, 0x10, 0, 1, 1, [⟨31, 0, .ro, 0x0⟩]⟩,
  ⟨5, 0x14, 0, 1, 1, [⟨31, 0, .ro, 0x0⟩]⟩,
  ⟨5, 0x18, 0, 1, 1, [⟨31, 0, .ro, 0x0⟩]⟩,
  ⟨5, 0x1c, 0, 1, 1, [⟨31, 0, .ro, 0x0⟩]⟩,
  ⟨5, 0x20, 0, 1, 1, [⟨31, 0, .ro, 0x0⟩]⟩,
  ⟨5, 0x24, 0, 1, 1, [⟨31, 0, .ro, 0x0⟩]⟩,
  ⟨5, 0x28, 0, 1, 1, [⟨15, 0, .ro, 0x4000⟩]⟩,
  ⟨5, 0x2c, 0, 1, 1, [⟨31, 0, .ro, 0x0⟩]⟩]
/-- Registers, part 2. -/
def regRows2 : List RegRow := [
  ⟨5, 0x30, 0, 1, 1, [⟨31, 0, .ro, 0x0⟩]⟩,
  ⟨5, 0x34, 0, 1, 1, [⟨31, 0, .ro, 0x0⟩]⟩,
  ⟨5, 0x38, 0, 1, 1, [⟨31, 0, .ro, 0x0⟩]⟩,
  ⟨5, 0x3c, 0, 1, 1, [⟨31, 0, .ro, 0x0⟩]⟩,
  ⟨5, 0x40, 0, 1, 1, [⟨31, 0, .rc, 0x0⟩]⟩,
  ⟨5, 0x44, 0, 1, 1, [⟨31, 0, .rc, 0x0⟩]⟩,
  ⟨5, 0x48, 0, 1, 1, [⟨31, 0, .rc, 0x0⟩]⟩,
  ⟨5, 0x4c, 0, 1, 1, [⟨31, 0, .rc, 0x0⟩]⟩,
  ⟨5, 0x50, 0, 1, 1, [⟨31, 0, .rc, 0x0⟩]⟩,
  ⟨5, 0x54, 0, 1, 1, [⟨0, 0, .w1c, 0x0⟩, ⟨1, 1, .w1c, 0x0⟩, ⟨2, 2, .w1c, 0x0⟩, ⟨3, 3, .w1c, 0x0⟩, ⟨4, 4, .w1c, 0x0⟩, ⟨5, 5, .w1c, 0x0⟩]⟩,
  ⟨5, 0x58, 0, 1, 1, [⟨5, 0, .rw, 0x3e⟩]⟩,
  ⟨5, 0x5c, 0, 1, 1, [⟨31, 0, .ro, 0x0⟩]⟩,
  ⟨5, 0x60, 0, 1, 1, [⟨31, 0, .ro, 0x0⟩]⟩,
  ⟨20, 0x0, 0, 1, 4, [⟨0, 0, .ro, 0x0⟩, ⟨1, 1, .w1c, 0x0⟩, ⟨2, 2, .ro, 0x0⟩, ⟨5, 4, .ro, 0x0⟩, ⟨6, 6, .ro, 0x0⟩, ⟨7, 7, .ro, 0x0⟩]⟩,
  ⟨20, 0x4, 0, 1, 4, [⟨31, 0, .ro, 0x0⟩]⟩,
  ⟨20, 0x8, 0, 1, 4, [⟨31, 0, .ro, 0x0⟩]⟩,
  ⟨20, 0xc, 0, 1, 4, [⟨15, 0, .ro, 0x0⟩]⟩,
  ⟨20, 0x10, 0, 1, 4, [⟨17, 0, .ro, 0x0⟩]⟩,
  ⟨20, 0x14, 0, 1, 4, [⟨31, 0, .w1c, 0x0⟩]⟩,
  ⟨20, 0x18, 0, 1, 4, [⟨0, 0, .w1c, 0x0⟩, ⟨1, 1, .w1c, 0x0⟩, ⟨2, 2, .w1c, 0x0⟩, ⟨3, 3, .w1c, 0x0⟩, ⟨4, 4, .w1c, 0x0⟩, ⟨5, 5, .w1c, 0x0⟩, ⟨6, 6, .w1c, 0x0⟩]⟩,
  ⟨20, 0x1c, 0, 1, 4, [⟨6, 0, .rw, 0x27⟩]⟩,
  ⟨20, 0x20, 4, 2, 4, [⟨11, 0, .rw, 0x0⟩]⟩,
  ⟨20, 0x28, 4, 2, 4, [⟨11, 0, .ro, 0x0⟩]⟩,
  ⟨20, 0x30, 4, 2, 4, [⟨11, 0, .rw, 0x0⟩]⟩,
  ⟨20, 0x38, 4, 2, 4, [⟨11, 0, .ro, 0x0⟩]⟩,
  ⟨20, 0x40, 4, 32, 4, [⟨31, 0, .rc, 0x0⟩]⟩,
  ⟨24, 0x0, 0, 1, 1, [⟨0, 0, .ro, 0x0⟩, ⟨1, 1, .w1c, 0x0⟩]⟩,
  ⟨24, 0x4, 0, 1, 1, [⟨8, 0, .ro, 0x0⟩, ⟨27, 16, .ro, 0x0⟩]⟩,
  ⟨24, 0x8, 0, 1, 1, [⟨8, 0, .ro, 0x0⟩, ⟨27, 16, .ro, 0x0⟩]⟩,
  ⟨24, 0xc, 0, 1, 1, [⟨31, 0, .rc, 0x0⟩]⟩,
  ⟨24, 0x10, 0, 1, 1, [⟨31, 0, .rc, 0x0⟩]⟩,
  ⟨24, 0x14, 0, 1, 1, [⟨31, 0, .rc, 0x0⟩]⟩]
/-- Registers, part 3. -/
def regRows3 : List RegRow := [
  ⟨24, 0x18, 0, 1, 1, [⟨31, 0, .rc, 0x0⟩]⟩,
  ⟨24, 0x1c, 0, 1, 1, [⟨31, 0, .rc, 0x0⟩]⟩,
  ⟨24, 0x20, 0, 1, 1, [⟨31, 0, .rc, 0x0⟩]⟩,
  ⟨24, 0x24, 0, 1, 1, [⟨8, 0, .ro, 0x0⟩]⟩,
  ⟨24, 0x28, 0, 1, 1, [⟨0, 0, .w1c, 0x0⟩, ⟨1, 1, .w1c, 0x0⟩, ⟨2, 2, .w1c, 0x0⟩, ⟨3, 3, .w1c, 0x0⟩, ⟨4, 4, .w1c, 0x0⟩, ⟨5, 5, .w1c, 0x0⟩]⟩,
  ⟨24, 0x2c, 0, 1, 1, [⟨5, 0, .rw, 0x23⟩]⟩,
  ⟨25, 0x0, 0, 1, 4, [⟨0, 0, .ro, 0x0⟩, ⟨1, 1, .w1c, 0x0⟩, ⟨2, 2, .ro, 0x0⟩, ⟨3, 3, .ro, 0x0⟩, ⟨5, 4, .ro, 0x0⟩, ⟨7, 6, .ro, 0x0⟩, ⟨8, 8, .ro, 0x0⟩]⟩,
  ⟨25, 0x4, 0, 1, 4, [⟨11, 0, .ro, 0x0⟩, ⟨13, 12, .ro, 0x0⟩, ⟨14, 14, .ro, 0x0⟩]⟩,
  ⟨25, 0x8, 0, 1, 4, [⟨19, 0, .ro, 0x0⟩]⟩,
  ⟨25, 0xc, 0, 1, 4, [⟨23, 0, .ro, 0x0⟩]⟩,
  ⟨25, 0x10, 0, 1, 4, [⟨31, 0, .ro, 0x0⟩]⟩,
  ⟨25, 0x14, 0, 1, 4, [⟨31, 0, .rc, 0x0⟩]⟩,
  ⟨25, 0x18, 0, 1, 4, [⟨31, 0, .rc, 0x0⟩]⟩,
  ⟨25, 0x1c, 0, 1, 4, [⟨31, 0, .rc, 0x0⟩]⟩,
  ⟨25, 0x20, 0, 1, 4, [⟨31, 0, .rc, 0x0⟩]⟩,
  ⟨25, 0x24, 0, 1, 4, [⟨31, 0, .rc, 0x0⟩]⟩,
  ⟨25, 0x28, 0, 1, 4, [⟨0, 0, .w1c, 0x0⟩, ⟨1, 1, .w1c, 0x0⟩, ⟨2, 2, .w1c, 0x0⟩, ⟨3, 3, .w1c, 0x0⟩, ⟨4, 4, .w1c, 0x0⟩]⟩,
  ⟨25, 0x2c, 0, 1, 4, [⟨4, 0, .rw, 0x5⟩]⟩,
  ⟨25, 0x40, 0, 1, 1, [⟨11, 0, .ro, 0x0⟩, ⟨12, 12, .ro, 0x0⟩, ⟨13, 13, .ro, 0x0⟩, ⟨15, 14, .ro, 0x0⟩, ⟨18, 16, .ro, 0x0⟩, ⟨19, 19, .ro, 0x0⟩, ⟨27, 20, .ro, 0x0⟩, ⟨28, 28, .ro, 0x0⟩, ⟨29, 29, .ro, 0x0⟩]⟩,
  ⟨25, 0x44, 0, 1, 1, [⟨11, 0, .ro, 0x0⟩, ⟨27, 16, .ro, 0x0⟩]⟩,
  ⟨25, 0x48, 0, 1, 1, [⟨12, 0, .ro, 0x0⟩, ⟨28, 16, .ro, 0x0⟩]⟩,
  ⟨25, 0x4c, 0, 1, 1, [⟨23, 0, .ro, 0x0⟩]⟩,
  ⟨25, 0x50, 0, 1, 1, [⟨15, 0, .ro, 0x0⟩, ⟨24, 16, .ro, 0x0⟩]⟩,
  ⟨25, 0x54, 0, 1, 1, [⟨31, 0, .rc, 0x0⟩]⟩,
  ⟨25, 0x58, 0, 1, 1, [⟨31, 0, .rc, 0x0⟩]⟩,
  ⟨25, 0x5c, 0, 1, 1, [⟨31, 0, .rc, 0x0⟩]⟩,
  ⟨25, 0x60, 0, 1, 1, [⟨31, 0, .rc, 0x0⟩]⟩,
  ⟨25, 0x64, 0, 1, 1, [⟨0, 0, .w1c, 0x0⟩, ⟨1, 1, .w1c, 0x0⟩, ⟨2, 2, .w1c, 0x0⟩, ⟨3, 3, .w1c, 0x0⟩, ⟨4, 4, .w1c, 0x0⟩, ⟨5, 5, .w1c, 0x0⟩]⟩,
  ⟨25, 0x68, 0, 1, 1, [⟨5, 0, .rw, 0x2f⟩]⟩,
  ⟨3, 0x0, 0, 1, 1, [⟨2, 0, .ro, 0x0⟩, ⟨3, 3, .ro, 0x0⟩, ⟨4, 4, .ro, 0x0⟩, ⟨5, 5, .ro, 0x0⟩, ⟨6, 6, .ro, 0x0⟩, ⟨7, 7, .ro, 0x0⟩, ⟨8, 8, .ro, 0x0⟩, ⟨9, 9, .ro, 0x0⟩, ⟨10, 10, .w1c, 0x0⟩, ⟨13, 11, .ro, 0x0⟩, ⟨15, 14, .ro, 0x0⟩]⟩,
  ⟨3, 0x4, 0, 1, 1, [⟨0, 0, .ro, 0x0⟩, ⟨1, 1, .rws, 0x0⟩, ⟨2, 2, .rws, 0x1⟩, ⟨3, 3, .rws, 0x0⟩, ⟨4, 4, .rws, 0x0⟩, ⟨5, 5, .rws, 0x1⟩, ⟨6, 6, .rws, 0x1⟩, ⟨7, 7, .rws, 0x0⟩]⟩,
  ⟨3, 0x8, 0, 1, 1, [⟨11, 0, .rws, 0xa⟩]⟩]
/-- Registers, part 4. -/
def regRows4 : List RegRow := [
  ⟨3, 0xc, 0, 1, 1, [⟨31, 0, .ro, 0x0⟩]⟩,
  ⟨3, 0x10, 0, 1, 1, [⟨9, 0, .ro, 0x0⟩, ⟨16, 16, .ro, 0x0⟩, ⟨17, 17, .ro, 0x0⟩, ⟨18, 18, .ro, 0x0⟩]⟩,
  ⟨3, 0x14, 0, 1, 1, [⟨31, 0, .ro, 0x0⟩]⟩,
  ⟨3, 0x18, 0, 1, 1, [⟨31, 0, .ro, 0x0⟩]⟩,
  ⟨3, 0x1c, 0, 1, 1, [⟨31, 0, .ro, 0x0⟩]⟩,
  ⟨3, 0x20, 0, 1, 1, [⟨31, 0, .rc, 0x0⟩]⟩,
  ⟨3, 0x24, 0, 1, 1, [⟨31, 0, .rc, 0x0⟩]⟩,
  ⟨3, 0x28, 0, 1, 1, [⟨31, 0, .rc, 0x0⟩]⟩,
  ⟨3, 0x2c, 0, 1, 1, [⟨31, 0, .rc, 0x0⟩]⟩,
  ⟨3, 0x30, 0, 1, 1, [⟨31, 0, .rc, 0x0⟩]⟩,
  ⟨3, 0x34, 0, 1, 1, [⟨31, 0, .rc, 0x0⟩]⟩,
  ⟨3, 0x38, 0, 1, 1, [⟨23, 0, .ro, 0x0⟩]⟩,
  ⟨3, 0x3c, 0, 1, 1, [⟨31, 0, .ro, 0x0⟩]⟩,
  ⟨3, 0x40, 0, 1, 1, [⟨15, 0, .ro, 0x0⟩]⟩,
  ⟨3, 0x44, 0, 1, 1, [⟨0, 0, .w1c, 0x0⟩, ⟨1, 1, .w1c, 0x0⟩, ⟨2, 2, .w1c, 0x0⟩, ⟨3, 3, .w1c, 0x0⟩, ⟨4, 4, .w1c, 0x0⟩, ⟨5, 5, .w1c, 0x0⟩, ⟨6, 6, .w1c, 0x0⟩, ⟨7, 7, .w1c, 0x0⟩, ⟨8, 8, .w1c, 0x0⟩]⟩,
  ⟨3, 0x48, 0, 1, 1, [⟨8, 0, .rw, 0x1ff⟩]⟩,
  ⟨29, 0x0, 0, 1, 1, [⟨0, 0, .ro, 0x0⟩, ⟨1, 1, .w1c, 0x0⟩, ⟨2, 2, .ro, 0x0⟩, ⟨4, 3, .ro, 0x0⟩]⟩,
  ⟨29, 0x4, 0, 1, 1, [⟨19, 0, .ro, 0x0⟩]⟩,
  ⟨29, 0x8, 0, 1, 1, [⟨13, 0, .ro, 0x0⟩]⟩,
  ⟨29, 0xc, 0, 1, 1, [⟨23, 0, .ro, 0x0⟩]⟩,
  ⟨29, 0x10, 0, 1, 1, [⟨31, 0, .rc, 0x0⟩]⟩,
  ⟨29, 0x14, 0, 1, 1, [⟨31, 0, .rc, 0x0⟩]⟩,
  ⟨29, 0x18, 0, 1, 1, [⟨31, 0, .rc, 0x0⟩]⟩,
  ⟨29, 0x1c, 0, 1, 1, [⟨31, 0, .rc, 0x0⟩]⟩,
  ⟨29, 0x20, 0, 1, 1, [⟨31, 0, .rc, 0x0⟩]⟩,
  ⟨29, 0x24, 0, 1, 1, [⟨31, 0, .rc, 0x0⟩]⟩,
  ⟨29, 0x28, 0, 1, 1, [⟨0, 0, .w1c, 0x0⟩, ⟨1, 1, .w1c, 0x0⟩, ⟨2, 2, .w1c, 0x0⟩, ⟨3, 3, .w1c, 0x0⟩]⟩,
  ⟨29, 0x2c, 0, 1, 1, [⟨3, 0, .rw, 0x9⟩]⟩,
  ⟨0, 0x0, 0, 1, 1, [⟨15, 0, .ro, 0x2000⟩, ⟨31, 16, .ro, 0x414c⟩]⟩,
  ⟨0, 0x4, 0, 1, 1, [⟨7, 0, .ro, 0x42⟩, ⟨15, 8, .ro, 0x1⟩, ⟨23, 16, .ro, 0x41⟩]⟩,
  ⟨0, 0x8, 0, 1, 1, [⟨2, 0, .ro, 0x2⟩, ⟨6, 4, .ro, 0x0⟩, ⟨7, 7, .ro, 0x0⟩, ⟨10, 8, .ro, 0x0⟩, ⟨31, 16, .ro, 0x7⟩]⟩,
  ⟨0, 0x10, 4, 4, 1, [⟨31, 0, .rw, 0x0⟩]⟩]
/-- Registers, part 5. -/
def regRows5 : List RegRow := [
  ⟨0, 0x20, 0, 1, 1, [⟨31, 0, .ro, 0x0⟩]⟩,
  ⟨0, 0x24, 0, 1, 1, [⟨3, 0, .ro, 0x0⟩]⟩,
  ⟨0, 0x28, 0, 1, 1, [⟨31, 0, .rc, 0x0⟩]⟩,
  ⟨0, 0x2c, 0, 1, 1, [⟨31, 0, .rc, 0x0⟩]⟩,
  ⟨0, 0x30, 0, 1, 1, [⟨23, 0, .ro, 0x0⟩, ⟨25, 24, .ro, 0x0⟩, ⟨26, 26, .ro, 0x0⟩]⟩,
  ⟨1, 0x0, 0, 1, 1, [⟨28, 0, .ro, 0x0⟩]⟩,
  ⟨1, 0x4, 0, 1, 1, [⟨28, 0, .rw, 0x0⟩]⟩,
  ⟨1, 0x8, 0, 1, 1, [⟨28, 0, .rw, 0x0⟩]⟩,
  ⟨1, 0xc, 0, 1, 1, [⟨28, 0, .wo, 0x0⟩]⟩,
  ⟨1, 0x10, 0, 1, 1, [⟨28, 0, .ro, 0x1fffffff⟩]⟩,
  ⟨1, 0x14, 0, 1, 1, [⟨0, 0, .ro, 0x0⟩]⟩,
  ⟨1, 0x18, 0, 1, 1, [⟨11, 0, .ro, 0x0⟩]⟩,
  ⟨1, 0x1c, 0, 1, 1, [⟨31, 0, .rc, 0x0⟩]⟩,
  ⟨1, 0x100, 0, 1, 1, [⟨31, 0, .ro, 0x0⟩]⟩,
  ⟨1, 0x200, 16, 32, 1, [⟨31, 0, .rw, 0x0⟩]⟩,
  ⟨1, 0x204, 16, 32, 1, [⟨31, 0, .rw, 0x0⟩]⟩,
  ⟨1, 0x208, 16, 32, 1, [⟨31, 0, .rw, 0x0⟩]⟩,
  ⟨1, 0x20c, 16, 32, 1, [⟨0, 0, .rw, 0x1⟩]⟩,
  ⟨4, 0x0, 32, 8, 1, [⟨0, 0, .rw, 0x0⟩, ⟨1, 1, .rw, 0x0⟩, ⟨7, 4, .rw, 0x2⟩, ⟨8, 8, .ro, 0x0⟩]⟩,
  ⟨4, 0x4, 32, 8, 1, [⟨31, 12, .rw, 0x0⟩]⟩,
  ⟨4, 0x8, 32, 8, 1, [⟨31, 0, .rw, 0x0⟩]⟩,
  ⟨4, 0xc, 32, 8, 1, [⟨15, 0, .rw, 0x0⟩]⟩,
  ⟨4, 0x10, 32, 8, 1, [⟨15, 0, .rw, 0x0⟩]⟩,
  ⟨4, 0x14, 32, 8, 1, [⟨15, 0, .ro, 0x0⟩, ⟨31, 16, .ro, 0x0⟩]⟩,
  ⟨4, 0x18, 32, 8, 1, [⟨31, 0, .rc, 0x0⟩]⟩,
  ⟨4, 0x100, 0, 1, 1, [⟨7, 0, .ro, 0x0⟩, ⟨15, 8, .ro, 0x0⟩]⟩,
  ⟨4, 0x104, 0, 1, 1, [⟨3, 0, .ro, 0x0⟩]⟩,
  ⟨7, 0x0, 0, 1, 1, [⟨31, 0, .ro, 0x1⟩]⟩,
  ⟨7, 0x4, 0, 1, 1, [⟨31, 0, .ro, 0x1⟩]⟩,
  ⟨7, 0x8, 0, 1, 1, [⟨31, 0, .rw, 0x0⟩]⟩,
  ⟨7, 0xc, 0, 1, 1, [⟨6, 0, .rw, 0x1⟩, ⟨26, 16, .rw, 0x7ff⟩]⟩,
  ⟨7, 0x10, 0, 1, 1, [⟨0, 0, .w1c, 0x0⟩, ⟨1, 1, .w1c, 0x0⟩]⟩]
/-- Registers, part 6. -/
def regRows6 : List RegRow := [
  ⟨7, 0x14, 0, 1, 1, [⟨1, 0, .rw, 0x3⟩]⟩,
  ⟨7, 0x18, 0, 1, 1, [⟨31, 0, .rc, 0x0⟩]⟩,
  ⟨34, 0x0, 0, 1, 1, [⟨0, 0, .ro, 0x0⟩, ⟨1, 1, .w1c, 0x0⟩]⟩,
  ⟨34, 0x4, 0, 1, 1, [⟨0, 0, .w1c, 0x0⟩, ⟨1, 1, .w1c, 0x0⟩, ⟨2, 2, .w1c, 0x0⟩]⟩,
  ⟨34, 0x8, 0, 1, 1, [⟨2, 0, .rw, 0x6⟩]⟩,
  ⟨34, 0xc, 0, 1, 1, [⟨8, 0, .ro, 0x0⟩]⟩,
  ⟨34, 0x10, 0, 1, 1, [⟨31, 0, .rc, 0x0⟩]⟩,
  ⟨34, 0x14, 0, 1, 1, [⟨31, 0, .rc, 0x0⟩]⟩,
  ⟨31, 0x0, 0, 1, 1, [⟨0, 0, .ro, 0x0⟩, ⟨1, 1, .w1c, 0x0⟩, ⟨2, 2, .ro, 0x0⟩]⟩,
  ⟨31, 0x4, 0, 1, 1, [⟨0, 0, .rw, 0x0⟩, ⟨15, 8, .rw, 0xa⟩]⟩,
  ⟨31, 0x8, 0, 1, 1, [⟨15, 0, .ro, 0x0⟩]⟩,
  ⟨31, 0xc, 0, 1, 1, [⟨31, 0, .ro, 0x0⟩]⟩,
  ⟨31, 0x10, 0, 1, 1, [⟨31, 0, .ro, 0x0⟩]⟩,
  ⟨31, 0x14, 0, 1, 1, [⟨31, 0, .rc, 0x0⟩]⟩,
  ⟨31, 0x18, 0, 1, 1, [⟨3, 0, .ro, 0x0⟩, ⟨13, 8, .ro, 0x0⟩]⟩,
  ⟨31, 0x1c, 0, 1, 1, [⟨31, 0, .ro, 0x0⟩]⟩,
  ⟨31, 0x20, 0, 1, 1, [⟨15, 0, .ro, 0x0⟩]⟩,
  ⟨31, 0x24, 0, 1, 1, [⟨31, 0, .rc, 0x0⟩]⟩,
  ⟨31, 0x28, 0, 1, 1, [⟨31, 0, .rc, 0x0⟩]⟩,
  ⟨31, 0x2c, 0, 1, 1, [⟨31, 0, .rc, 0x0⟩]⟩,
  ⟨31, 0x30, 0, 1, 1, [⟨26, 0, .ro, 0x0⟩, ⟨31, 31, .ro, 0x0⟩]⟩,
  ⟨31, 0x34, 0, 1, 1, [⟨0, 0, .w1c, 0x0⟩, ⟨1, 1, .w1c, 0x0⟩, ⟨2, 2, .w1c, 0x0⟩, ⟨3, 3, .w1c, 0x0⟩, ⟨4, 4, .w1c, 0x0⟩]⟩,
  ⟨31, 0x38, 0, 1, 1, [⟨4, 0, .rw, 0xd⟩]⟩,
  ⟨31, 0x40, 0, 1, 1, [⟨3, 0, .rw, 0xe⟩]⟩,
  ⟨31, 0x44, 0, 1, 1, [⟨3, 0, .rw, 0xe⟩]⟩,
  ⟨31, 0x48, 0, 1, 1, [⟨3, 0, .rw, 0xe⟩]⟩,
  ⟨31, 0x4c, 0, 1, 1, [⟨3, 0, .rw, 0xc⟩]⟩,
  ⟨31, 0x50, 0, 1, 1, [⟨3, 0, .rw, 0xc⟩]⟩,
  ⟨31, 0x54, 0, 1, 1, [⟨3, 0, .rw, 0xc⟩]⟩,
  ⟨31, 0x58, 0, 1, 1, [⟨3, 0, .rw, 0xa⟩]⟩,
  ⟨31, 0x5c, 0, 1, 1, [⟨3, 0, .rw, 0xa⟩]⟩,
  ⟨31, 0x60, 0, 1, 1, [⟨3, 0, .rw, 0xa⟩]⟩]
/-- Registers, part 7. -/
def regRows7 : List RegRow := [
  ⟨31, 0x64, 0, 1, 1, [⟨3, 0, .rw, 0xa⟩]⟩,
  ⟨31, 0x68, 0, 1, 1, [⟨3, 0, .rw, 0xa⟩]⟩,
  ⟨31, 0x6c, 0, 1, 1, [⟨3, 0, .rw, 0xa⟩]⟩,
  ⟨31, 0x70, 0, 1, 1, [⟨3, 0, .rw, 0x9⟩]⟩,
  ⟨31, 0x74, 0, 1, 1, [⟨3, 0, .rw, 0x6⟩]⟩,
  ⟨31, 0x78, 0, 1, 1, [⟨3, 0, .rw, 0x6⟩]⟩,
  ⟨31, 0x7c, 0, 1, 1, [⟨3, 0, .rw, 0x4⟩]⟩,
  ⟨31, 0x80, 4, 16, 1, [⟨6, 0, .ro, 0x0⟩, ⟨22, 16, .rc, 0x0⟩]⟩,
  ⟨30, 0x0, 0, 1, 1, [⟨0, 0, .ro, 0x0⟩, ⟨1, 1, .w1c, 0x0⟩, ⟨2, 2, .ro, 0x0⟩, ⟨4, 3, .ro, 0x0⟩, ⟨5, 5, .ro, 0x0⟩, ⟨6, 6, .ro, 0x1⟩, ⟨10, 7, .ro, 0x0⟩]⟩,
  ⟨30, 0x4, 0, 1, 1, [⟨1, 0, .ro, 0x0⟩, ⟨7, 4, .ro, 0x0⟩, ⟨30, 16, .ro, 0x0⟩]⟩,
  ⟨30, 0x8, 0, 1, 1, [⟨0, 0, .rw, 0x0⟩, ⟨8, 4, .rw, 0xa⟩, ⟨23, 16, .rw, 0xa⟩]⟩,
  ⟨30, 0xc, 0, 1, 1, [⟨31, 0, .ro, 0x0⟩]⟩,
  ⟨30, 0x10, 0, 1, 1, [⟨31, 0, .rc, 0x0⟩]⟩,
  ⟨30, 0x14, 0, 1, 1, [⟨31, 0, .rc, 0x0⟩]⟩,
  ⟨30, 0x18, 0, 1, 1, [⟨31, 0, .rc, 0x0⟩]⟩,
  ⟨30, 0x1c, 0, 1, 1, [⟨31, 0, .rc, 0x0⟩]⟩,
  ⟨30, 0x20, 0, 1, 1, [⟨31, 0, .rc, 0x0⟩]⟩,
  ⟨30, 0x24, 0, 1, 1, [⟨15, 0, .rc, 0x0⟩]⟩,
  ⟨30, 0x28, 0, 1, 1, [⟨0, 0, .w1c, 0x0⟩, ⟨1, 1, .w1c, 0x0⟩, ⟨2, 2, .w1c, 0x0⟩]⟩,
  ⟨30, 0x2c, 0, 1, 1, [⟨2, 0, .rw, 0x7⟩]⟩,
  ⟨30, 0x40, 4, 4, 1, [⟨31, 0, .ro, 0x0⟩]⟩,
  ⟨30, 0x50, 4, 4, 1, [⟨31, 0, .ro, 0x0⟩]⟩,
  ⟨30, 0x80, 4, 16, 1, [⟨31, 0, .ro, 0x0⟩]⟩,
  ⟨2, 0x0, 0, 1, 1, [⟨0, 0, .ro, 0x0⟩, ⟨1, 1, .w1c, 0x0⟩, ⟨2, 2, .ro, 0x0⟩, ⟨3, 3, .ro, 0x0⟩, ⟨4, 4, .ro, 0x0⟩]⟩,
  ⟨2, 0x4, 0, 1, 1, [⟨0, 0, .rws, 0x0⟩, ⟨15, 8, .rw, 0x14⟩]⟩,
  ⟨2, 0x8, 0, 1, 1, [⟨7, 0, .ro, 0x1⟩, ⟨9, 8, .ro, 0x0⟩, ⟨15, 12, .ro, 0x0⟩, ⟨23, 16, .ro, 0x0⟩]⟩,
  ⟨2, 0xc, 0, 1, 1, [⟨15, 0, .ro, 0x0⟩, ⟨31, 16, .ro, 0x0⟩]⟩,
  ⟨2, 0x10, 0, 1, 1, [⟨15, 0, .rw, 0xbfe0⟩]⟩,
  ⟨2, 0x14, 0, 1, 1, [⟨15, 0, .ro, 0x7⟩, ⟨31, 16, .ro, 0x0⟩]⟩,
  ⟨2, 0x18, 0, 1, 1, [⟨15, 0, .rc, 0x0⟩, ⟨19, 16, .rc, 0x0⟩]⟩,
  ⟨2, 0x1c, 0, 1, 1, [⟨11, 0, .ro, 0x0⟩, ⟨27, 16, .rc, 0xfff⟩]⟩,
  ⟨2, 0x20, 0, 1, 1, [⟨11, 0, .ro, 0x0⟩, ⟨27, 16, .rc, 0xfff⟩]⟩]
/-- Registers, part 8. -/
def regRows8 : List RegRow := [
  ⟨2, 0x24, 0, 1, 1, [⟨0, 0, .ro, 0x0⟩, ⟨6, 4, .ro, 0x0⟩, ⟨31, 8, .ro, 0x0⟩]⟩,
  ⟨2, 0x28, 0, 1, 1, [⟨31, 0, .rc, 0x0⟩]⟩,
  ⟨2, 0x2c, 0, 1, 1, [⟨31, 0, .ro, 0x0⟩]⟩,
  ⟨2, 0x30, 0, 1, 1, [⟨15, 0, .rw, 0x0⟩, ⟨31, 16, .rw, 0x0⟩]⟩,
  ⟨2, 0x34, 0, 1, 1, [⟨15, 0, .ro, 0x0⟩]⟩,
  ⟨2, 0x38, 0, 1, 1, [⟨0, 0, .w1c, 0x0⟩, ⟨1, 1, .w1c, 0x0⟩, ⟨2, 2, .w1c, 0x0⟩, ⟨3, 3, .w1c, 0x0⟩, ⟨4, 4, .w1c, 0x0⟩]⟩,
  ⟨2, 0x3c, 0, 1, 1, [⟨4, 0, .rw, 0x15⟩]⟩,
  ⟨2, 0x40, 0, 1, 1, [⟨31, 0, .ro, 0x0⟩]⟩,
  ⟨2, 0x80, 4, 31, 1, [⟨31, 0, .rws, 0x0⟩]⟩,
  ⟨2, 0xfc, 0, 1, 1, [⟨0, 0, .rws, 0x0⟩]⟩,
  ⟨35, 0x0, 0, 1, 1, [⟨0, 0, .ro, 0x0⟩, ⟨1, 1, .w1c, 0x0⟩, ⟨2, 2, .ro, 0x0⟩]⟩,
  ⟨35, 0x4, 0, 1, 1, [⟨7, 0, .ro, 0x0⟩, ⟨15, 8, .ro, 0x0⟩]⟩,
  ⟨35, 0x8, 0, 1, 1, [⟨31, 0, .ro, 0x0⟩]⟩,
  ⟨35, 0xc, 0, 1, 1, [⟨31, 0, .ro, 0x0⟩]⟩,
  ⟨35, 0x10, 0, 1, 1, [⟨10, 0, .rw, 0x0⟩]⟩,
  ⟨35, 0x14, 0, 1, 1, [⟨2, 0, .ro, 0x0⟩, ⟨8, 8, .ro, 0x0⟩]⟩,
  ⟨35, 0x18, 0, 1, 1, [⟨31, 0, .ro, 0x0⟩]⟩]

/-- Every register of the map. -/
def regRows : List RegRow :=
  regRows0 ++ regRows1 ++ regRows2 ++ regRows3 ++ regRows4 ++ regRows5 ++ regRows6 ++ regRows7 ++ regRows8

/-- Decode span of a block in bytes. -/
def blockSpan (b : Nat) : Nat :=
  match b with
  | 0 => 64 | 1 => 1024 | 2 => 256 | 3 => 128 | 4 => 512 | 5 => 128 | 6 => 32 | 7 => 32 | 24 => 64 | 29 => 64 | 30 => 512 | 31 => 256
  | 32 => 64 | 33 => 32 | 34 => 32 | 35 => 64
  | b => if b ≤ 19 then 128 else if b ≤ 23 then 256 else 128

end Sys2Proof.Machine
end

