-- ==== Sys2Proof/Machine/Flags.lean ====
section
/-! DEFINITION. Status flags: event bits and stored registers, the event log, counters, and once-per-run conditions. -/
namespace Sys2Proof.Machine

/-! ### Stored register values (R12, R476) -/

/-- The reset value of a register: its fields' reset values in place. -/
def RegRow.resetWord (r : RegRow) : Word := w32 (nsum (r.fields.map fun f => f.reset % 2 ^ (f.hi + 1 - f.lo) * 2 ^ f.lo))

/-- Whether an offset of a block and instance is this row's. -/
def RegRow.holds (r : RegRow) (block off : Nat) : Bool :=
  decide (r.block ≤ block) && decide (block < r.block + r.reps) && decide (r.off ≤ off) &&
  (if r.count ≤ 1 then decide (off = r.off) else decide ((off - r.off) % r.stride = 0) && decide ((off - r.off) / r.stride < r.count))

/-- The row of an MW0 offset (already decoded under R469 and R470). -/
def regRowOf (a : Nat) : Option RegRow := regRows.find? fun r => r.holds (a / 1024) (a % 1024)

/-- The reset value at an MW0 offset; 0 where no register lies (R470). -/
def regReset (a : Nat) : Word := match regRowOf a with | some r => r.resetWord | none => 0

/-- The stored value of a register. -/
def State.reg (s : State) (a : Nat) : Word := match AMap.find s.regs a with | some v => v | none => regReset a

/-- Store a register value. -/
def State.setReg (s : State) (a : Nat) (v : Word) : State := { s with regs := AMap.put s.regs a v }

/-- Set bits of a stored register: an event bit that the device sets (R476). -/
def State.orReg (s : State) (a : Nat) (m : Nat) : State := s.setReg a (s.reg a ||| w32 m)

/-- Clear bits of a stored register. -/
def State.clrReg (s : State) (a : Nat) (m : Nat) : State := s.setReg a (s.reg a &&& ~~~(w32 m))

/-- Set event bit i of a register. -/
def State.setEvt (s : State) (a i : Nat) : State := s.orReg a (2 ^ i)

/-- A saturating 32-bit register count. -/
def State.bump (s : State) (a : Nat) (n : Nat := 1) : State := s.setReg a (w32 (satCount (s.reg a).toNat n))

/-- Put a value into field [hi:lo] of a stored register. -/
def State.setFld (s : State) (a hi lo v : Nat) : State :=
  let w := (s.reg a).toNat
  s.setReg a (w32 (w - fld (s.reg a) hi lo * 2 ^ lo + v % 2 ^ (hi + 1 - lo) * 2 ^ lo))

/-- Field of a stored register. -/
def State.regFld (s : State) (a hi lo : Nat) : Nat := fld (s.reg a) hi lo

/-! ### Counters (R466) -/

/-- Key of a counter. -/
def counterKey (cls idx : Nat) : Nat := cls * 2 ^ 21 + idx

/-- Value of a counter; an index whose object is unbound reads 0. -/
def State.counter (s : State) (cls idx : Nat) : Nat := AMap.getD s.counters (counterKey cls idx) 0

/-- Count, saturating at 32 bits. -/
def State.count (s : State) (cls idx : Nat) (n : Nat := 1) : State :=
  if n = 0 then s
  else { s with counters := AMap.put s.counters (counterKey cls idx) (satCount (s.counter cls idx) n) }

/-- Zero a counter. -/
def State.zeroCounter (s : State) (cls idx : Nat) : State := { s with counters := AMap.del s.counters (counterKey cls idx) }

/-! ### The event log (R464, R465, R486) -/

/-- Event codes of Table 15-9. -/
def evReset : Nat := 0x0001
def evBrownoutWarn : Nat := 0x0002
def evClockNotGood : Nat := 0x0003
def evBusHang : Nat := 0x0004
def evInternal : Nat := 0x0005
def evEccCorrected : Nat := 0x0006
def evEccUncorrected : Nat := 0x0007
def evKeepLost : Nat := 0x0008
def evFwCommitted : Nat := 0x0009
def evHalt : Nat := 0x000A
def evCmdViolation : Nat := 0x0010
def evCmdRingErr : Nat := 0x0011
def evChainBroken : Nat := 0x0012
def evNotifyLost : Nat := 0x0013
def evApplyDropped : Nat := 0x0014
def evApplyDeferred : Nat := 0x0015
def evMeterEnded : Nat := 0x0016
def evDeadlineMiss : Nat := 0x0100
def evWaitTimeout : Nat := 0x0101
def evObjOffMesh : Nat := 0x0200
def evObjRange : Nat := 0x0201
def evObjSlew : Nat := 0x0202
def evZoneEmpty : Nat := 0x0203
def evSegLate : Nat := 0x0204
def evPosClamp : Nat := 0x0205
def evRouteLost : Nat := 0x0300
def evConvLate : Nat := 0x0400
def evSlotDiscarded : Nat := 0x0401
def evSapStopped : Nat := 0x0600
def evSapGlitch : Nat := 0x0601
def evSapRate : Nat := 0x0602
def evSapRejoin : Nat := 0x0603
def evSapFraming : Nat := 0x0604
def evSapSlip : Nat := 0x0605
def evSapUnderrun : Nat := 0x0606
def evSapOverrun : Nat := 0x0607
def evTapMissing : Nat := 0x0608
def evTimeLock : Nat := 0x0700
def evTimeHoldover : Nat := 0x0701
def evTimeStep : Nat := 0x0702
def evTimeFar : Nat := 0x0703
def evRefRange : Nat := 0x0704
def evRefLost : Nat := 0x0705
def evSrcReject : Nat := 0x0706
def evPtpOutlier : Nat := 0x0707
def evPtpSeq : Nat := 0x0708
def evNetLate : Nat := 0x0800
def evNetEarly : Nat := 0x0801
def evNetStreamDown : Nat := 0x0802
def evNetStreamUp : Nat := 0x0803
def evNetBadpkt : Nat := 0x0804
def evZenLinkDown : Nat := 0x0900
def evZenHiber : Nat := 0x0901
def evZenCheck : Nat := 0x0902
def evZenLabel : Nat := 0x0903
def evZenMaperr : Nat := 0x0904
def evZenCable : Nat := 0x0905
def evZenHead : Nat := 0x0906
def evZenRoot : Nat := 0x0907
def evZenBudget : Nat := 0x0908
def evZenLost : Nat := 0x0909
def evZenPmismatch : Nat := 0x090A
def evZenIdclash : Nat := 0x090B
def evTwinState : Nat := 0x0A00
def evTwinClaim : Nat := 0x0A01
def evTakeoverStale : Nat := 0x0A02
def evTwinHandover : Nat := 0x0A03
def evHandoverFail : Nat := 0x0A04
def evTwinSelfFence : Nat := 0x0A05
def evTwinPartnerLost : Nat := 0x0A06
def evTwinAlarm : Nat := 0x0A07
def evTwinSuspect : Nat := 0x0A08
def evTwinJoinDone : Nat := 0x0A09
def evTwinJoinFail : Nat := 0x0A0A
def evTwinRelayLate : Nat := 0x0A0B

/-- The AREAEN bit of an event: its row of Table 15-9, from bit 16 (R486). -/
def areaBit (code : Nat) : Nat :=
  if code < 0x10 then 16 else if code < 0x100 then 17 else if code < 0x200 then 18 else if code < 0x300 then 19
  else if code < 0x400 then 20 else if code < 0x500 then 21 else if code < 0x700 then 22 else if code < 0x800 then 23
  else if code < 0x900 then 24 else if code < 0xA00 then 25 else 26

/-- Newest sequence number (EVT_NEWEST). -/
def State.newest (s : State) : Nat := match s.log with | e :: _ => e.seq | [] => 0

/-- Oldest sequence number held (EVT_OLDEST). -/
def State.oldest (s : State) : Nat := match s.log.getLast? with | some e => e.seq | none => 0

/-- Whether sequence number a is later than b, modulo 2^32 within half the range. -/
def seqLater (a b : Nat) : Bool := let d := (a + 2 ^ 32 - b) % 2 ^ 32; decide (0 < d) && decide (d < 2 ^ 31)

/-- Log an event that concerns an index (R464, R465, R486). -/
def State.logAt (s : State) (code : Nat) (idx : Int) (vals : List Int) : State :=
  let ack := (s.reg rEvtAckseq).toNat
  let excess := decide (4096 ≤ s.log.length) && seqLater s.oldest ack
  let seq := (s.newest + 1) % 2 ^ 32
  let s1 := { s with log := (⟨code, seq, s.ns, lo32 idx, vals.map lo32⟩ :: s.log).take 4096 }
  let s2 := if excess then (s1.setEvt rEvtEvt 1).bump rEvtLostcnt else s1
  let thresh := max 1 (s.regFld rEvtCtl 6 0)
  if bitOf (s.reg rEvtCtl) (areaBit code) && decide (thresh ≤ (seq + 2 ^ 32 - ack) % 2 ^ 32) then s2.setEvt rEvtEvt 0 else s2

/-- Log an event that concerns no index: it carries the quantum in progress (R465). -/
def State.logNow (s : State) (code : Nat) (vals : List Int := []) : State := s.logAt code s.curFirst vals

/-- Whether the run of a condition is open. -/
def State.inRun (s : State) (code key : Nat) : Bool := s.runs.contains (code, key)

/-- Open the run of a condition. -/
def State.openRun (s : State) (code key : Nat) : State := if s.inRun code key then s else { s with runs := (code, key) :: s.runs }

/-- End the run of a condition. -/
def State.endRun (s : State) (code key : Nat) : State := { s with runs := s.runs.filter (· != (code, key)) }

/-- Log an event once per run of its condition. -/
def State.logOnceAt (s : State) (code key : Nat) (idx : Int) (vals : List Int) : State :=
  if s.inRun code key then s else (s.logAt code idx vals).openRun code key

/-- The same for an event that concerns no index. -/
def State.logOnce (s : State) (code key : Nat) (vals : List Int := []) : State := s.logOnceAt code key s.curFirst vals

/-- An op id and a port share one word as [13:0] and [23:16] (R465). -/
def opPort (op port : Nat) : Int := ((op + port * 65536 : Nat) : Int)

end Sys2Proof.Machine
end

