-- ==== Sys2Proof/Machine/Operands.lean ====
section
/-! DEFINITION. The forms in which operands arrive: packet headers as words, the header check, flags and tags, and the
64-bit and range fields that the commands share (R405, R406, R434). -/
namespace Sys2Proof.Machine

/-- One bit of the CRC-8 of R406: polynomial 0x07, no reflection. -/
def crc8Bit (c : Nat) : Nat := if 128 ≤ c then (c * 2 % 256) ^^^ 7 else c * 2

/-- The CRC-8 over one more octet. -/
def crc8Octet (c b : Nat) : Nat := crc8Bit (crc8Bit (crc8Bit (crc8Bit (crc8Bit (crc8Bit (crc8Bit (crc8Bit (c ^^^ b))))))))

/-- The four octets of a word, least significant first (R11). -/
def octets (w : Word) : List Nat := [fld w 7 0, fld w 15 8, fld w 23 16, fld w 31 24]

/-- CHECK over the 15 octets of a header (R406). -/
def headerCheck (w0 w1 w2 w3 : Word) : Nat :=
  (octets w0 ++ (octets w1).drop 1 ++ octets w2 ++ octets w3).foldl crc8Octet 0

/-- Header word w0 of a packet under an opcode (Table 14-1). -/
def Packet.w0 (p : Packet) (op : Nat) : Word :=
  w32 (op * 2 ^ 20 + flagBit p.urgent 19 + flagBit p.more 18 + flagBit p.group 17 + flagBit p.noreply 16 + (4 + p.params.length))

/-- CHECK of a packet under an opcode (R406). -/
def Packet.check (p : Packet) (op : Nat) : Nat :=
  headerCheck (p.w0 op) (w32 (p.tag.toNat * 2 ^ 16 + p.ch * 2 ^ 8)) p.handle p.apply

/-- A packet as it stands on the wire under an opcode (Table 14-1, R406). -/
def Packet.raw (p : Packet) (op : Nat) : List Word :=
  [p.w0 op, w32 (p.tag.toNat * 2 ^ 16 + p.ch % 256 * 2 ^ 8 + p.check op), p.handle, p.apply] ++ p.params

/-- LENGTH of a packet (R405). -/
def Packet.len (p : Packet) : Nat := 4 + p.params.length

/-- Parameter word w(i), counted from w4 (R434). -/
def Packet.w (p : Packet) (i : Nat) : Word := wd p.params i

/-- The packet that a run of words spells, with its opcode; the channel is the one it is executed on (Table 14-1). -/
def packetOf (ws : List Word) (ch : Nat) : Nat × Packet :=
  let w0 := ws.getD 0 0
  (fld w0 31 20, { ch := ch, tag := BitVec.ofNat 16 (fld (ws.getD 1 0) 31 16), noreply := bitOf w0 16, group := bitOf w0 17,
                   more := bitOf w0 18, urgent := bitOf w0 19, handle := ws.getD 2 0, apply := ws.getD 3 0, params := ws.drop 4 })

/-- Status codes of Table 15-3 (R440). -/
def Status.code : Status → Nat
  | .ok => 0x0000 | .okDuplicate => 0x0001 | .okQueued => 0x0002
  | .badOpcode => 0x0100 | .badLength => 0x0101 | .badCheck => 0x0102 | .badHandle => 0x0103 | .badParam => 0x0104
  | .noResource => 0x0105 | .busy => 0x0106 | .late => 0x0107 | .wrongState => 0x0108 | .notActive => 0x0109
  | .tagConflict => 0x010A | .tagStale => 0x010B | .overBudget => 0x010C
  | .partnerFault => 0x0200 | .signatureMismatch => 0x0201 | .internal => 0x0300

/-- The command with this status took effect, or will at its index (Table 15-3). -/
def Status.good : Status → Bool
  | .ok => true | .okQueued => true | .okDuplicate => true | _ => false

/-- A reply's words on the wire, CHECK included (Table 14-2, R406). -/
def Reply.raw (r : Reply) : List Word :=
  let w0 := w32 (r.op * 2 ^ 20 + flagBit r.loss 19 + flagBit r.more 18 + flagBit r.notify 17 + 2 ^ 16 + (4 + r.words.length))
  let w1 := r.tag.toNat * 2 ^ 16 + r.ch % 256 * 2 ^ 8
  let w2 := w32 (r.status.code * 2 ^ 16 + r.detail)
  [w0, w32 (w1 + headerCheck w0 (w32 w1) w2 r.time), w2, r.time] ++ r.words

/-- BAD_PARAM with a detail. -/
def badParam (d : Nat) : Deny := ⟨.badParam, d⟩
/-- A field out of range or a reserved bit set (R435). -/
def fieldDeny : Deny := ⟨.badParam, 0x0016⟩
/-- The command's length is not the one its count fields imply (R435). -/
def lengthDeny : Deny := ⟨.badLength, 0x0003⟩
/-- WRONG_STATE without detail. -/
def stateDeny : Deny := ⟨.wrongState, 0⟩
/-- BAD_HANDLE. -/
def handleDeny : Deny := ⟨.badHandle, 0⟩
/-- BUSY. -/
def busyDeny : Deny := ⟨.busy, 0⟩
/-- LATE. -/
def lateDeny : Deny := ⟨.late, 0⟩

/-- Header w2 must be 0 where the command names no handle (Table 14-1, Table 15-3). -/
def noHandle (p : Packet) : Option Deny := if p.handle = 0 then none else some handleDeny

/-- LENGTH must be n words (R435). -/
def lenIs (p : Packet) (n : Nat) : Option Deny := if p.len = n then none else some lengthDeny

/-- Bits of w outside a mask of used bits are set (R434, R435). -/
def reservedSet (w : Word) (used : Nat) : Bool := (w &&& ~~~(w32 used)) != 0

/-- The bits [hi:lo] as a mask. -/
def mask (hi lo : Nat) : Nat := (2 ^ (hi + 1 - lo) - 1) * 2 ^ lo

/-- The first refusal of a list of checks, in order. -/
def firstDeny : List (Option Deny) → Option Deny
  | [] => none
  | some d :: _ => some d
  | none :: r => firstDeny r

/-- A check: refused with d when the condition holds. -/
def denyIf (b : Bool) (d : Deny) : Option Deny := if b then some d else none

end Sys2Proof.Machine
end

