-- ==== Sys2Proof/Machine/Reed.lean ====
section
/-! DEFINITION. The operations of the Reed cores: their parameters, their state and what each computes in a quantum
(R221 to R230), and their costs (R231, R232). -/
namespace Sys2Proof.Machine

/-! ### Parameters (R221) -/

/-- Kind parameter word w(i), counted from w6 (Table 07-2). -/
def Op.w (o : Op) (i : Nat) : Word := o.params.getD (i - 6) 0

/-- A signed parameter word. -/
def Op.s (o : Op) (i : Nat) : Int := (o.w i).toInt

/-- The five coefficients of section i of a run of sections that starts at word `from_`. -/
def secCoefs (o : Op) (from_ i : Nat) : List Int := (span (from_ + 5 * i) 5).map o.s

/-- Kinds of the dynamics chain. -/
def isDynamics (kind : Nat) : Bool := decide (0x37 ≤ kind) && decide (kind ≤ 0x3D)

/-- Channels of a dynamics operation: DUCKER's last input is its key (Table 07-2). -/
def dynChannels (o : Op) : Nat := if o.kind = 0x3B then o.nin - 1 else o.nin

/-- Fade word of Table 04-4: 0x7FF selects the default length; curve 3 is refused. -/
def fadeWordBad (w : Word) : Bool :=
  (decide (1024 < fld w 10 0) && decide (fld w 10 0 ≠ 0x7FF)) || decide (fld w 17 16 = 3) || reservedSet w (mask 10 0 + mask 17 16)

/-- The dynamics block's fields out of range (Table 07-3). -/
def dynParamsBad (o : Op) : Bool :=
  let q := fun (x : Int) (lo hi : Int) => decide (x < lo) || decide (hi < x)
  let dB : Int := 2 ^ 24
  reservedSet (o.w 6) (mask 8 0 + mask 16 16) || decide (256 < fld (o.w 6) 8 0) ||
  q (o.s 7) (-120 * dB) 0 ||
  ([0x37, 0x38, 0x3C].contains o.kind && q (o.s 8) dB (100 * dB)) ||
  q (o.s 9) 0 (48 * dB) || q (o.s 10) 0 (120 * dB) || q (o.s 11) (-24 * dB) (18 * dB) ||
  decide (fld (o.w 12) 15 0 < 1) || decide (fld (o.w 12) 31 16 < 1) || decide (fld (o.w 13) 15 0 < 1)

/-- How many kind parameter words a Reed operation takes (Table 07-2). -/
def reedParamCount (o : Op) : Nat :=
  match o.kind with
  | 0x30 => 1 + 5 * fld (o.w 6) 5 0
  | 0x31 => 1 + fld (o.w 6) 8 0
  | 0x32 => 1 + fld (o.w 6) 4 0
  | 0x33 => 1 + 20 * fld (o.w 6) 2 0
  | 0x34 => 1 | 0x35 => 1 | 0x36 => 1
  | 0x3C => 13
  | 0x37 => 8 | 0x38 => 8 | 0x39 => 8 | 0x3A => 8 | 0x3B => 8 | 0x3D => 8
  | 0x3E => 0 | 0x3F => 1 | 0x40 => 1 | 0x41 => 1 | 0x42 => 1
  | 0x43 => 11 + o.nin
  | 0x44 => 1 | 0x45 => 3 | 0x46 => 2 | 0x47 => 0 | 0x48 => 2
  | _ => 0

/-- Port counts that a Reed kind does not take (Table 07-2). -/
def reedPortsBad (o : Op) : Bool :=
  let is := fun i n => !(decide (o.nin = i) && decide (o.nout = n))
  match o.kind with
  | 0x30 => is 1 1 | 0x31 => is 1 1 | 0x32 => is 1 1
  | 0x33 => is 1 (fld (o.w 6) 2 0)
  | 0x34 => is 1 1 | 0x35 => is 1 1 | 0x36 => is 1 1
  | 0x3B => decide (o.nout < 1) || decide (8 < o.nout) || decide (o.nin ≠ o.nout + 1)
  | 0x37 => decide (o.nin < 1) || decide (8 < o.nin) || decide (o.nin ≠ o.nout)
  | 0x38 => decide (o.nin < 1) || decide (8 < o.nin) || decide (o.nin ≠ o.nout)
  | 0x39 => decide (o.nin < 1) || decide (8 < o.nin) || decide (o.nin ≠ o.nout)
  | 0x3A => decide (o.nin < 1) || decide (8 < o.nin) || decide (o.nin ≠ o.nout)
  | 0x3C => decide (o.nin < 1) || decide (8 < o.nin) || decide (o.nin ≠ o.nout)
  | 0x3D => decide (o.nin < 1) || decide (8 < o.nin) || decide (o.nin ≠ o.nout)
  | 0x3E => decide (o.nin < 2) || decide (64 < o.nin) || decide (o.nout ≠ 1)
  | 0x3F => is 2 2 | 0x40 => is 1 2
  | 0x41 => decide (o.nin < 1) || decide (64 < o.nin) || decide (o.nout ≠ 0)
  | 0x42 => decide (o.nin < 1) || decide (64 < o.nin) || decide (o.nout ≠ 0)
  | 0x43 => decide (o.nin < 1) || decide (64 < o.nin) || decide (o.nout ≠ 0)
  | 0x44 => is 1 0 | 0x45 => is 0 1 | 0x46 => is 0 1
  | 0x47 => decide (o.nin ≠ 0) || decide (o.nout < 1) || decide (64 < o.nout)
  | 0x48 => decide (o.nin < 2) || decide (16 < o.nin) || decide (o.nout ≠ 1)
  | _ => true

/-- Kind parameters out of range (R221), for quantum Q. -/
def reedParamsBad (o : Op) (q : Nat) : Bool :=
  let w6 := o.w 6
  match o.kind with
  | 0x30 => reservedSet w6 (mask 5 0) || decide (fld w6 5 0 < 1) || decide (32 < fld w6 5 0)
  | 0x31 => reservedSet w6 (mask 8 0) || decide (fld w6 8 0 < 1) || decide (256 < fld w6 8 0)
  | 0x32 => reservedSet w6 (mask 4 0) || decide (fld w6 4 0 < 1) || decide (16 < fld w6 4 0) ||
      (span 7 (fld w6 4 0)).any fun i => decide (2 ^ 30 ≤ (o.s i).natAbs)
  | 0x33 => reservedSet w6 (mask 2 0) || decide (fld w6 2 0 < 2) || decide (4 < fld w6 2 0)
  | 0x34 => decide (2 ^ 30 ≤ w6.toNat)
  | 0x35 => reservedSet w6 (mask 15 0)
  | 0x36 => decide (w6.toNat < 4 * 2 ^ 19) || decide ((8188 - q) * 2 ^ 19 < w6.toNat)
  | 0x3E => false | 0x47 => false
  | 0x3F => false
  | 0x40 => decide ((o.s 6) < -(2 ^ 30)) || decide (2 ^ 30 < o.s 6)
  | 0x41 => reservedSet w6 (mask 3 0) || decide (10 < fld w6 3 0)
  | 0x42 => reservedSet w6 (mask 3 0) || decide (10 < fld w6 3 0)
  | 0x43 => reservedSet w6 (mask 16 0) || decide (fld w6 16 0 < 64) || decide (65536 < fld w6 16 0) ||
      (span 17 o.nin).any fun i => decide (2 ^ 30 < (o.w i).toNat)
  | 0x44 => reservedSet w6 (mask 3 0 + mask 8 8) || decide (fld w6 3 0 < 6) || decide (10 < fld w6 3 0)
  | 0x45 => decide (2 ^ 30 < (o.w 8).toNat)
  | 0x46 => decide (2 ^ 30 < (o.w 7).toNat)
  | 0x48 => reservedSet w6 (mask 3 0) || decide (o.nin ≤ fld w6 3 0) || fadeWordBad (o.w 7)
  | _ => dynParamsBad o

/-! ### Costs (Table 07-5) -/

/-- Cycles per quantum. -/
def reedCycles (o : Op) (q : Nat) : Nat :=
  let w6 := o.w 6
  let n := dynChannels o
  match o.kind with
  | 0x30 => 40 + q * (2 * fld w6 5 0 + 1)
  | 0x31 => 40 + q * (cdivN (fld w6 8 0) 4 + 2)
  | 0x32 => 40 + q * (fld w6 4 0 + 1)
  | 0x33 => 48 + q * (8 * fld w6 2 0 + 1)
  | 0x34 => 24 + 2 * q | 0x35 => 32 + q | 0x36 => 48 + 6 * q
  | 0x3E => 16 + q * cdivN o.nin 2 | 0x3F => 16 + 2 * q | 0x40 => 16 + 2 * q
  | 0x41 => 24 + q * cdivN o.nin 2 | 0x42 => 24 + q * o.nin | 0x43 => 48 + q * (5 * o.nin + 1)
  | 0x44 => 32 + q * (2 * fld w6 3 0 + 6) | 0x45 => 16 + 2 * q | 0x46 => 16 + 3 * q | 0x47 => 8 | 0x48 => 16 + 2 * q
  | _ => 96 + q * (14 * n + 4) + (if o.kind = 0x3C then 2 * q else 0) + (if o.kind = 0x3B then q else 0)

/-- State bytes. -/
def reedStateBytes (o : Op) (q : Nat) : Nat :=
  let w6 := o.w 6
  let n := dynChannels o
  match o.kind with
  | 0x30 => 16 + 16 * fld w6 5 0 | 0x31 => 8 * fld w6 8 0 | 0x32 => 16 + 8 * fld w6 4 0 | 0x33 => 16 + 64 * fld w6 2 0
  | 0x34 => 16 | 0x35 => 8 * (fld w6 15 0 + q) | 0x36 => 32784 | 0x3E => 0 | 0x3F => 0 | 0x40 => 8
  | 0x41 => 16 * o.nin | 0x42 => 16 * o.nin | 0x43 => 48 * o.nin | 0x44 => 32 * 2 ^ fld w6 3 0
  | 0x45 => 8 | 0x46 => 0 | 0x47 => 0 | 0x48 => 8
  | _ => 32 * n + 8 * n * fld w6 8 0 + (if o.kind = 0x3C then 16 else 0)

/-- Biquad sections counted. -/
def reedSections (o : Op) : Nat :=
  match o.kind with | 0x30 => fld (o.w 6) 5 0 | 0x32 => fld (o.w 6) 4 0 | 0x33 => 4 * fld (o.w 6) 2 0 | _ => 0

/-- Dynamics processors counted. -/
def reedDynCount (o : Op) : Nat := if isDynamics o.kind then dynChannels o else 0

/-! ### Fixed delay that a Reed operation adds (Table 02-6): least and greatest samples -/

/-- DELAY, DELAY_FRAC (rounded down and up) and dynamics lookahead (R566). -/
def reedDelay (o : Op) : Nat × Nat :=
  if o.kind = 0x35 then (fld (o.w 6) 15 0, fld (o.w 6) 15 0)
  else if o.kind = 0x36 then ((o.w 6).toNat / 2 ^ 19, cdivN (o.w 6).toNat (2 ^ 19))
  else if isDynamics o.kind then (fld (o.w 6) 8 0, fld (o.w 6) 8 0) else (0, 0)

/-! ### State -/

/-- Cleared state (R37, R222); index n0 is the first processed one. -/
def reedInit (o : Op) (n0 : Int) : ReedMem :=
  match o.kind with
  | 0x30 => .biquads (List.replicate (fld (o.w 6) 5 0) {})
  | 0x33 => .bands (List.replicate (fld (o.w 6) 2 0) (List.replicate 4 {}))
  | 0x32 => .firstOrder (List.replicate (fld (o.w 6) 4 0) (0, 0))
  | 0x34 => .firstOrder [(0, 0)]
  | 0x31 => .line [] | 0x35 => .line [] | 0x44 => .line []
  | 0x36 => .frac [] none
  | 0x3E => .none | 0x47 => .none
  | 0x3F => .gain (o.s 6) [] | 0x40 => .gain (o.s 6) [] | 0x46 => .gain (o.s 7) []
  | 0x41 => .meter (List.replicate o.nin 0) 0 | 0x42 => .meter (List.replicate o.nin 0) 0
  | 0x43 => .loud (List.replicate o.nin [{}, {}]) (List.replicate o.nin 0)
  | 0x45 => .tone none (o.s 8) []
  | 0x48 => .switch (fld (o.w 6) 3 0) []
  | _ => .dyn { lastOver := n0 - 1, look := List.replicate (dynChannels o) [], side := List.replicate (dynChannels o) {} }

/-- The fields whose change clears the state at replacement (R222). -/
def reedSizes (o : Op) : List Nat :=
  [o.nin, o.nout] ++
  (match o.kind with
   | 0x30 => [fld (o.w 6) 5 0] | 0x31 => [fld (o.w 6) 8 0] | 0x32 => [fld (o.w 6) 4 0] | 0x33 => [fld (o.w 6) 2 0]
   | 0x35 => [fld (o.w 6) 15 0] | 0x43 => [fld (o.w 6) 16 0] | 0x44 => [fld (o.w 6) 3 0]
   | k => if isDynamics k then [fld (o.w 6) 8 0] else [])

/-- Length and curve of a fade word under the defaults in force (Table 04-4). -/
def fadeOf (w : Word) (defLen : Nat) (defCurve : Curve) : Nat × Curve :=
  (if fld w 10 0 = 0x7FF then defLen else fld w 10 0,
   if fld w 17 16 = 1 then .linear else if fld w 17 16 = 2 then .power else defCurve)

/-- A crossfade of a change due at one index that takes effect at another, under the defaults of the first; where it waits, a default is
taken again as it starts (R138, R152). -/
def newFade {α : Type} (w : Word) (dflt : Nat × Curve) (due n : Int) (x : α) : Fade α :=
  let lc := fadeOf w dflt.1 dflt.2
  { start := n, len := lc.1, curve := lc.2, incoming := x,
    auto := if due < n then (decide (fld w 10 0 = 0x7FF), decide (fld w 17 16 = 0)) else (false, false) }

/-- A crossfade that has not begun by an index takes the defaults that hold from there on (R152). -/
def Fade.redefault {α : Type} (f : Fade α) (n : Int) (d : Nat × Curve) : Fade α :=
  if f.start < n then f else { f with len := if f.auto.1 then d.1 else f.len, curve := if f.auto.2 then d.2 else f.curve }

/-- The crossfades of a SWITCH that start at or after an index take the defaults in force where they start (R152, R227). -/
def ReedMem.redefault (m : ReedMem) (first : Int) (dflt : Int → Nat × Curve) : ReedMem :=
  match m with
  | .switch sel fades => .switch sel (fades.map fun f => if f.start < first then f else f.redefault f.start (dflt f.start))
  | m => m

/-- State of an operation kept at replacement at boundary b with new parameters: ramps of k, P and A over Q samples, the
crossfade of SWITCH (R222). The flag says that the SWITCH change was deferred (R138, R568). -/
def reedKeep (old new : Op) (m : ReedMem) (b : Int) (q : Nat) (dflt : Nat × Curve) : ReedMem × Bool :=
  match m with
  | .gain base t =>
    let v := if new.kind = 0x46 then new.s 7 else new.s 6
    (.gain base (if t.final base = v then t else t.push base b q v), false)
  | .tone ph base t => (.tone ph base (if t.final base = new.s 8 then t else t.push base b q (new.s 8)), false)
  | .switch sel fades =>
    let want := fld (new.w 6) 3 0
    if want = (fades.getLast?.elim sel (·.incoming)) then (m, false)
    else
      let n := fadeStart fades b
      let left := fades.filter fun f => decide (f.start < n)
      if want = (left.getLast?.elim sel (·.incoming)) then (.switch sel left, false)
      else (.switch sel (left ++ [newFade (new.w 7) dflt (n - 1) n want]), decide (b < n))
  | _ => if old.kind = new.kind then (m, false) else (m, false)

/-! ### One sample -/

/-- One section: y before and after saturation, and the new past values (R223). -/
def secStep (c : List Int) (s : Sec) (x : Int) : Int × Sec × Nat :=
  let y := rhe (c.getD 0 0 * x + c.getD 1 0 * s.x1 + c.getD 2 0 * s.x2 - c.getD 3 0 * s.y1 - c.getD 4 0 * s.y2) (2 ^ 30)
  let v := sat40 y
  (v, ⟨x, s.x1, v, s.y1⟩, b2n (overBits 40 y))

/-- A cascade of sections. -/
def cascadeStep (o : Op) (from_ : Nat) : Nat → List Sec → Int → Int × List Sec × Nat
  | _, [], x => (x, [], 0)
  | i, s :: ss, x =>
    let r := secStep (secCoefs o from_ i) s x
    let t := cascadeStep o from_ (i + 1) ss r.1
    (t.1, r.2.1 :: t.2.1, r.2.2 + t.2.2)

/-- All-pass stages with coefficients from word 7 on (R223). -/
def allpassStep (o : Op) : Nat → List (Int × Int) → Int → Int × List (Int × Int) × Nat
  | _, [], x => (x, [], 0)
  | i, (x1, y1) :: st, x =>
    let a := o.s (7 + i)
    let y := rhe (a * x + 2 ^ 30 * x1 - a * y1) (2 ^ 30)
    let t := allpassStep o (i + 1) st (sat40 y)
    (t.1, (x, sat40 y) :: t.2.1, b2n (overBits 40 y) + t.2.2)

/-- The level L of step 3 (R226). -/
def levelDb (p : Int) : Int :=
  let floor_ : Int := -127 * 2 ^ 24
  if p ≤ 0 then floor_
  else max floor_ (rhe (10 * fxLn p.toNat (2 ^ 31) * 2 ^ 24) fxLn10)

/-- 10^(x / 20) in Q4.28 for x in Q8.24 dB, saturated (R226 step 6). -/
def dbGain (x : Int) : Int := sat32 (fxRound (fxExp (Int.fdiv (x * fxLn10) (20 * 2 ^ 24))) (2 ^ 28))

/-- The compressor curve with reduction factor (1/R − 1) = num / den. -/
def compCurve (d w num den : Int) : Int :=
  if 2 * d < -w then 0
  else if w < 2 * d then rhe (num * d) den
  else if 0 < w then rhe (num * (2 * d + w) * (2 * d + w)) (den * 8 * w) else 0

/-- The target G_t of a kind (Table 07-4); the gate's state is given. -/
def staticCurve (kind : Nat) (d w v m r gPrev : Int) (gateOpen : Bool) : Int :=
  if kind = 0x37 || kind = 0x3C then compCurve d w (2 ^ 24 - r) r
  else if kind = 0x3A then compCurve d w (-1) 1
  else if kind = 0x38 then
    if 2 * d < -w then max (-v) (rhe ((r - 2 ^ 24) * d) (2 ^ 24))
    else if w < 2 * d then 0
    else if 0 < w then max (-v) (rhe (-((r - 2 ^ 24) * (2 * d - w) * (2 * d - w))) (2 ^ 24 * 8 * w)) else 0
  else if kind = 0x39 then (if gateOpen then 0 else -v)
  else if kind = 0x3B then
    if 0 ≤ d then -v else if -w ≤ d && decide (0 < w) then rhe (-v * (d + w)) w else 0
  else if -w ≤ d then clampI (-v) m (-d) else gPrev

/-- Gate state after level L at index n, and n_T (Table 07-4). -/
def gateStep (s : Dyn) (l t w : Int) (hold : Nat) (n : Int) : Bool × Int :=
  if t ≤ l then (true, n)
  else if s.gateOpen && decide (l < t - w) && decide (hold < n - s.lastOver) then (false, s.lastOver)
  else (s.gateOpen, s.lastOver)

/-- One index of the dynamics chain: outputs, state, and saturations a port (R226). -/
def dynStep (o : Op) (fs : Nat) (s : Dyn) (n : Int) (xs : List Int) : List Int × Dyn × List Nat :=
  let nch := dynChannels o
  let chans := xs.take nch
  let side := (List.range nch).map fun i => secStep ((span 14 5).map o.s) (s.side.getD i {}) (chans.getD i 0)
  let det : Int :=
    if o.kind = 0x3B then ((xs.getD nch 0).natAbs : Int)
    else if o.kind = 0x3C then side.foldl (fun m r => max m (r.1.natAbs : Int)) 0
    else chans.foldl (fun m x => max m (x.natAbs : Int)) 0
  let pin := rhe (det * det) (2 ^ 31)
  let p := if bitOf (o.w 6) 16 then s.p + rhe ((pin - s.p) * smoothCoef (fld (o.w 13) 15 0) fs) (2 ^ 30) else pin
  let l := levelDb p
  let gate := gateStep s l (o.s 7) (o.s 9) (fld (o.w 13) 31 16) n
  let gt := staticCurve o.kind (l - o.s 7) (o.s 9) (o.s 10) (o.s 11) (o.s 8) s.g gate.1
  let k := if gt < s.g then smoothCoef (fld (o.w 12) 15 0) fs else smoothCoef (fld (o.w 12) 31 16) fs
  let g := s.g + rhe ((gt - s.g) * k) (2 ^ 30)
  let gain := dbGain (g + if o.kind = 0x3D then 0 else o.s 11)
  let la := fld (o.w 6) 8 0
  let late := (List.range nch).map fun i => if la = 0 then chans.getD i 0 else (s.look.getD i []).getD (la - 1) 0
  let raw := late.map fun x => rhe (x * gain) (2 ^ 28)
  let sideOver := side.map fun r => if o.kind = 0x3C then r.2.2 else 0
  (raw.map sat40,
   { p := p, g := g, gateOpen := gate.1, lastOver := gate.2,
     look := (List.range nch).map fun i => (chans.getD i 0 :: s.look.getD i []).take la,
     side := if o.kind = 0x3C then side.map (·.2.1) else s.side },
   (List.range nch).map fun i => b2n (overBits 40 (raw.getD i 0)) + sideOver.getD i 0)

/-- Value of a SWITCH at an index before saturation: the crossfades nested in order (R136, R137, R227). -/
def switchValue (sel : Nat) (fades : List (Fade Nat)) (n : Int) (xs : List Int) : Int :=
  fades.foldl (fun y f =>
    if n < f.start then y
    else if n < f.start + f.len then fadeMix y (xs.getD f.incoming 0) (fadeWeights f.curve f.len (n - f.start).toNat)
    else xs.getD f.incoming 0) (xs.getD sel 0)

/-- A number as a record word; where it does not fit, no result is stated. -/
def recordWord (v : Nat) : Word := if v < 2 ^ 32 then w32 v else Config.overWord v

/-- Hann window weight i of 2B (R229). -/
def hann (twoB i : Nat) : Int := fxRound (Int.fdiv (fxOne - fxCosTurn i twoB) 2) (2 ^ 30)

/-- Words of a SPECTRUM record (R229). -/
def spectrumWords (lg : Nat) (window : Bool) (xs : List Int) : List (List Word) :=
  let twoB := 2 ^ (lg + 1)
  let x := if window then (List.range twoB).map fun i => rhe (xs.getD i 0 * hann twoB i) (2 ^ 30) else xs
  let r := realForward lg x
  [w32 (BitVec.ofInt 8 r.2).toNat] :: r.1.flatMap fun z => [[lo32 z.1], [lo32 z.2]]

/-- The record of a SPECTRUM operation from its line, newest first. -/
def spectrumOf (o : Op) (h : List Int) : List (List Word) :=
  let lg := fld (o.w 6) 3 0
  let twoB := 2 ^ (lg + 1)
  spectrumWords lg (bitOf (o.w 6) 8) (h ++ List.replicate (twoB - h.length) 0).reverse

/-- METER_PEAK and METER_RMS at an index: where the period ends there, the record of the samples gathered closes (R228). -/
def meterClose (o : Op) (q : Nat) (n : Int) (acc : List Nat) (k : Nat) : ReedMem × List Record :=
  if decide (n % (2 ^ fld (o.w 6) 3 0 * q : Nat) = 0) && decide (0 < k) then
    (.meter (acc.map fun _ => 0) 0, [⟨n, acc.map fun v => [recordWord (if o.kind = 0x41 then v else (rhe v (k * 2 ^ 31)).toNat)]⟩])
  else (.meter acc k, [])

/-- METER_LOUDNESS at an index: at a multiple of K_b the record of the samples before it closes (R228). -/
def loudClose (o : Op) (n : Int) (secs : List (List Sec)) (acc : List Nat) : ReedMem × List Record :=
  let kb := fld (o.w 6) 16 0
  if n % (kb : Int) = 0 then
    let total := nsum (acc.zipIdx.map fun v => (o.w (17 + v.2)).toNat * v.1)
    let v := (rhe total (kb * 2 ^ 61)).toNat
    (.loud secs (acc.map fun _ => 0), [⟨n, [[recordWord (v % 2 ^ 32), recordWord (v / 2 ^ 32)]]⟩])
  else (.loud secs acc, [])

/-- What one index of an operation gives: outputs, state, saturations a port, and a record that closes with the index. -/
structure ReedStep where
  outs : List Int := []
  mem : ReedMem
  saturated : List Nat := []
  recs : List Record := []

/-- One index n of a Reed operation (R223 to R230). -/
def reedStep (o : Op) (fs q : Nat) (m : ReedMem) (n : Int) (xs : List Int) : ReedStep :=
  let x := xs.getD 0 0
  match m with
  | .biquads secs => let r := cascadeStep o 7 0 secs x; ⟨[r.1], .biquads r.2.1, [r.2.2], []⟩
  | .bands bs =>
    let rs := bs.zipIdx.map fun b => cascadeStep o (7 + 20 * b.2) 0 b.1 x
    ⟨rs.map (·.1), .bands (rs.map (·.2.1)), rs.map (·.2.2), []⟩
  | .firstOrder st =>
    if o.kind = 0x32 then let r := allpassStep o 0 st x; ⟨[r.1], .firstOrder r.2.1, [r.2.2], []⟩
    else
      let s := st.headD (0, 0)
      let y := rhe (2 ^ 30 * (x - s.1) + o.s 6 * s.2) (2 ^ 30)
      ⟨[sat40 y], .firstOrder [(x, sat40 y)], [b2n (overBits 40 y)], []⟩
  | .line h =>
    if o.kind = 0x31 then
      let h1 := (x :: h).take (fld (o.w 6) 8 0)
      let y := rhe (isum (h1.zipIdx.map fun v => o.s (7 + v.2) * v.1)) (2 ^ 31)
      ⟨[sat40 y], .line h1, [b2n (overBits 40 y)], []⟩
    else if o.kind = 0x35 then
      let d := fld (o.w 6) 15 0
      ⟨[if d = 0 then x else h.getD (d - 1) 0], .line ((x :: h).take d), [0], []⟩
    else
      let lg := fld (o.w 6) 3 0
      let h1 := (x :: h).take (2 ^ (lg + 1))
      ⟨[], .line h1, [], if (n + 1) % (2 ^ lg : Nat) = 0 then [⟨n + 1, spectrumOf o h1⟩] else []⟩
  | .frac h t =>
    let want : Int := (o.w 6).toNat
    let t1 := match t with | none => want | some v => v + clampI (-0x20000) 0x20000 (want - v)
    let hx := toHistory x
    let h1 := (sat32 hx :: h).take 8192
    let y := interpolate h1 (t1 - 4 * 2 ^ 19)
    ⟨[sat40 y], .frac h1 (some t1), [b2n (overBits 32 hx) + b2n (overBits 40 y)], []⟩
  | .dyn d => let r := dynStep o fs d n xs; ⟨r.1, .dyn r.2.1, r.2.2, []⟩
  | .gain base t =>
    let k := t.at_ base n
    let outs : List Int :=
      if o.kind = 0x3F then [rhe ((x + xs.getD 1 0) * k) (2 ^ 28), rhe ((x - xs.getD 1 0) * k) (2 ^ 28)]
      else if o.kind = 0x40 then
        [rhe (x * fxRound (fxCosTurn (k + 2 ^ 30) (8 * 2 ^ 30)) (2 ^ 30)) (2 ^ 30),
         rhe (x * fxRound (fxSinTurn (k + 2 ^ 30) (8 * 2 ^ 30)) (2 ^ 30)) (2 ^ 30)]
      else [rhe (asSigned 32 ((noiseWord (o.w 6).toNat n) >>> 32).toNat * k) (2 ^ 30)]
    ⟨outs.map sat40, .gain base t, outs.map fun y => b2n (overBits 40 y), []⟩
  | .meter acc k =>
    let acc1 := acc.zipIdx.map fun v =>
      let y := (xs.getD v.2 0).natAbs
      if o.kind = 0x41 then max v.1 y else v.1 + y * y
    let c := meterClose o q (n + 1) acc1 (k + 1)
    ⟨[], c.1, [], c.2⟩
  | .loud secs acc =>
    let rs := secs.zipIdx.map fun b => cascadeStep o 7 0 b.1 (xs.getD b.2 0)
    let c := loudClose o (n + 1) (rs.map (·.2.1)) (acc.zipIdx.map fun v => v.1 + ((rs.getD v.2 (0, [], 0)).1).natAbs ^ 2)
    ⟨[], c.1, [], c.2⟩
  | .tone ph base t =>
    let step := (o.w 6).toNat
    let p : Nat := match ph with
      | none => ((((o.w 7).toNat : Int) + (step : Int) * n) % (2 ^ 32 : Int)).toNat
      | some p => (p + step) % 2 ^ 32
    let y := rhe (2 * t.at_ base n * fxSinTurn p (2 ^ 32)) fxOne
    ⟨[sat40 y], .tone (some p) base t, [b2n (overBits 40 y)], []⟩
  | .switch sel fades =>
    let y := switchValue sel fades n xs
    ⟨[sat40 y], .switch sel fades, [b2n (overBits 40 y)], []⟩
  | .none =>
    if o.kind = 0x3E then let y := isum xs; ⟨[sat40 y], .none, [b2n (overBits 40 y)], []⟩
    else ⟨List.replicate o.nout 0, .none, List.replicate o.nout 0, []⟩

/-- What a quantum of an operation gives: outputs by port, state, saturations by port, and the records closed. -/
structure ReedRun where
  outs : List (List Int) := []
  mem : ReedMem
  saturated : List Nat := []
  recs : List Record := []

/-- The indices of a quantum in order. -/
def reedRunFrom (o : Op) (fs q : Nat) : List (Int × List Int) → ReedMem → ReedRun
  | [], m => ⟨List.replicate o.nout [], m, List.replicate o.nout 0, []⟩
  | (n, xs) :: rest, m =>
    let a := reedStep o fs q m n xs
    let b := reedRunFrom o fs q rest a.mem
    ⟨(List.range o.nout).map fun i => a.outs.getD i 0 :: b.outs.getD i [], b.mem,
     (List.range o.nout).map fun i => a.saturated.getD i 0 + b.saturated.getD i 0, a.recs ++ b.recs⟩

/-- A Reed operation over the Q samples from index n0 (R45). -/
def reedRun (o : Op) (fs q : Nat) (m : ReedMem) (n0 : Int) (ins : List (List Int)) : ReedRun :=
  reedRunFrom o fs q ((List.range q).map fun (i : Nat) => (n0 + i, ins.map fun p => p.getD i 0)) m

end Sys2Proof.Machine
end

