-- ==== Sys2Proof/Machine/Bind.lean ====
section
/-! DEFINITION. What a graph binds: edges into ports, Sluice sources, sinks and buses, object, feed, convolution and Dike
channel numbers (R83, R123 to R125, R157, R188). -/
namespace Sys2Proof.Machine

/-- The operation with an id. -/
def Graph.op (g : Graph) (i : Nat) : Option Op := AMap.find g.ops i

/-- The edge into an input port. -/
def Graph.into (g : Graph) (i port : Nat) : Option Edge := g.edges.find? fun e => decide (e.dst = i) && decide (e.dport = port)

/-- Edges into an operation. -/
def Graph.edgesInto (g : Graph) (i : Nat) : List Edge := g.edges.filter fun e => decide (e.dst = i)

/-- Edges from an operation. -/
def Graph.edgesFrom (g : Graph) (i : Nat) : List Edge := g.edges.filter fun e => decide (e.src = i)

/-- Operations of a kind, by rising id. -/
def Graph.ofKind (g : Graph) (kind : Nat) : List (Nat × Op) := g.ops.filter fun x => decide (x.2.kind = kind)

/-! ### Kind parameters of the Sluice, Serpent, CVE and Dike kinds -/

/-- Stage of a ROUTE_BLOCK or MIX_BUS (Table 04-1). -/
def Op.stage (o : Op) : Nat := fld (o.w 6) 2 0
/-- First source S. -/
def Op.firstSource (o : Op) : Nat := if o.kind = 0x10 then fld (o.w 7) 12 0 else fld (o.w 8) 12 0
/-- First sink K of a ROUTE_BLOCK. -/
def Op.firstSink (o : Op) : Nat := fld (o.w 8) 12 0
/-- First bus B and bus count N of a MIX_BUS. -/
def Op.firstBus (o : Op) : Nat := fld (o.w 7) 10 0
def Op.busCount (o : Op) : Nat := fld (o.w 7) 27 16
/-- Crosspoint reservation of a MIX_BUS. -/
def Op.reservation (o : Op) : Nat := fld (o.w 9) 18 0
/-- Sources that an operation binds. -/
def Op.sourceCount (o : Op) : Nat := if o.kind = 0x10 then o.nin else if o.kind = 0x11 then o.busCount else 0
/-- Object number of an OBJECT, feed number of a FEED (R83). -/
def Op.objNo (o : Op) : Nat := fld (o.w 6) 8 0
def Op.feedNo (o : Op) : Nat := fld (o.w 6) 9 0
/-- Channel, plan and reservation of a CONVOLVE (R157). -/
def Op.convChan (o : Op) : Nat := fld (o.w 6) 9 0
def Op.convPlan (o : Op) : Nat := fld (o.w 6) 17 16
def Op.convRes (o : Op) : Nat := fld (o.w 7) 14 0
/-- First channel, count, lookahead, width and DLY of a DIKE (R188). -/
def Op.dikeFirst (o : Op) : Nat := fld (o.w 6) 10 0
def Op.dikeCount (o : Op) : Nat := fld (o.w 6) 22 16
def Op.dikeLa (o : Op) : Nat := if fld (o.w 7) 1 0 = 0 then 0 else if fld (o.w 7) 1 0 = 1 then 8 else 16
def Op.dikeWidth (o : Op) : Nat := if fld (o.w 7) 5 4 = 0 then 16 else if fld (o.w 7) 5 4 = 1 then 24 else 32
def Op.dikeDly (o : Op) : Bool := bitOf (o.w 7) 8

/-! ### Bound numbers -/

/-- What a router source is: the stage, the operation, and its input port or, for a bus output, the bus (R124, R125). -/
structure Source where
  stage : Nat
  op : Nat
  port : Nat
  bus : Option Nat
  deriving DecidableEq, Repr

/-- The source an operation binds a number to. -/
def Op.sourceAt (o : Op) (i s : Nat) : Option Source :=
  if decide (o.firstSource ≤ s) && decide (s < o.firstSource + o.sourceCount) then
    some ⟨o.stage, i, s - o.firstSource, if o.kind = 0x11 then some (o.firstBus + (s - o.firstSource)) else none⟩
  else none

/-- Router source s in a graph (R123). -/
def Graph.source (g : Graph) (s : Nat) : Option Source := g.ops.findSome? fun x => x.2.sourceAt x.1 s

/-- Router sink x: its operation, output port and stage (R123, R124). -/
def Graph.sink (g : Graph) (x : Nat) : Option (Nat × Nat × Nat) :=
  g.ops.findSome? fun o =>
    if decide (o.2.kind = 0x10) && decide (o.2.firstSink ≤ x) && decide (x < o.2.firstSink + o.2.nout) then
      some (o.1, x - o.2.firstSink, o.2.stage)
    else none

/-- The MIX_BUS operation that declares bus b (R125). -/
def Graph.bus (g : Graph) (b : Nat) : Option (Nat × Op) :=
  (g.ofKind 0x11).find? fun x => decide (x.2.firstBus ≤ b) && decide (b < x.2.firstBus + x.2.busCount)

/-- R129 for a route from source s to sink x. -/
def Graph.routeOk (g : Graph) (s x : Nat) : Bool :=
  match g.source s, g.sink x with
  | some a, some b => decide (a.stage ≤ b.2.2)
  | _, _ => false

/-- R129 for a crosspoint from source s to bus b. -/
def Graph.xpointOk (g : Graph) (s b : Nat) : Bool :=
  match g.source s, g.bus b with
  | some a, some m => decide (a.stage < m.2.stage) || (decide (a.stage = m.2.stage) && decide (a.bus = none))
  | _, _ => false

/-- The operation of the OBJECT kind that names an object. -/
def Graph.objectOp (g : Graph) (n : Nat) : Option (Nat × Op) := (g.ofKind 0x18).find? fun x => decide (x.2.objNo = n)
/-- The FEED operation of a feed. -/
def Graph.feedOp (g : Graph) (n : Nat) : Option (Nat × Op) := (g.ofKind 0x19).find? fun x => decide (x.2.feedNo = n)
/-- The DIKE operation and port of a Dike channel. -/
def Graph.dikeOp (g : Graph) (c : Nat) : Option (Nat × Op) :=
  (g.ofKind 0x28).find? fun x => decide (x.2.dikeFirst ≤ c) && decide (c < x.2.dikeFirst + x.2.dikeCount)

/-- Dike channels that a graph binds, with their operations. -/
def Graph.dikeChans (g : Graph) : List (Nat × Op) := (g.ofKind 0x28).flatMap fun x => (span x.2.dikeFirst x.2.dikeCount).map fun c => (c, x.2)

/-- Kinds that receive and kinds that transmit at ports (Table 02-3). -/
def isReceiver (kind : Nat) : Bool := decide (1 ≤ kind) && decide (kind ≤ 4)
def isTransmitter (kind : Nat) : Bool := decide (8 ≤ kind) && decide (kind ≤ 0x0B)
/-- Kinds that run on Reed cores. -/
def isReed (kind : Nat) : Bool := decide (0x30 ≤ kind) && decide (kind ≤ 0x48)

/-- Delay-0 edges. -/
def Edge.direct (e : Edge) : Bool := decide (e.delay = 0)

end Sys2Proof.Machine
end

