-- ==== Sys2Proof/Machine/Sluice.lean ====
section
/-! DEFINITION. The Sluice: routes, crossfades, buses, crosspoints, gains and matrices, and how each change takes effect
(R123 to R156). -/
namespace Sys2Proof.Machine

/-! ### Gains (R141) -/

/-- Gain at an index. -/
def Gain.at_ (g : Gain) (n : Int) : Int := Track.at_ g.track g.base n
/-- The gain it ends at. -/
def Gain.final (g : Gain) : Int := Track.final g.track g.base
/-- A change at index n to v over len samples. -/
def Gain.push (g : Gain) (n : Int) (len : Nat) (v : Int) : Gain := { g with track := Track.push g.track g.base n len v }
/-- Without the changes at or after index n. -/
def Gain.before (g : Gain) (n : Int) : Gain := { g with track := g.track.filter fun r => decide (r.start < n) }
/-- Forget changes that no index from h on needs. -/
def Gain.prune (g : Gain) (h : Int) : Gain := { g with track := Track.prune g.track h }
/-- At its target (R150). -/
def Gain.settle (g : Gain) : Gain := ⟨g.final, []⟩
/-- A constant gain. -/
def Gain.const (v : Int) : Gain := ⟨v, []⟩

/-- A crosspoint with this gain is active at an index: from when the gain leaves 0 until a ramp brings it to 0 (R143). -/
def Gain.active (g : Gain) (n : Int) : Bool :=
  match g.track.find? fun r => decide (r.start ≤ n) with
  | none => decide (g.base ≠ 0)
  | some r => decide (r.g1 ≠ 0) || (decide (r.g0 ≠ 0) && decide (n + 1 < r.start + r.len))

/-- A gain that is 0 from now on and has no change to come is no crosspoint. -/
def Gain.dead (g : Gain) (n : Int) : Bool := !g.active n && decide (g.final = 0) && g.track.all fun r => decide (r.start ≤ n)

/-! ### Words of Table 04-4 -/

/-- Ramp length of a ramp word. -/
def Sluice.ramp (l : Sluice) (w : Word) : Nat := if fld w 15 0 = 0xFFFF then l.rampLen else fld w 15 0
/-- Length and curve of a fade word. -/
def Sluice.fade (l : Sluice) (w : Word) : Nat × Curve := fadeOf w l.fadeLen l.fadeCurve
/-- The defaults in force at an index (R152). -/
def Sluice.fadeAt (l : Sluice) (n : Int) : Nat × Curve :=
  l.fadePast.foldl (fun c e => if n < e.1 then e.2 else c) (l.fadeLen, l.fadeCurve)
/-- A ramp word with a reserved bit set. -/
def rampWordBad (w : Word) : Bool := reservedBits w 15 0
where
  /-- Bits outside one field. -/
  reservedBits (w : Word) (hi lo : Nat) : Bool := decide (w.toNat ≠ fld w hi lo * 2 ^ lo)

/-! ### Sinks (R132 to R138) -/

/-- The term of a side: round(x × g / 2^28), 0 when its source was lost (R132, R149). -/
def sideTerm (side : Option RouteSide) (n : Int) (x : Nat → Int) : Int :=
  match side with
  | none => 0
  | some r => if r.dead.any fun d => decide (d ≤ n) then 0 else rhe (x r.src * r.gain.at_ n) (2 ^ 28)

/-- A side without the changes of its gain at or after index n. -/
def RouteSide.before (r : RouteSide) (n : Int) : RouteSide := { r with gain := r.gain.before n }

/-- A side whose source was lost by an index is silence (R149). -/
def liveSide (side : Option RouteSide) (n : Int) : Option RouteSide := side.filter fun r => !r.dead.any fun d => decide (d ≤ n)

/-- A sink's unsaturated value at an index: its crossfades nested, oldest innermost (R136, R137). -/
def Sink.value (k : Sink) (n : Int) (x : Nat → Int) : Int :=
  k.fades.foldl (fun y f =>
    if n < f.start then y
    else if n < f.start + f.len then fadeMix y (sideTerm f.incoming n x) (fadeWeights f.curve f.len (n - f.start).toNat)
    else sideTerm f.incoming n x) (sideTerm k.route n x)

/-- The side of a sink's newest crossfade, or its route (R133). -/
def Sink.current (k : Sink) : Option RouteSide := match k.fades.getLast? with | some f => f.incoming | none => k.route

/-- Without the changes that would start at or after index n (R62). -/
def Sink.before (k : Sink) (n : Int) : Sink :=
  { route := k.route.map (·.before n),
    fades := (k.fades.filter fun f => decide (f.start < n)).map fun f => { f with incoming := f.incoming.map (·.before n) } }

/-- Sides whose fades ended by index h go; the last of them becomes the route, and there is none when its source was lost (R134, R149). -/
def Sink.prune (k : Sink) (h : Int) : Sink :=
  match k.fades.reverse.dropWhile fun f => decide (h < f.start + f.len) with
  | [] => k
  | f :: _ => { route := liveSide f.incoming h, fades := (k.fades.reverse.takeWhile fun g => decide (h < g.start + g.len)).reverse }

/-- Change a sink's gain on its current side. -/
def Sink.regain (k : Sink) (n : Int) (len : Nat) (v : Int) : Sink :=
  match k.fades.getLast? with
  | none => { k with route := k.route.map fun r => { r with gain := r.gain.push n len v } }
  | some f => { k with fades := k.fades.dropLast ++ [{ f with incoming := f.incoming.map fun r => { r with gain := r.gain.push n len v } }] }

/-- The index at which a route change due at n takes effect (R138). -/
def Sink.startFor (k : Sink) (n : Int) : Int := fadeStart k.fades n

/-- Start a crossfade to a side. -/
def Sink.fadeTo (k : Sink) (f : Fade (Option RouteSide)) : Sink :=
  let k1 := k.before f.start
  { k1 with fades := k1.fades ++ [f] }

/-- Sink x. -/
def Sluice.sink (l : Sluice) (x : Nat) : Sink := AMap.getD l.sinks x {}

/-- A route change due at n starts its crossfade; the answer says whether it was deferred (R138). -/
def Sluice.fadeSink (l : Sluice) (x : Nat) (w : Word) (n : Int) (side : Option RouteSide) : Sluice × Bool :=
  let k := l.sink x
  let m := k.startFor n
  ({ l with sinks := AMap.put l.sinks x (k.fadeTo (newFade w (l.fadeLen, l.fadeCurve) n m side)) }, decide (n < m))

/-- ROUTE_SET at index n (R133, R138, R155): the new Sluice, and whether the change was deferred. A change of the gain alone is no route
change: it takes effect at n also where a route change waits (DEDUCED, log entry 66). -/
def Sluice.routeSet (l : Sluice) (x src : Nat) (g : Int) (w : Word) (n : Int) : Sluice × Bool :=
  let k := l.sink x
  match (k.before n).current with
  | some r =>
    if decide (r.src = src) && decide (r.dead = none) then
      let len := if fld w 10 0 = 0x7FF then l.rampLen else fld w 10 0
      let k1 := (k.before n).regain n len g
      ({ l with sinks := AMap.put l.sinks x { k1 with fades := k1.fades ++ k.fades.filter fun f => decide (n < f.start) } }, false)
    else l.fadeSink x w n (some ⟨src, Gain.const g, none⟩)
  | none => l.fadeSink x w n (some ⟨src, Gain.const g, none⟩)

/-- ROUTE_CLEAR of one sink at index n (R134, R138); a sink without route and crossfade is left so, and a ROUTE_SET accepted before it for
the same index does not prevail (R62, R151). -/
def Sluice.routeClear (l : Sluice) (x : Nat) (w : Word) (n : Int) : Sluice × Bool :=
  let k := l.sink x
  let b := k.before n
  if decide (liveSide b.current n = none) && (fadesRunning b.fades n).isEmpty then
    ({ l with sinks := if b = k then l.sinks else AMap.put l.sinks x b }, false)
  else l.fadeSink x w n none

/-! ### Buses and crosspoints (R142 to R145) -/

/-- Key of a crosspoint. -/
def xpKey (s b : Nat) : Nat := s * 2048 + b

/-- Bus b exists at index n: created, and not past the quantum of its release (R144, R145). -/
def Sluice.busAt (l : Sluice) (q : Nat) (b : Nat) (n : Int) : Bool :=
  match AMap.find l.buses b with | none => false | some u => u.release.all fun r => decide (n < r + q)

/-- Set a crosspoint's gain at index n. -/
def Sluice.setXp (l : Sluice) (s b : Nat) (n : Int) (len : Nat) (v : Int) : Sluice :=
  { l with xpts := AMap.put l.xpts (xpKey s b) ((AMap.getD l.xpts (xpKey s b) {}).push n len v) }

/-- Set a MATRIX cell at index n. -/
def Sluice.setCell (l : Sluice) (op i j : Nat) (n : Int) (len : Nat) (v : Int) : Sluice :=
  let m := AMap.getD l.cells op []
  { l with cells := AMap.put l.cells op (AMap.put m (64 * i + j) ((AMap.getD m (64 * i + j) {}).push n len v)) }

/-- Crosspoints of a range of buses that are active at an index (R143). -/
def Sluice.activeIn (l : Sluice) (first count : Nat) (n : Int) : Nat :=
  (l.xpts.filter fun x => decide (first ≤ x.1 % 2048) && decide (x.1 % 2048 < first + count) && x.2.active n).length

/-- The sum of a bus at an index before its shift. -/
def Sluice.busSum (l : Sluice) (b : Nat) (n : Int) (x : Nat → Int) : Int :=
  isum ((l.xpts.filter fun c => decide (c.1 % 2048 = b) && c.2.active n).map fun c => rhe (x (c.1 / 2048) * c.2.at_ n) (2 ^ 28))

/-- A bus output at an index, with its saturation: created, shifted, and faded over the quantum of its release (R142, R145). -/
def Sluice.busOut (l : Sluice) (q : Nat) (b : Nat) (n : Int) (x : Nat → Int) : Int × Nat :=
  match AMap.find l.buses b with
  | none => (0, 0)
  | some u =>
    let v := rhe (l.busSum b n x) (2 ^ u.shift)
    match u.release with
    | none => (sat40 v, b2n (overBits 40 v))
    | some r =>
      if n < r then (sat40 v, b2n (overBits 40 v))
      else if n < r + q then (rhe (sat40 v * (q - (n - r))) (q + 1), b2n (overBits 40 v))
      else (0, 0)

/-- Free the buses whose release quantum ended by index n, with their crosspoints (R145), and forget what no index from n on
needs. -/
def Sluice.tidy (l : Sluice) (q : Nat) (n : Int) : Sluice :=
  let gone := (l.buses.filter fun x => x.2.release.any fun r => decide (r + q ≤ n)).map Prod.fst
  { l with
    buses := l.buses.filter fun x => !gone.contains x.1
    xpts := ((l.xpts.filter fun x => !gone.contains (x.1 % 2048)).map fun x => (x.1, x.2.prune (n - 1))).filter fun x => !x.2.dead (n - 1)
    sinks := (l.sinks.map fun x => (x.1, x.2.prune (n - 1))).filter fun x => x.2 != {}
    fadePast := l.fadePast.filter fun e => decide (n < e.1)
    gains := l.gains.mapVal fun gs => gs.map fun g => g.prune (n - 1)
    cells := l.cells.mapVal fun m => (m.mapVal fun g => g.prune (n - 1)).filter fun x => !x.2.dead (n - 1) }

/-! ### GAIN and MATRIX (R139, R140) -/

/-- Set channels of a GAIN operation at index n. -/
def Sluice.setGains (l : Sluice) (op first count : Nat) (n : Int) (len : Nat) (v : Int) : Sluice :=
  { l with gains := AMap.upd l.gains op fun gs =>
      gs.zipIdx.map fun g => if decide (first ≤ g.2) && decide (g.2 < first + count) then g.1.push n len v else g.1 }

/-- Output of a MATRIX port before saturation. -/
def Sluice.cellSum (l : Sluice) (op j : Nat) (n : Int) (xs : List Int) : Int :=
  isum (xs.zipIdx.map fun x => rhe (x.1 * (AMap.getD (AMap.getD l.cells op []) (64 * x.2 + j) {}).at_ n) (2 ^ 28))

/-! ### Graph replacement and stop (R149, R150) -/

/-- A side judged against a new graph: lost from boundary b on when its source is unbound or breaks R129 with the sink. -/
def sideJudge (g : Graph) (x : Nat) (b : Int) (r : RouteSide) : RouteSide :=
  if g.routeOk r.src x || r.dead.isSome then r else { r with dead := some b }

/-- Whether a side is lost now. -/
def sideLost (g : Graph) (x : Nat) (side : Option RouteSide) : Bool :=
  match side with | none => false | some r => !g.routeOk r.src x && decide (r.dead = none)

/-- The sides of a sink: its route, and what its crossfades go to. -/
def Sink.sides (k : Sink) : List (Option RouteSide) := k.route :: k.fades.map (·.incoming)

/-- A sink at a graph replacement at boundary b: what is left of it, and how much was lost (R149). Silence is a side that no replacement
removes, so a crossfade from or to it runs on. -/
def Sink.replaced (k : Sink) (g : Graph) (x : Nat) (b : Int) : Option Sink × Nat :=
  let k := k.prune b
  if g.sink x = none then (none, k.sides.countP fun s => (liveSide s b).isSome)
  else
    let lost := k.sides.countP (sideLost g x)
    if lost = 0 then (some k, 0)
    else if !k.fades.isEmpty && k.sides.any (fun s => !sideLost g x s && decide (liveSide s b = s)) then
      (some { route := k.route.map (sideJudge g x b), fades := k.fades.map fun f => { f with incoming := f.incoming.map (sideJudge g x b) } }, lost)
    else (none, lost)

/-- Gains of a GAIN operation in a new graph: kept for a kept operation, the new initial gain elsewhere (R139). -/
def gainsFor (old : Option Graph) (l : Sluice) (i : Nat) (o : Op) : List Gain :=
  let kept := if old.any fun g => (g.op i).any fun p => decide (p.kind = 0x12) then AMap.getD l.gains i [] else []
  (List.range o.nin).map fun c => kept.getD c (Gain.const (o.s 6))

/-- Cells of a MATRIX operation in a new graph. -/
def cellsFor (old : Option Graph) (l : Sluice) (i : Nat) (o : Op) : AMap Gain :=
  if old.any fun g => (g.op i).any fun p => decide (p.kind = 0x13) then
    (AMap.getD l.cells i []).filter fun c => decide (c.1 / 64 < o.nin) && decide (c.1 % 64 < o.nout)
  else []

/-- The Sluice at a graph replacement at boundary b, and how many routes, crosspoints, buses and sides were lost (R149). -/
def Sluice.replaced (l : Sluice) (old : Option Graph) (g : Graph) (b : Int) : Sluice × Nat :=
  let sinks := l.sinks.map fun x => (x.1, x.2.replaced g x.1 b)
  let buses := l.buses.filter fun x => (g.bus x.1).isSome
  let xpts := l.xpts.filter fun x => g.xpointOk (x.1 / 2048) (x.1 % 2048)
  let lostSinks := nsum (sinks.map fun x => x.2.2)
  ({ l with
     sinks := sinks.filterMap fun x => x.2.1.map fun k => (x.1, k)
     buses := buses
     xpts := xpts
     gains := (g.ofKind 0x12).map fun x => (x.1, gainsFor old l x.1 x.2)
     cells := (g.ofKind 0x13).map fun x => (x.1, cellsFor old l x.1 x.2) },
   lostSinks + (l.buses.length - buses.length) + ((l.xpts.filter fun x => x.2.active (b - 1)).length - (xpts.filter fun x => x.2.active (b - 1)).length))

/-- Every crossfade and ramp completed to its target (R150). -/
def Sluice.settle (l : Sluice) : Sluice :=
  { l with
    fadePast := []
    sinks := (l.sinks.map fun x => (x.1, ({ route := x.2.current.bind fun r => if r.dead.isSome then none else some { r with gain := r.gain.settle } } : Sink))).filter
      fun x => x.2 != {}
    xpts := (l.xpts.mapVal Gain.settle).filter fun x => decide (x.2.base ≠ 0)
    gains := l.gains.mapVal fun gs => gs.map Gain.settle
    cells := l.cells.mapVal fun m => (m.mapVal Gain.settle).filter fun x => decide (x.2.base ≠ 0) }

end Sys2Proof.Machine
end

