-- ==== Sys2Proof/Machine/Dike.lean ====
section
/-! DEFINITION. The Dike: trim, limiter, narrowing, delay, mute, dither, conversion and meters (R188 to R208). -/
namespace Sys2Proof.Machine

/-- Settings in force at an index. -/
def DikeChan.setAt (c : DikeChan) (n : Int) : DikeSet :=
  match c.sets.find? fun x => decide (x.1 ≤ n) with
  | some x => x.2
  | none => match c.sets.getLast? with | some x => x.2 | none => { seed := 0 }

/-- Change the settings from index n on. -/
def DikeChan.change (c : DikeChan) (n : Int) (f : DikeSet → DikeSet) : DikeChan :=
  { c with sets := (n, f (c.setAt n)) :: c.sets.filter fun x => decide (x.1 < n) }

/-- A channel new to the graph (R200). -/
def dikeNew (o : Op) (c : Nat) (n : Int) : DikeChan := { la := o.dikeLa, width := o.dikeWidth, dly := o.dikeDly, sets := [(n, { seed := c })] }

/-- Dike channels at a graph replacement at boundary b (R54, R200). -/
def dikeReplaced (og : Option Graph) (old : AMap DikeChan) (g : Graph) (b : Int) : AMap DikeChan :=
  let opOf := fun (h : Graph) (c : Nat) => (h.dikeOp c).map Prod.fst
  g.dikeChans.foldl (fun m x =>
    AMap.put m x.1 (match AMap.find old x.1 with
      | some d => if og.any (fun h => decide (opOf h x.1 = opOf g x.1)) && decide (d.la = x.2.dikeLa) && decide (d.width = x.2.dikeWidth) && decide (d.dly = x.2.dikeDly) then d else dikeNew x.2 x.1 b
      | none => dikeNew x.2 x.1 b)) []

/-- Forget what no index from n on needs. -/
def DikeChan.tidy (c : DikeChan) (n : Int) : DikeChan :=
  let ended := c.fades.filter fun f => decide (f.start + f.len ≤ n - 1)
  { c with trim := c.trim.prune (n - 1), mute := c.mute.prune (n - 1),
           sets := (c.sets.filter fun x => decide (n < x.1)) ++ ((c.sets.filter fun x => decide (x.1 ≤ n)).take 1),
           delay := match ended.getLast? with | some f => f.incoming | none => c.delay,
           fades := c.fades.filter fun f => decide (n - 1 < f.start + f.len) }

/-! ### Output delay (R197, R198) -/

/-- The delay in force at an index, or the one a running delay crossfade moves toward. -/
def DikeChan.delayTarget (c : DikeChan) (n : Int) : Nat :=
  match (c.fades.filter fun f => decide (f.start < n)).getLast? with | some f => f.incoming | none => c.delay

/-- The index at which a delay change due at n takes effect (R198). -/
def DikeChan.delayStart (c : DikeChan) (n : Int) : Int :=
  c.fades.foldl (fun m f => if f.start < m then max m (f.start + f.len) else m) n

/-- OUTPUT_DELAY at index n: the channel, and whether the change was deferred. -/
def DikeChan.setDelay (c : DikeChan) (n : Int) (d : Nat) (w : Word) (dflt : Nat × Curve) : DikeChan × Bool :=
  if c.delayTarget n = d then ({ c with fades := c.fades.filter fun f => decide (f.start ≠ n) }, false)
  else
    let m := c.delayStart n
    ({ c with fades := (c.fades.filter fun f => decide (f.start < m)) ++ [newFade w dflt n m d] }, decide (n < m))

/-- r at index n from the delay line, newest first (R198). -/
def DikeChan.delayed (c : DikeChan) (n : Int) (line : List Int) : Int :=
  c.fades.foldl (fun y f =>
    if n < f.start then y
    else if n < f.start + f.len then fadeMix y (line.getD f.incoming 0) (fadeWeights f.curve f.len (n - f.start).toNat)
    else line.getD f.incoming 0) (line.getD c.delay 0)

/-- D_out of PATH_LATENCY: the target from its index on (R198). -/
def DikeChan.delayNow (c : DikeChan) (n : Int) : Nat :=
  match (c.fades.filter fun f => decide (f.start ≤ n)).getLast? with | some f => f.incoming | none => c.delay

/-! ### Limiter (R193 to R195) -/

/-- r of one windowed sample. -/
def limNeed (ceil a : Int) : Int := if a.natAbs ≤ 2 * ceil then 2 ^ 30 else rhe (ceil * 2 ^ 31) a.natAbs

/-- t and att over the window, newest sample first, i from i0 on. -/
def limScan (ceil gp : Int) (la : Nat) (lim : Bool) : List Int → Nat → Int × Option Int
  | [], _ => (2 ^ 30, none)
  | a :: as, i =>
    let r := limNeed ceil a
    let rest := limScan ceil gp la lim as (i + 1)
    (min r rest.1,
     if lim && decide (r < gp) then
       let v := gp + rhe (r - gp) ((la : Int) - i + 1)
       match rest.2 with | none => some v | some w => some (min v w)
     else rest.2)

/-- The gain g(n) of R193 from a window of La + 1 samples. -/
def limGain (p : DikeSet) (fs la : Nat) (gp : Int) (window : List Int) : Int :=
  let s := limScan p.ceil gp la p.limEn window 0
  match s.2 with
  | some a => a
  | none => min (gp + rhe ((2 ^ 30 - gp) * smoothCoef p.release fs) (2 ^ 30)) (if p.limEn then s.1 else 2 ^ 30)

/-! ### Dither and conversion (R202, R203) -/

/-- d of R202. -/
def ditherOf (seed : Nat) (n : Int) : Int := let z := (noiseWord seed n).toNat; ((z / 2 ^ 32 : Nat) : Int) - ((z % 2 ^ 32 : Nat) : Int)

/-- P(n) before saturation. -/
def pcmOf (v d : Int) (w : Nat) : Int := rhe (v * 2 ^ w + d) (2 ^ 32)

/-! ### One index of a channel (Table 06-1) -/

/-- What an index gives: the fabric output, the memory, and what it counts. -/
structure DikeStep where
  out : Int
  mem : DikeMem
  trimOver : Nat
  clamp : Nat
  clip : Nat
  v : Int

/-- Stages 1 to 7 at index n; stop is the ramp of R201 when one runs. -/
def dikeStep (c : DikeChan) (fs : Nat) (m : DikeMem) (n x : Int) (stop : Option Int) : DikeStep :=
  let p := c.setAt n
  let a0 := rhe (x * c.trim.at_ n) (2 ^ 28)
  let line := (sat40 a0 :: m.line).take (c.la + 1)
  let g := limGain p fs c.la m.g (line ++ List.replicate (c.la + 1 - line.length) 0)
  let y0 := rhe (line.getD c.la 0 * g) (2 ^ 30)
  let y := if p.limEn then clampI (-(2 * p.ceil)) (2 * p.ceil) y0 else y0
  let qv := sat32 y
  let dl := if c.dly then (qv :: m.delay).take 196609 else []
  let r := if c.dly then c.delayed n dl else qv
  let mg := match stop with | some v => v | none => c.mute.at_ n
  let v := rhe (r * mg) (2 ^ 30)
  let d := if p.dithEn && !(p.muteZero && decide (mg = 0)) then ditherOf p.seed n else 0
  let pcm := pcmOf v d c.width
  let clip := b2n (overBits 32 y) + b2n (overBits c.width pcm)
  let vs := (v :: m.vs).take 12
  let tp := (List.range 4).foldl (fun (t : Nat) k =>
    max t (rhe (isum ((peakRow k).zipIdx.map fun h => h.1 * vs.getD h.2 0)) (2 ^ 30)).natAbs) 0
  ⟨satBits c.width pcm * 2 ^ (32 - c.width),
   { m with la := c.la, width := c.width, dly := c.dly, line := line, g := g, delay := dl, vs := vs,
            peak := max m.peak v.natAbs, truePeak := max m.truePeak tp, squares := m.squares + v.natAbs ^ 2, count := m.count + 1,
            minG := min m.minG g.toNat, clips := m.clips + clip, mgain := mg },
   b2n (overBits 40 a0), b2n (decide (y ≠ y0)), clip, v⟩

/-- The meter record of the samples gathered (R205): the true peak as an unsigned Q2.30 word. -/
def DikeMem.record (m : DikeMem) : List Word :=
  [recordWord m.peak, recordWord (rhe m.truePeak 2).toNat, recordWord (rhe m.squares (m.count * 2 ^ 31)).toNat,
   w32 (m.minG / 2 ^ 14 % 65536 + min m.clips 65535 * 65536)]

/-- Accumulators at the start of a period. -/
def DikeMem.clear (m : DikeMem) : DikeMem := { m with peak := 0, truePeak := 0, squares := 0, count := 0, minG := 2 ^ 30, clips := 0 }

/-- Memory of a channel that starts (R37, R200). -/
def dikeMemNew (c : DikeChan) : DikeMem := { la := c.la, width := c.width, dly := c.dly }

end Sys2Proof.Machine
end

