-- ==== Sys2Proof/Machine/Cve.lean ====
section
/-! DEFINITION. The convolution engine: partition plans, coefficient spectra, tier jobs, the output of a channel, and the
charges of admission (R157 to R187). -/
namespace Sys2Proof.Machine

/-! ### Plans (R160, R161) -/

/-- Latency D of a plan (Table 05-1). -/
def planDelay (plan : Nat) : Nat := if plan = 0 then 0 else if plan = 1 then 64 else if plan = 2 then 256 else 1024

/-- log2 B of tier 0, 1, 2. -/
def tierLg (t : Nat) : Nat := if t = 0 then 6 else if t = 1 then 8 else 10

/-- First h' position and most partitions of a tier under a plan; none where the plan has no such tier. -/
def tierShape (plan t : Nat) : Option (Nat × Option Nat) :=
  match plan, t with
  | 0, 0 => some (64, some 7) | 1, 0 => some (64, some 7)
  | 0, 1 => some (512, some 6) | 1, 1 => some (512, some 6) | 2, 1 => some (256, some 7)
  | 0, 2 => some (2048, none) | 1, 2 => some (2048, none) | 2, 2 => some (2048, none) | 3, 2 => some (1024, none)
  | _, _ => none

/-- Start and partitions of tier t for a plan and reservation; 0 partitions where it is absent. -/
def tierParts (plan res t : Nat) : Nat × Nat :=
  match tierShape plan t with
  | none => (0, 0)
  | some (o, m) =>
    let last := planDelay plan + res - 1
    if last < o then (o, 0)
    else let p := (last - o) / 2 ^ tierLg t + 1; (o, match m with | some x => min x p | none => p)

/-- Tiers present: number, start, partitions. -/
def convTiers (plan res : Nat) : List (Nat × Nat × Nat) :=
  ((List.range 3).map fun t => (t, tierParts plan res t)).filter fun x => decide (0 < x.2.2)

/-- Covered length C (R161). -/
def convCovered (plan res : Nat) : Nat :=
  let ends := (convTiers plan res).map fun x => x.2.1 + x.2.2 * 2 ^ tierLg x.1
  let last := ends.foldl max (if plan = 0 then 64 else 0)
  last - planDelay plan

/-- Block phase φ_B (R162). -/
def blockPhase (chan q t : Nat) : Nat := chan * q % 2 ^ tierLg t

/-- The block whose last input is the last sample of the quantum that starts at first, if any. -/
def blockEnding (chan q t : Nat) (first : Int) : Option Int :=
  let e := first + q - blockPhase chan q t
  if e % (2 ^ tierLg t : Nat) = 0 then some (e / (2 ^ tierLg t : Nat) - 1) else none

/-- The block whose output a tier with start o gives at index n. -/
def blockAt (chan q t o : Nat) (n : Int) : Int := fdivI (n - blockPhase chan q t - o) (2 ^ tierLg t : Nat)

/-! ### Coefficient spectra (R164, R165) -/

/-- cos(π r / b) as a sign and an m from 0 to b / 2 with the cosine of π m / b, so that cosines that cancel do so exactly. -/
def foldTurn (b r : Nat) : Int × Nat :=
  let r1 := r % (2 * b)
  let r2 := if b < r1 then 2 * b - r1 else r1
  if 2 * r2 ≤ b then (1, r2) else (-1, b - r2)

/-- The component of H[k] that a term h'[s + i] adds to with the cosine of π r / b: its angle r, in the real part i k, in the imaginary
part i k + b / 2, as −sin θ = cos(θ + π / 2). -/
def coefTurn (b k i : Nat) (im : Bool) : Nat := if im then i * k + b / 2 else i * k

/-- A component of H[k] × 2^31 with p fraction bits: a sum of cosines that a table gives for m from 0 to b / 2. -/
def coefSum (cosines : List Int) (hs : List Int) (b k : Nat) (im : Bool) : Int :=
  isum (hs.zipIdx.map fun h => let f := foldTurn b (coefTurn b k h.2 im); h.1 * f.1 * cosines.getD f.2 0)

/-- The cosines of π m / b for m from 0 to b / 2. -/
def cosTable (p b : Nat) : List Int := (List.range (b / 2 + 1)).map fun m => cosAt p m b

/-- x × 2^(15 − e) for x with p + 31 fraction bits, rounded half to even. -/
def coefScaled (p : Nat) (x e : Int) : Int :=
  if 0 ≤ 15 - e then rhe (x * 2 ^ (15 - e).toNat) (2 ^ (p + 31)) else rhe x (2 ^ (p + 31) * 2 ^ (e - 15).toNat)

/-- A component is rational: it is an integer sum of the cosines of π m / b with m < b / 2, which are independent over the rationals, so
all but the one of m = 0 cancel. Its value in fixed point is then exact. -/
def coefRational (hs : List Int) (b k : Nat) (im : Bool) : Bool :=
  let parts := hs.zipIdx.map fun h => let f := foldTurn b (coefTurn b k h.2 im); (f.2, h.1 * f.1)
  (span 1 (b / 2 - 1)).all fun m => decide (isum ((parts.filter fun x => decide (x.1 = m)).map Prod.snd) = 0)

/-- round(x × 2^(15 − e)) of an exact component (R165): with p fraction bits where the bound on its error leaves one result or the value is
exact, else with twice as many. An irrational component lies further from every tie than the last precision tried can miss. -/
def coefRound (hs : List Int) (b k : Nat) (im : Bool) (e : Int) : Nat → Nat → Int → Int
  | 0, p, x => coefScaled p x e
  | fuel + 1, p, x =>
    let err := 8 * p * nsum (hs.map Int.natAbs)
    if coefScaled p (x - err) e = coefScaled p (x + err) e then coefScaled p x e
    else if coefRational hs b k im then coefScaled p x e
    else coefRound hs b k im e fuel (2 * p) (coefSum (cosTable (2 * p) b) hs b k im)

/-- Fraction bits of the first try. -/
def coefBits : Nat := 192

/-- A component of H[k]: k, whether it is the imaginary one, and its value × 2^31 with 192 fraction bits. -/
abbrev CoefPart := Nat × Bool × Int

/-- Mantissa of a component at exponent e (R165). -/
def coefMantissa (hs : List Int) (b : Nat) (x : CoefPart) (e : Int) : Int := coefRound hs b x.1 x.2.1 e 8 coefBits x.2.2

/-- Every mantissa fits 16 bits at exponent e. -/
def coefFits (hs : List Int) (b : Nat) (xs : List CoefPart) (e : Int) : Bool :=
  xs.all fun x => let m := coefMantissa hs b x e; decide (-32768 ≤ m) && decide (m ≤ 32767)

/-- The smallest exponent from e on that fits, by search. -/
def coefExponent (hs : List Int) (b : Nat) (xs : List CoefPart) : Nat → Int → Int
  | 0, e => e
  | n + 1, e => if coefFits hs b xs e then e else coefExponent hs b xs n (e + 1)

/-- A partition's spectrum: exponent, −128 when empty, and packed mantissas. -/
def coefSpectrum (hs : List Int) (b : Nat) : Int × List (Int × Int) :=
  if hs.all fun h => decide (h = 0) then (-128, List.replicate b (0, 0))
  else
    let cosines := cosTable coefBits b
    let part := fun (k : Nat) (im : Bool) => ((k, im, coefSum cosines hs b k im) : CoefPart)
    let packed := (part 0 false, part b false) :: (span 1 (b - 1)).map fun k => (part k false, part k true)
    let all := packed.map Prod.fst ++ packed.map Prod.snd
    let big := all.foldl (fun m x => max m x.2.2.natAbs) 0
    let e := coefExponent hs b all 5 (max (-127) ((Nat.log2 big : Int) - 224))
    (e, packed.map fun z => (coefMantissa hs b z.1 e, coefMantissa hs b z.2 e))

/-- Position s of h': tap s − D (R160). -/
def shiftedTap (taps : List Int) (d s : Nat) : Int := if s < d then 0 else taps.getD (s - d) 0

/-- The spectra of a filter under a plan and reservation. -/
def compileFilter (plan res : Nat) (taps : List Int) : Filter :=
  { taps := taps
    tiers := (List.range 3).map fun t =>
      let sp := tierParts plan res t
      let b := 2 ^ tierLg t
      (List.range sp.2).map fun p => coefSpectrum ((span (sp.1 + p * b) b).map fun s => shiftedTap taps (planDelay plan) s) b }

/-- Non-empty partitions and their highest exponent, as FILTER_LOAD_END replies. -/
def Filter.report (f : Filter) : Int × Nat :=
  let es := (f.tiers.flatMap fun t => t.map Prod.fst).filter fun e => decide (e ≠ -128)
  (es.foldl max (-128), es.length)

/-! ### Tier jobs (R167) -/

/-- Step 2 for one partition: the packed products. -/
def packedProduct (h x : List (Int × Int)) : List (Int × Int) :=
  match h, x with
  | h0 :: hs, x0 :: xs => (h0.1 * x0.1, h0.2 * x0.2) :: (hs.zip xs).map fun z => cmul z.1 z.2
  | _, _ => []

/-- Steps 2 to 5 of R167 for block b from the tier's history: the B outputs at scale 2^31. -/
def tierOutput (parts : List (Int × List (Int × Int))) (spectra : List (Int × (List (Int × Int) × Int))) (lg : Nat) (b : Int) : List Int :=
  let prods := parts.zipIdx.filterMap fun hp =>
    match spectra.find? fun x => decide (x.1 = b - hp.2) with
    | none => none
    | some x => if hp.1.1 = -128 || x.2.2 = -128 then none else some (packedProduct hp.1.2 x.2.1, hp.1.1 + x.2.2)
  match prods with
  | [] => List.replicate (2 ^ lg) 0
  | p0 :: _ =>
    let emax := prods.foldl (fun m p => max m p.2) p0.2
    let sum := prods.foldl (fun acc p =>
      (acc.zip p.1).map fun z => (z.1.1 + shiftRound z.2.1 (emax - p.2), z.1.2 + shiftRound z.2.2 (emax - p.2))) (List.replicate (2 ^ lg) (0, 0))
    let n := normaliseC sum (emax - 15)
    (realInverse lg n.1 n.2).drop (2 ^ lg)

/-- A tier's output at an index for a filter: 0 before any block, and for a block that was not complete (R186). -/
def tierAt (f : Filter) (tiers : List Tier) (chan q plan res : Nat) (start : Int) (t : Nat) (n : Int) : List Int :=
  let sp := tierParts plan res t
  let b := blockAt chan q t sp.1 n
  let ti := tiers.getD t {}
  let lastIn := (blockPhase chan q t : Int) + (b + 1) * (2 ^ tierLg t : Nat) - 1
  if sp.2 = 0 || decide (lastIn < start) || ti.missed.contains b || !ti.done.contains b then []
  else tierOutput (f.tiers.getD t []) ti.spectra (tierLg t) b

/-- Blocks whose output a quantum needs, whose job is not complete and whose due time is still to come (R186): tier and block. -/
def blocksMissing (tiers : List Tier) (chan q plan res : Nat) (start first : Int) : List (Nat × Int) :=
  (convTiers plan res).filterMap fun x =>
    let b := blockAt chan q x.1 x.2.1 first
    let lastIn := (blockPhase chan q x.1 : Int) + (b + 1) * (2 ^ tierLg x.1 : Nat) - 1
    let ti := tiers.getD x.1 {}
    if decide (start ≤ lastIn) && !ti.done.contains b && !ti.missed.contains b then some (x.1, b) else none

/-! ### The channel (R158, R166, R168, R176) -/

/-- The head's term from a history whose newest sample is x(n) (R168). -/
def headTerm (taps : List Int) (hist : List Int) : Int := rhe (isum ((taps.take 64).zipIdx.map fun h => h.1 * hist.getD h.2 0)) (2 ^ 31)

/-- The unsaturated output of a filter, or of PASS, at sample i of a quantum; parts are the tiers' outputs. -/
def convY (o : Op) (f : Option Filter) (parts : List (List Int)) (offs : List Nat) (hist : List Int) (i : Nat) : Int :=
  match f with
  | none => hist.getD (planDelay o.convPlan) 0
  | some f =>
    (if o.convPlan = 0 then headTerm f.taps hist else 0) + isum ((parts.zip offs).map fun p => p.1.getD (p.2 + i) 0)

/-- Samples of a quantum by the filter in force and the swap (R168, R175, R176): outputs and saturations. -/
def convOut (o : Op) (c : ConvCfg) (q : Nat) (first : Int) (start : Int) (hists : List (List Int)) (tiers : List Tier) : List Int × Nat :=
  let chan := o.convChan
  let parts := fun (f : Option Filter) => match f with
    | none => []
    | some f => (List.range 3).map fun t => tierAt f tiers chan q o.convPlan o.convRes start t first
  let offs := (List.range 3).map fun t =>
    let sp := tierParts o.convPlan o.convRes t
    (first - blockPhase chan q t - sp.1 - blockAt chan q t sp.1 first * (2 ^ tierLg t : Nat)).toNat
  let pOld := parts c.filter
  let pNew := match c.swap with | some w => parts w.filter | none => []
  let ys := hists.zipIdx.map fun h =>
    let n := first + h.2
    let old := convY o c.filter pOld offs h.1 h.2
    match c.swap with
    | none => old
    | some w =>
      if n < w.index then old
      else
        let new := convY o w.filter pNew offs h.1 h.2
        if n < w.index + w.len then fadeMix old new (fadeWeights w.curve w.len (n - w.index).toNat) else new
  (ys.map sat40, ys.countP fun y => overBits 40 y)

/-- The histories of each sample of a quantum, newest first, of at most keep samples. -/
def growHist (keep : Nat) : List Int → List Int → List (List Int)
  | [], _ => []
  | x :: xs, h => let h1 := (x :: h).take keep; h1 :: growHist keep xs h1

/-- Samples of input history that a CONVOLVE keeps. -/
def convKeep : Nat := 2048

/-- Step 1 of R167 for the blocks that end with a quantum. -/
def pushSpectra (o : Op) (q : Nat) (first : Int) (hist : List Int) (tiers : List Tier) : List Tier :=
  (List.range 3).map fun t =>
    let ti := tiers.getD t {}
    if (tierParts o.convPlan o.convRes t).2 = 0 then ti
    else match blockEnding o.convChan q t first with
      | none => ti
      | some b =>
        let n := 2 ^ (tierLg t + 1)
        let xs := ((hist ++ List.replicate (n - hist.length) 0).take n).reverse
        { spectra := ((b, realForward (tierLg t) xs) :: ti.spectra).take 40,
          done := ti.done.take 40, missed := ti.missed.take 40 }

/-! ### Charges (R182 to R185) -/

/-- F_B (Table 05-3). -/
def tierF (t : Nat) : Nat := if t = 0 then 26 else if t = 1 then 32 else 38

/-- Cost of a tier job. -/
def tierJobCost (t parts : Nat) : Nat := 2 ^ tierLg t * (tierF t + 4 * parts)

/-- Cost per output sample of a CONVOLVE (R182). -/
def convCost (plan res : Nat) : Nat :=
  (if plan = 0 then 64 else 0) + nsum ((convTiers plan res).map fun x => tierF x.1 + 4 * x.2.2)

/-- Charge of quantum k of the cycle (R183). -/
def cveQuantumCharge (ops : List Op) (q : Nat) (k : Nat) : Nat :=
  nsum (ops.map fun o =>
    (if o.convPlan = 0 then q * 64 else 0) +
    nsum ((convTiers o.convPlan o.convRes).map fun x =>
      if (blockEnding o.convChan q x.1 ((k * q : Nat) : Int)).isSome then tierJobCost x.1 x.2.2 else 0)) +
  64 * q * (ops.foldl (fun m o => max m (convCost o.convPlan o.convRes)) 0)

/-- Largest charge over the cycle of 1,024 / Q quanta. -/
def cveCharge (ops : List Op) (q : Nat) : Nat :=
  if ops.isEmpty then 0 else (List.range (1024 / q)).foldl (fun m k => max m (cveQuantumCharge ops q k)) 0

/-- Most tier jobs released in one quantum, for scheduler dispatch (R244). -/
def tierReleases (ops : List Op) (q k : Nat) : Nat :=
  nsum (ops.map fun o => (convTiers o.convPlan o.convRes).countP fun x => (blockEnding o.convChan q x.1 ((k * q : Nat) : Int)).isSome)

/-- DRAM octets per T1024 block that the tail partitions cost at the high rates (R185). -/
def convTailOctets (o : Op) : Nat :=
  let sp := tierParts o.convPlan o.convRes 2
  let tail := (List.range sp.2).countP fun p => decide (8192 ≤ sp.1 + p * 1024)
  if tail = 0 then 0 else tail * 12288 + 8192

end Sys2Proof.Machine
end

