-- ==== Sys2Proof/Machine/Graph.lean ====
section
/-! DEFINITION. The graph: what an operation may look like, the structure checks of admission, resources and loads, ranks
and placement (R42 to R54, R83, R126, R127, R157, R188, R189, R221, R231, R232, R237, R242, R244, R281, R282, R337, R365). -/
namespace Sys2Proof.Machine

/-! ### Kinds, ports and kind parameters -/

/-- The 41 kinds of Table 02-3 (R50). -/
def kindKnown (k : Nat) : Bool :=
  isReceiver k || isTransmitter k || (decide (0x10 ≤ k) && decide (k ≤ 0x13)) || decide (k = 0x18) || decide (k = 0x19) ||
  decide (k = 0x20) || decide (k = 0x28) || isReed k

/-- Kind parameter words of an operation. -/
def Op.paramCount (o : Op) : Nat :=
  if isReceiver o.kind || isTransmitter o.kind then 1
  else match o.kind with
    | 0x10 => 3 | 0x11 => 4 | 0x12 => 1 | 0x13 => 0 | 0x18 => 1 | 0x19 => 1 | 0x20 => 2 | 0x28 => 2
    | _ => reedParamCount o

/-- SAP port, first slot and slot count of a SAP operation (R281). -/
def Op.sapPort (o : Op) : Nat := fld (o.w 6) 5 0
def Op.sapFirst (o : Op) : Nat := fld (o.w 6) 12 8
def Op.sapCount (o : Op) : Nat := fld (o.w 6) 21 16
/-- Stream number (R337). -/
def Op.stream (o : Op) : Nat := fld (o.w 6) 7 0
/-- First Zenel channel and count (R365). -/
def Op.zenFirst (o : Op) : Nat := fld (o.w 6) 11 0
def Op.zenCount (o : Op) : Nat := fld (o.w 6) 24 16
/-- First tap channel and count. -/
def Op.tapFirst (o : Op) : Nat := fld (o.w 6) 7 0
def Op.tapCount (o : Op) : Nat := fld (o.w 6) 16 8

/-- The ports of a receiver (outputs) or transmitter (inputs); true when the other side has any. -/
def portSide (o : Op) : Nat × Bool := if isReceiver o.kind then (o.nout, decide (o.nin ≠ 0)) else (o.nin, decide (o.nout ≠ 0))

/-- Port counts or kind parameters of a port operation that its chapter does not allow. -/
def portOpBad (o : Op) (high : Bool) : Bool :=
  let s := portSide o
  let w := o.w 6
  s.2 ||
  (if decide (o.kind = 0x01) || decide (o.kind = 0x08) then
    reservedSet w (mask 5 0 + mask 12 8 + mask 21 16) || decide (47 < o.sapPort) || decide (o.sapCount < 1) || decide (32 < o.sapCount) ||
      decide (s.1 ≠ o.sapCount)
  else if decide (o.kind = 0x02) || decide (o.kind = 0x09) then reservedSet w (mask 7 0) || decide (s.1 < 1) || decide (64 < s.1)
  else if decide (o.kind = 0x03) || decide (o.kind = 0x0A) then
    reservedSet w (mask 11 0 + mask 24 16) || decide (o.zenCount < 1) || decide (256 < o.zenCount) ||
      decide ((if high then 2048 else 4096) < o.zenFirst + o.zenCount) || decide (s.1 ≠ o.zenCount)
  else
    reservedSet w (mask 7 0 + mask 16 8) || decide (o.tapCount < 1) || decide (256 < o.tapCount) ||
      decide ((if high then 128 else 256) < o.tapFirst + o.tapCount) || decide (s.1 ≠ o.tapCount))

/-- Port counts or kind parameters out of range, for a known kind with the right number of words (R51). -/
def opBad (o : Op) (high : Bool) (q : Nat) : Bool :=
  if isReceiver o.kind || isTransmitter o.kind then portOpBad o high
  else match o.kind with
    | 0x10 => decide (128 < o.nin) || decide (128 < o.nout) || (decide (o.nin = 0) && decide (o.nout = 0)) ||
        reservedSet (o.w 6) (mask 2 0) || reservedSet (o.w 7) (mask 12 0) || reservedSet (o.w 8) (mask 12 0)
    | 0x11 => decide (o.nin ≠ 0) || decide (o.nout ≠ 0) || reservedSet (o.w 6) (mask 2 0) || reservedSet (o.w 7) (mask 10 0 + mask 27 16) ||
        reservedSet (o.w 8) (mask 12 0) || reservedSet (o.w 9) (mask 18 0) || decide (o.busCount < 1) || decide (2048 < o.busCount) ||
        decide (o.reservation < 1) || decide (262144 < o.reservation)
    | 0x12 => decide (o.nin < 1) || decide (128 < o.nin) || decide (o.nin ≠ o.nout)
    | 0x13 => decide (o.nin < 1) || decide (64 < o.nin) || decide (o.nout < 1) || decide (64 < o.nout)
    | 0x18 => decide (o.nin ≠ 1) || decide (o.nout ≠ 0) || reservedSet (o.w 6) (mask 8 0)
    | 0x19 => decide (o.nin ≠ 0) || decide (o.nout ≠ 1) || reservedSet (o.w 6) (mask 9 0)
    | 0x20 => decide (o.nin ≠ 1) || decide (o.nout ≠ 1) || reservedSet (o.w 6) (mask 9 0 + mask 17 16) || reservedSet (o.w 7) (mask 14 0) ||
        (high && decide (511 < o.convChan)) || decide (o.convRes < 1) || decide (16384 < o.convRes)
    | 0x28 => decide (o.nin < 1) || decide (64 < o.nin) || decide (o.nin ≠ o.nout) || reservedSet (o.w 6) (mask 10 0 + mask 22 16) ||
        decide (o.dikeCount ≠ o.nin) || reservedSet (o.w 7) (mask 1 0 + mask 5 4 + mask 8 8) || decide (fld (o.w 7) 1 0 = 3) ||
        decide (fld (o.w 7) 5 4 = 3)
    | _ => reedPortsBad o || reedParamsBad o q

/-- The port counts of GRAPH_ADD_OP: an 8-bit count of 0 stands for the 256 ports that ZEN and TAP kinds may have. -/
def portCounts (kind nout nin : Nat) (w6 : Word) : Nat × Nat :=
  let n := if decide (kind = 0x03) || decide (kind = 0x0A) then fld w6 24 16 else if decide (kind = 0x04) || decide (kind = 0x0B) then fld w6 16 8 else 0
  if decide (n = 256) && isReceiver kind && decide (nout = 0) then (256, nin)
  else if decide (n = 256) && isTransmitter kind && decide (nin = 0) then (nout, 256)
  else (nout, nin)

/-- The operation that GRAPH_ADD_OP spells (Table 02-4). -/
def addedOp (p : Packet) : Op :=
  let n := portCounts (fld (p.w 4) 7 0) (fld (p.w 5) 15 8) (fld (p.w 5) 7 0) (p.w 6)
  { kind := fld (p.w 4) 7 0, nout := n.1, nin := n.2, params := p.params.drop 2 }

/-! ### Dependencies (R128, R234) and cycles (R47) -/

/-- Node of a Sluice pass; operations are their own nodes. -/
def passNode (p : Nat) : Nat := 16384 + p

/-- The node in which an operation's work is done: ROUTE_BLOCK and MIX_BUS in the pass of their stage. -/
def Graph.node (g : Graph) (i : Nat) : Nat :=
  match g.op i with
  | some o => if decide (o.kind = 0x10) || decide (o.kind = 0x11) then passNode o.stage else i
  | none => i

/-- Stages in use, rising. -/
def Graph.stages (g : Graph) : List Nat :=
  (List.range 8).filter fun p => g.ops.any fun x => (decide (x.2.kind = 0x10) || decide (x.2.kind = 0x11)) && decide (x.2.stage = p)

/-- The operations of a stage. -/
def Graph.stageOps (g : Graph) (p : Nat) : List (Nat × Op) :=
  g.ops.filter fun x => (decide (x.2.kind = 0x10) || decide (x.2.kind = 0x11)) && decide (x.2.stage = p)

/-- The nodes of a graph: operations, then passes. -/
def Graph.nodes (g : Graph) : List Nat :=
  ((g.ops.filter fun x => !(decide (x.2.kind = 0x10) || decide (x.2.kind = 0x11))).map Prod.fst) ++ g.stages.map passNode

/-- Sources of the delay-0 edges into an operation, as nodes. -/
def Graph.feeders (g : Graph) (i : Nat) : List Nat := (((g.edgesInto i).filter Edge.direct).map fun e => g.node e.src).eraseDups

/-- What a node waits for in its quantum (R128, R234). -/
def Graph.deps (g : Graph) (x : Nat) : List Nat :=
  if 16384 ≤ x then
    let p := x - 16384
    ((g.stages.filter fun q => decide (q < p)).map passNode) ++ ((g.stageOps p).flatMap fun o => g.feeders o.1).eraseDups
  else
    g.feeders x ++ (if (g.op x).any fun o => decide (o.kind = 0x19) then (g.ofKind 0x18).map Prod.fst else [])

/-- Nodes in an order in which each stands after its dependencies; none when a cycle remains. -/
def topoOrder (deps : Nat → List Nat) : Nat → List Nat → List Nat → Option (List Nat)
  | _, [], done => some done
  | 0, _ :: _, _ => none
  | n + 1, x :: xs, done =>
    let now := (x :: xs).filter fun y => (deps y).all done.contains
    if now.isEmpty then none else topoOrder deps n ((x :: xs).filter fun y => !now.contains y) (done ++ now)

/-- The order of a graph. -/
def Graph.order (g : Graph) : Option (List Nat) := topoOrder g.deps g.nodes.length g.nodes []

/-! ### Structure checks (R44 steps 1 to 7) -/

/-- The lowest number that stands twice. -/
def lowestDup (ns : List Nat) : Option Nat :=
  (ns.filter fun n => decide (1 < ns.count n)).foldl (fun b n => match b with | none => some n | some m => some (min m n)) none

/-- The least element. -/
def leastOf : List Nat → Option Nat
  | [] => none
  | x :: xs => some (xs.foldl min x)

/-- Numbers bound in each space of the Sluice: sources, sinks, buses. -/
def Graph.sourceNums (g : Graph) : List Nat := g.ops.flatMap fun x => span x.2.firstSource x.2.sourceCount
def Graph.sinkNums (g : Graph) : List Nat := (g.ofKind 0x10).flatMap fun x => span x.2.firstSink x.2.nout
def Graph.busNums (g : Graph) : List Nat := (g.ofKind 0x11).flatMap fun x => span x.2.firstBus x.2.busCount
def Graph.dikeNums (g : Graph) : List Nat := g.dikeChans.map Prod.fst

/-- Whether a SAP operation agrees with its group's configuration (R282). -/
def Sap.opOk (sap : Sap) (o : Op) : Bool :=
  match AMap.find sap.groups (o.sapPort / 4) with
  | none => false
  | some g =>
    decide (fld g.cfg0 5 0 ≠ 0) && decide (bitOf g.cfg1 (4 + o.sapPort % 4) = decide (o.kind = 0x08)) &&
    decide (o.sapFirst + o.sapCount ≤ fld g.cfg0 5 0)

/-- SAP operations. -/
def Graph.sapOps (g : Graph) : List (Nat × Op) := g.ofKind 0x01 ++ g.ofKind 0x08

/-- Slots that SAP operations name, as port × 32 + slot. -/
def Graph.sapSlots (g : Graph) : List Nat := g.sapOps.flatMap fun x => span (x.2.sapPort * 32 + x.2.sapFirst) x.2.sapCount

/-- R282 for a graph. -/
def Graph.sapDeny (g : Graph) (sap : Sap) : Option Deny :=
  firstDeny [denyIf (g.sapOps.any fun x => !sap.opOk x.2) (badParam 0xFFFA), denyIf (hasDup g.sapSlots) (badParam 0xFFF9)]

/-- Steps 1 to 7 of R44. -/
def Graph.structureDeny (g : Graph) (s : State) : Option Deny :=
  let chans := if s.highRate then 1024 else 2048
  firstDeny [
    denyIf (g.edges.any fun e => decide (e.delay ≠ 0) && decide (e.delay < s.q)) fieldDeny,
    denyIf (g.sourceNums.any (fun n => decide (8191 < n)) || g.sinkNums.any (fun n => decide (8191 < n)) || g.busNums.any fun n => decide (2047 < n))
      (badParam 0xFFFE),
    (leastOf (((g.ofKind 0x28).filter fun x => decide (chans < x.2.dikeFirst + x.2.dikeCount)).map fun x => x.2.dikeFirst)).map badParam,
    (lowestDup g.sourceNums).map badParam, (lowestDup g.sinkNums).map badParam, (lowestDup g.busNums).map badParam,
    denyIf (hasDup ((g.ofKind 0x18).map fun x => x.2.objNo) || hasDup ((g.ofKind 0x19).map fun x => x.2.feedNo)) (badParam 0xFFF9),
    denyIf (hasDup ((g.ofKind 0x20).map fun x => x.2.convChan)) (badParam 0xFFF9),
    (lowestDup g.dikeNums).map badParam,
    denyIf (g.edges.any fun e => (g.op e.src).any (fun o => decide (o.kind = 0x28)) && !((g.op e.dst).any fun o => isTransmitter o.kind)) (badParam 0xFFFB),
    g.sapDeny s.sap,
    denyIf (hasDup ((g.ofKind 0x02).map fun x => x.2.stream) || hasDup ((g.ofKind 0x09).map fun x => x.2.stream)) (badParam 0xFFF9),
    denyIf (hasDup ((g.ofKind 0x03).flatMap fun x => span x.2.zenFirst x.2.zenCount) ||
      hasDup ((g.ofKind 0x0A).flatMap fun x => span x.2.zenFirst x.2.zenCount)) (badParam 0xFFF9),
    denyIf (g.order = none) (badParam 0xFFF4)]

/-! ### Resources (Table 02-2, R42, R43) -/

/-- Capacity of a count resource at a rate and Q (R43). -/
def capacity (code : Nat) (high : Bool) (q : Nat) : Nat :=
  let full := [512, 16384, 1024, 8192, 8192, 2048, 262144, 4194304, 1024, 4096, 1024, 2048].getD (code - 1) 0
  let base := if high then full / 2 else full
  if code = 0x0D then (if q = 1 then 4096 else if q = 2 then 8192 else 16384)
  else if code = 0x0E then (if q = 1 then 16384 else if q = 2 then 32768 else 65536)
  else if code = 0x0F then 12 * 2 ^ 20
  else if code = 0x10 then 8192
  else if decide (4 ≤ q) then base
  else if decide (code = 1) || decide (code = 2) || decide (code = 7) || decide (code = 8) then (if q = 1 then base / 2 else base * 3 / 4)
  else if decide (code = 0x0A) || decide (code = 0x0B) then (if q = 1 then base / 4 else base / 2)
  else base

/-- S of R332's jitter buffer: the smallest power of two not less than L + 2P. -/
def jitterSize (l p : Nat) : Nat := 2 ^ (if l + 2 * p ≤ 1 then 0 else Nat.log2 (l + 2 * p - 1) + 1)

/-- Octets of the jitter buffers of the receive streams. -/
def Net.jitterOctets (n : Net) : Nat := nsum (n.rx.vals.map fun r => jitterSize r.l r.p * 4 * r.chans)

/-- Octets of graph buffer memory that an operation takes (R46, R232). -/
def Op.bufferOctets (o : Op) (q : Nat) : Nat :=
  16 * q * o.nout + (if isReceiver o.kind then 16 * q * o.nout else if isTransmitter o.kind then 12 * q * o.nin else 0) +
  (if isReed o.kind then reedStateBytes o q else 0)

/-- Delay-list entries of an operation (R242). -/
def Op.delayEntries (o : Op) (q : Nat) : Nat :=
  if o.kind = 0x20 then (convTiers o.convPlan o.convRes).length
  else if o.kind = 0x44 then b2n (decide (q < 2 ^ fld (o.w 6) 3 0))
  else if o.kind = 0x43 then 1 else 0

/-- Need for each count resource, codes 0x01 to 0x10; fmax gives each object's footprint limit. -/
def Graph.counts (g : Graph) (s : State) (fmax : Nat → Nat) : List Nat :=
  let sumOf := fun (f : Op → Nat) => nsum (g.ops.map fun x => f x.2)
  let only := fun (k : Nat) (f : Op → Nat) => nsum ((g.ofKind k).map fun x => f x.2)
  [only 0x18 fun _ => 1, only 0x18 fun o => fmax o.objNo, only 0x19 fun _ => 1, sumOf Op.sourceCount, only 0x10 fun o => o.nout,
   only 0x11 Op.busCount, only 0x11 Op.reservation + only 0x13 (fun o => o.nin * o.nout),
   only 0x20 fun o => convCovered o.convPlan o.convRes, only 0x20 fun _ => 1,
   sumOf reedSections, sumOf reedDynCount, only 0x28 Op.dikeCount, g.ops.length, g.edges.length,
   (sumOf fun o => o.bufferOctets s.q) + (nsum (g.edges.map fun e => if e.delay = 0 then 0 else 8 * (e.delay + s.q))) + s.net.jitterOctets,
   sumOf fun o => o.delayEntries s.q]

/-- Powered Reed clusters (R27). -/
def State.reedClusters (s : State) : List Nat := (List.range 6).filter fun n => s.pd.testBit (5 + n)

/-- Placement of Reed operations in ascending id: the cluster with the lowest charge, the lowest index winning ties (R231). -/
def placeReed (q : Nat) (clusters : List Nat) : List (Nat × Op) → AMap Nat → AMap Nat → AMap Nat × AMap Nat
  | [], charge, place => (charge, place)
  | (i, o) :: rest, charge, place =>
    let best := clusters.foldl (fun (b : Option Nat) c =>
      match b with | none => some c | some d => if AMap.getD charge c 0 < AMap.getD charge d 0 then some c else some d) none
    match best with
    | none => placeReed q clusters rest charge place
    | some c => placeReed q clusters rest (AMap.put charge c (AMap.getD charge c 0 + reedCycles o q)) (AMap.put place i c)

/-- Reed operations by rising id. -/
def Graph.reedOps (g : Graph) : List (Nat × Op) := g.ops.filter fun x => isReed x.2.kind

/-- Sluice units per sample of an operation (R131). -/
def Op.sluiceUnits (o : Op) : Nat :=
  match o.kind with | 0x10 => 3 * o.nout | 0x11 => o.reservation + o.busCount | 0x12 => o.nin | 0x13 => o.nin * o.nout | _ => 0

/-- Peak rate of an operating point in octets per second (Table 17-3). -/
def dramPeak (op : Nat) : Nat := if op = 0 then 51200000000 else if op = 1 then 25600000000 else 12800000000

/-- DRAM octets per second that a graph needs (R185, R190). -/
def Graph.dramRate (g : Graph) (s : State) : Rat :=
  (nsum ((g.ofKind 0x28).map fun x => if x.2.dikeDly then 12 * x.2.dikeCount * s.fs else 0) : Rat) +
  (if s.highRate then ((nsum ((g.ofKind 0x20).map fun x => convTailOctets x.2) * s.fs : Nat) : Rat) / 1024 else 0)

/-- Samples from one job of a SPECTRUM or METER_LOUDNESS operation to the next: B or K_b (R228, R229). -/
def Op.jobLen (o : Op) : Nat := if o.kind = 0x44 then 2 ^ fld (o.w 6) 3 0 else fld (o.w 6) 16 0

/-- The SPECTRUM and METER_LOUDNESS operations with a delay-list entry (R242). -/
def Graph.reedJobs (g : Graph) (q : Nat) : List (Nat × Op) := ((g.ofKind 0x43) ++ g.ofKind 0x44).filter fun x => decide (0 < x.2.delayEntries q)

/-- A multiple of a step lies above a and not above b. -/
def multipleIn (step : Nat) (a b : Int) : Bool := decide (fdivI a step < fdivI b step)

/-- Delay-list releases due in quantum k: the tier jobs whose block ends in it, and the SPECTRUM and METER_LOUDNESS jobs likewise
(R163, R243, R244). -/
def Graph.releases (g : Graph) (q : Nat) (k : Int) : Nat :=
  tierReleases ((g.ofKind 0x20).map Prod.snd) q (k % ((1024 / q : Nat) : Int)).toNat +
  ((g.reedJobs q).filter fun x => multipleIn x.2.jobLen (k * q) ((k + 1) * q)).length

/-- The most releases of one quantum at a place of the cycle of 1,024 / Q quanta. A K_b that does not divide 1,024 has no place in it: its
job is counted at every place at which it can fall (DEDUCED, log entry 68). -/
def Graph.releasesAt (g : Graph) (q k : Nat) : Nat :=
  tierReleases ((g.ofKind 0x20).map Prod.snd) q k +
  ((g.reedJobs q).filter fun x => multipleIn (Nat.gcd x.2.jobLen 1024) ((k * q : Nat) : Int) (((k + 1) * q : Nat) : Int)).length

/-- Load of each time resource, codes 0x11 to 0x17 (R84, R131, R183, R190, R232, R244). -/
def Graph.times (g : Graph) (s : State) (fmax : Nat → Nat) : List Rat :=
  let fs : Rat := (s.fs : Rat)
  let q : Rat := (s.q : Rat)
  let giga : Rat := 10 ^ 9
  let taps := nsum ((g.ofKind 0x18).map fun x => fmax x.2.objNo)
  let place := placeReed s.q s.reedClusters g.reedOps [] []
  let cluster : Nat := (AMap.vals place.1).foldl max 0
  let single : Nat := (g.reedOps.map fun x => reedCycles x.2 s.q).foldl max 0
  let convs := (g.ofKind 0x20).map Prod.snd
  let rel : Nat := ((List.range (1024 / s.q)).map fun k => g.releasesAt s.q k).foldl max 0
  [(taps : Rat) * 18 * fs / (32 * giga),
   (cveCharge convs s.q : Rat) * fs / (q * giga * 16),
   (nsum (g.ops.map fun x => x.2.sluiceUnits) : Rat) * fs / (16 * giga),
   max ((cluster : Rat) * fs / (8 * q * giga)) ((single : Rat) * fs / (q * giga)),
   (nsum ((g.ofKind 0x28).map fun x => x.2.dikeCount * (66 + 2 * x.2.dikeLa)) : Rat) * fs / (32 * giga),
   g.dramRate s / (dramPeak s.dram.op : Rat),
   ((4 * g.ops.length + g.edges.length + 2 * rel : Nat) : Rat) * fs / (q * giga)]

/-- A rational in per mille, half to even. -/
def perMille (r : Rat) : Nat := (rhe (r.num * 1000) r.den).toNat

/-- Load of every resource in per mille, codes 0x01 to 0x17 (R567). -/
def Graph.loads (g : Graph) (s : State) (fmax : Nat → Nat) : List Nat :=
  ((g.counts s fmax).zipIdx.map fun x => (rhe (x.1 * 1000) (capacity (x.2 + 1) s.highRate s.q)).toNat) ++ (g.times s fmax).map perMille

/-- The highest load and its lowest code (Table 02-4). -/
def highestLoad (ls : List Nat) : Nat × Nat :=
  ls.zipIdx.foldl (fun (b : Nat × Nat) x => if b.1 < x.1 then (x.1, x.2 + 1) else b) (ls.getD 0 0, 1)

/-- Mirror channels of a graph: output ports of its SAP_RX, NET_RX, ZEN_DROP and TAP_RX operations (R387). -/
def Graph.mirrorChans (g : Graph) : Nat := nsum ((g.ops.filter fun x => isReceiver x.2.kind).map fun x => x.2.nout)

/-- A resource of Table 02-2 lies in a gated domain and is absent (R27): convolution taps in PD_POLA, graph buffer memory in PD_POLB, the
Reed clusters, DRAM bandwidth. A domain whose switch-off RPC_PDREQ asked for, and that is still on, counts as present (DESIGN CHOICE, log
entry 64). -/
def State.absent (s : State) (code : Nat) : Bool :=
  (decide (code = 0x08) && !s.pd.testBit 3) || (decide (code = 0x0F) && !s.pd.testBit 4) || (decide (code = 0x14) && s.reedClusters.isEmpty) ||
  (decide (code = 0x16) && !s.pd.testBit 14)

/-- Port operations whose domain is gated (R27). No resource code names one: the detail 0 and the place of the refusal, after the
mirror-channel limit, are the model's, and so is that a domain whose switch-off RPC_PDREQ asked for counts as present while it is still on
(DESIGN CHOICE, log entry 64). -/
def Graph.gatedDeny (g : Graph) (s : State) : Option Deny :=
  let has := fun (ks : List Nat) => g.ops.any fun x => ks.contains x.2.kind
  let off := fun (d : Nat) => !s.pd.testBit d
  denyIf ((has [0x01, 0x08] && off 11) || (has [0x02, 0x09] && off 12) || (has [0x03, 0x0A] && off 13) || (has [0x04, 0x0B] && off 15)) ⟨.noResource, 0⟩

/-- Steps 8 and 9 of R44: count resources in ascending code, the mirror-channel limit, gated ports, time resources in ascending code. A
resource that is absent and needed is refused with NO_RESOURCE in its place; R44 names none for the refusal of a gated port (R27; DESIGN
CHOICE, log entry 64). -/
def Graph.resourceDeny (g : Graph) (s : State) (fmax : Nat → Nat) : Option Deny :=
  let counts := (g.counts s fmax).zipIdx.map fun x =>
    denyIf (decide (capacity (x.2 + 1) s.highRate s.q < x.1) || (s.absent (x.2 + 1) && decide (0 < x.1))) (⟨.noResource, x.2 + 1⟩ : Deny)
  let times := (g.times s fmax).zipIdx.map fun x =>
    let code := 0x11 + x.2
    if s.absent code && decide (0 < x.1) then some (⟨.noResource, code⟩ : Deny) else denyIf (decide ((9 : Rat) / 10 < x.1)) (⟨.overBudget, code⟩ : Deny)
  firstDeny (counts ++ [denyIf (s.twin.enabled && decide ((if s.highRate then 4096 else 8192) < g.mirrorChans)) ⟨.noResource, 0x40⟩, g.gatedDeny s] ++ times)

/-! ### Ranks (R237) -/

/-- Worst-case duration of an operation in 1/32 cycles of CLK_CORE. -/
def Op.duration (o : Op) (q : Nat) (fmax : Nat → Nat) : Nat :=
  if isReed o.kind then 32 * reedCycles o q
  else match o.kind with
    | 0x18 => 18 * fmax o.objNo * q
    | 0x20 => if o.convPlan = 0 then 2 * q * 64 else 0
    | 0x28 => o.dikeCount * (66 + 2 * o.dikeLa) * q
    | _ => 2 * o.sluiceUnits * q

/-- Duration of a node: an operation's, or the longest in a pass. -/
def Graph.nodeDuration (g : Graph) (q : Nat) (fmax : Nat → Nat) (x : Nat) : Nat :=
  if 16384 ≤ x then ((g.stageOps (x - 16384)).map fun o => o.2.duration q fmax).foldl max 0
  else match g.op x with | some o => o.duration q fmax | none => 0

/-- The longest sum from each node to a transmit operation; none where no chain reaches one. -/
def Graph.chains (g : Graph) (q : Nat) (fmax : Nat → Nat) (order : List Nat) : AMap (Option Nat) :=
  order.reverse.foldl (fun (m : AMap (Option Nat)) x =>
    let next := (g.nodes.filter fun y => (g.deps y).contains x).filterMap fun y => AMap.getD m y none
    let isTx := (g.op x).any fun o => isTransmitter o.kind
    let own := g.nodeDuration q fmax x
    let v := match next with
      | [] => if isTx then some own else none
      | n :: ns => some (own + ns.foldl max n)
    AMap.put m x v) []

/-- Rank: sixteenths, rounded up, saturated; 0 where no chain reaches a transmit operation. -/
def rankOf (v : Option Nat) : Nat := match v with | none => 0 | some n => min 65535 (cdivN n 512)

/-- An admitted graph. -/
def Graph.admitted (g : Graph) (s : State) (fmax : Nat → Nat) : Admitted :=
  { graph := g, ranks := AMap.mapVal (g.chains s.q fmax (g.order.getD [])) rankOf,
    clusters := (placeReed s.q s.reedClusters g.reedOps [] []).2,
    delayEntries := nsum (g.ops.map fun x => x.2.delayEntries s.q), loads := g.loads s fmax }

/-- Operations taken under another rate or Q whose kind parameters are out of range now (R40, R157, R221, R365). R44 gives this check no
step: the model makes it after all nine (DESIGN CHOICE, log entry 64). -/
def Graph.rangeDeny (g : Graph) (s : State) : Option Deny := denyIf (g.ops.any fun x => opBad x.2 s.highRate s.q) fieldDeny

/-- Admission of a graph (R44). -/
def Graph.admission (g : Graph) (s : State) (fmax : Nat → Nat) : Except Deny Admitted :=
  match firstDeny [g.structureDeny s, g.resourceDeny s fmax, g.rangeDeny s] with
  | some d => .error d
  | none => .ok (g.admitted s fmax)

end Sys2Proof.Machine
end

