-- ==== Sys2Proof/Machine/Protocol.lean ====
section
/-! DEFINITION. The Damuri interpreter: channels, tag histories, replies, notifications, the checks of Table 14-7, and the
one shape in which every command of the catalogue is taken (R405 to R433, R57 to R70, R391 to R394). -/
namespace Sys2Proof.Machine

/-! ### Channels -/

/-- Command channel n; 16 + n keeps the histories of channel 15 for origin channel n (R423). -/
def State.chan (s : State) (n : Nat) : Channel := AMap.getD s.chans n {}

/-- Replace a channel. -/
def State.setChan (s : State) (n : Nat) (c : Channel) : State := { s with chans := AMap.put s.chans n c }

/-- Change a channel. -/
def State.updChan (s : State) (n : Nat) (f : Channel → Channel) : State := s.setChan n (f (s.chan n))

/-- Ring size K of a PCIe channel: 2^LOG2K, LOG2K held from 2 to 10 (Table 16-6). -/
def State.ringK (s : State) (n : Nat) : Nat := 2 ^ (min 10 (max 2 (s.regFld (rCmdCfg + 32 * n) 7 4)))

/-- The transport of channel n can take one more reply: ring room (R410), the SPI store of 8 (R412); the others always. -/
def State.replyRoom (s : State) (n : Nat) : Bool :=
  if n < 8 then decide (((s.chan n).rprod - (s.chan n).rcons).toNat < s.ringK n)
  else if n = 8 then decide ((s.chan 8).out.length < 8) else true

/-- A reply goes into its ring: the entry at the producer index, the status block with the head and the index after the entry, then that
index (R410, and the example of 14_command_protocol.md). -/
def Channel.produce (c : Channel) (r : Reply) : Channel :=
  { c with out := c.out ++ [r], status := (c.chead, c.rprod + 1), rprod := c.rprod + 1 }

/-- Give a reply or notification to the channel's transport (R410, R414, R417). -/
def State.emit (s : State) (n : Nat) (r : Reply) : State :=
  s.updChan n fun c => if n < 8 then c.produce r else { c with out := c.out ++ [r] }

/-- Send held notifications while the transport has room; LOSS goes with the first after a discard (R408). -/
def State.flushNotes (s : State) (n : Nat) : Nat → State
  | 0 => s
  | k + 1 =>
    match (s.chan n).notes with
    | [] => s
    | r :: rest =>
      if s.replyRoom n then
        let lossy := (s.chan n).loss
        State.flushNotes ((s.updChan n fun c => { c with notes := rest, loss := false }).emit n { r with loss := r.loss || lossy }) n k
      else s

/-- Hold a notification, discarding the oldest of a full store (R408), and send what can be sent. -/
def State.notify (s : State) (n : Nat) (r : Reply) : State :=
  let full := decide (256 ≤ (s.chan n).notes.length)
  let s1 := s.updChan n fun c => { c with notes := (if full then c.notes.drop 1 else c.notes) ++ [r], loss := c.loss || full }
  let s2 := if full then (s1.count 0x16 (n * 16 + 12)).logOnce evNotifyLost n else s1.endRun evNotifyLost n
  s2.flushNotes n 256

/-! ### Violations (R433) -/

/-- The channel number under which a channel's events and counters stand: the histories of channel 15 are one channel (R60, R423, R433). -/
def shownChannel (ch : Nat) : Nat := if 16 ≤ ch then 15 else ch

/-- Count a violation of kind k (a row of Table 14-8) and log it once per run of its kind; the runs of the other kinds end. -/
def State.violation (s : State) (ch k : Nat) (tag : BitVec 16) : State :=
  let ch := shownChannel ch
  let s1 := { s with runs := s.runs.filter fun r => !(decide (r.1 = evCmdViolation) && decide (r.2 / 16 = ch) && decide (r.2 % 16 ≠ k)) }
  (s1.count 0x16 (ch * 16 + k)).logOnce evCmdViolation (ch * 16 + k) [ch, tag.toNat]

/-- A packet is discarded without a reply: a violation of kind k, and one more of the packets so dropped (R413, R417, Table 15-10). -/
def State.dropPacket (s : State) (ch k : Nat) (tag : BitVec 16) : State := (s.violation ch k tag).count 0x16 (shownChannel ch * 16 + 13)

/-- A packet without a violation ends every run of the channel. -/
def State.noViolation (s : State) (ch : Nat) : State :=
  { s with runs := s.runs.filter fun r => !(decide (r.1 = evCmdViolation) && decide (r.2 / 16 = shownChannel ch)) }

/-! ### Tags (R425) -/

/-- Where a tag falls (R425). -/
inductive TagPlace where
  | new | duplicate (e : HistEntry) | conflict | stale
  deriving DecidableEq, Repr

/-- The history's entry of a tag. -/
def Channel.entry (c : Channel) (tag : BitVec 16) : Option HistEntry := c.hist.find? fun e => decide (e.tag = tag)

/-- Placement of a packet by d = (TAG − T_hi) mod 2^16 (R425, R426). -/
def Channel.place (c : Channel) (tag : BitVec 16) (check : Nat) : TagPlace :=
  match c.thi with
  | none => .new
  | some hi =>
    let d := (tag - hi).toNat
    if decide (c.hist = []) || (decide (1 ≤ d) && decide (d ≤ 32767)) then .new
    else match c.entry tag with
      | none => .stale
      | some e => if e.check = check then .duplicate e else .conflict

/-- Enter a packet and its reply into the history (R425): an older entry of the tag goes, the last 128 stay. -/
def Channel.enter (c : Channel) (tag : BitVec 16) (check : Nat) (r : Reply) : Channel :=
  { c with thi := some tag, hist := (⟨tag, check, r⟩ :: c.hist.filter fun e => !decide (e.tag = tag)).take 128 }

/-! ### Replies -/

/-- A successful reply that NOREPLY suppresses (R407). -/
def suppressed (p : Packet) (st : Status) : Bool := p.noreply && st.good

/-- The reply to a packet (Table 14-2); words follow the header only as R435 allows. -/
def mkReply (op : Nat) (p : Packet) (st : Status) (detail : Nat) (time : Int) (words : List Word) : Reply :=
  { op := op, tag := p.tag, ch := p.ch, status := st, detail := detail, time := lo32 time,
    words := if st.good || (decide (st = .partnerFault) && decide (detail = 1)) then words else [] }

/-- Answer a packet: the reply enters the tag history, and goes out unless NOREPLY suppresses it (R407, R425). -/
def State.answer (s : State) (op : Nat) (p : Packet) (st : Status) (detail : Nat) (time : Int) (words : List Word := []) : State :=
  let r := mkReply op p st detail time words
  let s1 := s.updChan p.ch fun c => c.enter p.tag (p.check op) r
  if suppressed p st then s1 else s1.emit p.ch r

/-- Refuse a packet with the media index now as its completion index. -/
def State.refuse (s : State) (op : Nat) (p : Packet) (d : Deny) : State := s.answer op p d.status d.detail s.index

/-! ### Twin gate (R391 to R394) -/

/-- The device executes pair commands: it is ACTIVE or DETACHED (R391). -/
def State.executesPair (s : State) : Bool := decide (s.twin.state = .active) || decide (s.twin.state = .detached)

/-- TWN_CFG.RELAY is set. -/
def State.relays (s : State) : Bool := bitOf (s.reg rTwnCfg) 7

/-- E for a command: with twin enabled, pair commands count 100 µs in place of 25 µs (R57, R392). -/
def State.earliestFor (s : State) (pair : Bool) : Int :=
  if pair && s.twin.enabled then
    let x := (s.time - s.tu.origin * nsUnit + 100000 * nsUnit) * s.fs
    cdivI (x - (s.q + 1) * (10 ^ 9 * nsUnit)) (s.q * (10 ^ 9 * nsUnit)) * s.q
  else s.earliest

/-- The index an apply time selects from E, or none when it is LATE (R58, R59). -/
def selectFrom (a : Word) (e : Int) : Option Int :=
  if a = 0 then some e else if applyDelta a e < 2 ^ 31 then some (e + applyDelta a e) else none

/-! ### The shape of a command -/

/-- What a command's acceptance gives: the state, the reply's words, an index when it is not the selected one, and
whether the reply comes later (R456). -/
structure Done where
  s : State
  words : List Word := []
  time : Option Int := none
  silent : Bool := false
  /-- It is answered OK_QUEUED although its apply time is 0 (R402). -/
  queued : Bool := false
  /-- What follows the reply (R451). -/
  after : State → State := id

/-- A command of the catalogue: opcode, timing class and twin class of Table 15-2, its own part of each check of Table
14-7 from step 7 on, and its acceptance. `act` gets the selected index and, when the holder has decided the outcome, the
words of the holder's reply (R392). -/
structure CmdSpec where
  op : Nat
  timing : Timing := .untimed
  pair : Bool := false
  continued : Bool := false
  /-- How much later than E the earliest index lies (R174). -/
  lead : Nat := 0
  state : Packet → State → Option Deny := fun _ _ => none
  handle : Packet → State → Option Deny := fun p _ => noHandle p
  layout : Packet → State → Option Deny := fun _ _ => none
  own : Packet → State → Int → Option Deny := fun _ _ _ => none
  act : Packet → State → Int → Option (List Word) → Done
  /-- What a refusal at step 8 or later changes (R52, R68, R173, R455). -/
  onDeny : Packet → Deny → State → State := fun _ _ s => s

/-- The device takes commands: READY, RUNNING or HALTED (R409, R439). -/
def State.takes (s : State) : Bool := decide (s.run = .ready) || decide (s.run = .running) || decide (s.run = .halted)

/-- R439: commands of some opcodes are accepted in fewer run states. START_PROCESSING and STOP_PROCESSING are judged at
their index (R447). -/
def runDeny (op : Nat) (s : State) : Option Deny :=
  if [0x008, 0x010, 0x012, 0x020, 0xB01, 0xB04].contains op then denyIf (decide (s.run ≠ .ready)) stateDeny
  else if op = 0x901 then denyIf (decide (s.run = .running)) stateDeny
  else none

/-- Refusal for a flag that is not allowed (Table 14-7, step 6). -/
def flagsDeny : Deny := badParam 0x0F01

/-- Step 6: GROUP needs a sample-exact command with apply time 0, MORE a continued one, and never both (R66, R429, R431). -/
def CmdSpec.flags (c : CmdSpec) (p : Packet) : Option Deny :=
  firstDeny [denyIf (p.group && p.more) flagsDeny, denyIf (p.more && !c.continued) flagsDeny,
    denyIf (p.group && (decide (c.timing ≠ .sample) || decide (p.apply ≠ 0) || decide (c.op = 0x111))) flagsDeny]

/-- The chain rule: same opcode, HANDLE and APPLY as the first packet, at most 64 packets (R431). -/
def CmdSpec.chainDeny (c : CmdSpec) (p : Packet) (s : State) : Option Deny :=
  match (s.chan p.ch).chain with
  | none => none
  | some k => if k.op ≠ c.op then none
    else firstDeny [denyIf (decide (k.handle ≠ p.handle) || decide (k.apply ≠ p.apply)) (badParam 0x0F02),
      denyIf (decide (64 ≤ k.packets.length)) (badParam 0x0F03)]

/-- A packet of another opcode discards an open chain and logs CHAIN_BROKEN (R431). -/
def breakChain (op : Nat) (p : Packet) (s : State) : State :=
  match (s.chan p.ch).chain with
  | none => s
  | some k => if k.op = op then s
    else ((s.updChan p.ch fun c => { c with chain := none }).logNow evChainBroken).violation p.ch 8 p.tag

/-- The packets of the chain that packet p ends, in order (R430). -/
def chainOf (op : Nat) (p : Packet) (s : State) : List Packet :=
  match (s.chan p.ch).chain with
  | none => [p]
  | some k => if k.op = op then k.packets ++ [p] else [p]

/-- Pending timed commands that count under R61; a committed set counts as one. -/
def State.timedCount (s : State) : Nat := (s.changes.filter (·.timed)).length

/-- Step 10 for an untimed command: a nonzero apply time is refused (R63). -/
def CmdSpec.index (c : CmdSpec) (p : Packet) (s : State) : Except Deny Int :=
  match c.timing with
  | .untimed => if p.apply = 0 then .ok (s.earliestFor c.pair) else .error fieldDeny
  | _ => match selectFrom p.apply (s.earliestFor c.pair + c.lead) with
    | some i => .ok i
    | none => .error lateDeny

/-- What becomes of a packet at steps 6 to 11 of Table 14-7. -/
inductive Verdict where
  | deny (d : Deny)
  /-- Refused at step 8 or later. -/
  | denyLate (d : Deny)
  | forward
  | take (index : Int)
  deriving DecidableEq, Repr

/-- Steps 6 to 9 of Table 14-7 but for the twin gate. -/
def CmdSpec.early (c : CmdSpec) (p : Packet) (s : State) : Option Deny :=
  firstDeny [c.flags p, c.chainDeny p s, runDeny c.op s, c.state p s, denyIf (p.group && decide ((s.chan p.ch).set = none)) stateDeny]

/-- Members of a safe-load set that a packet counts as: each channel of an output-stage command is one (R208). -/
def memberCount (m : Nat × Packet) : Nat := if decide (0x501 ≤ m.1) && decide (m.1 ≤ 0x504) then fld (m.2.w 4) 27 16 else 1

/-- Steps 8 to 11. -/
def CmdSpec.late (c : CmdSpec) (p : Packet) (s : State) : Verdict :=
  match firstDeny [c.handle p s, c.layout p s] with
  | some d => .denyLate d
  | none =>
    match c.index p s with
    | .error d => .denyLate d
    | .ok i =>
      match firstDeny [if p.more then none else c.own p s i,
        denyIf (decide (c.timing ≠ .untimed) && decide (p.apply ≠ 0) && !p.group && !p.more && decide (4096 ≤ s.timedCount)) busyDeny,
        denyIf (p.group && decide (2048 < nsum (((s.chan p.ch).set.getD {}).members.map memberCount) + memberCount (c.op, p))) busyDeny] with
      | some d => .denyLate d
      | none => .take i

/-- Steps 6 to 11 (R427). -/
def CmdSpec.verdict (c : CmdSpec) (p : Packet) (s : State) : Verdict :=
  match c.early p s with
  | some d => .deny d
  | none =>
    if c.pair && !s.executesPair then
      if s.relays then (if s.twin.lock then .forward else .deny ⟨.partnerFault, 3⟩) else .deny ⟨.notActive, 0⟩
    else c.late p s

/-- Enter a change that waits for its index (R60, R62). -/
def State.enqueue (s : State) (c : Change) : State :=
  { s with changes := s.changes ++ [{ c with order := s.nextOrder }], nextOrder := s.nextOrder + 1 }

/-- The acceptance of a timed command with no work of its own: the change waits for its index. -/
def enqueueAct (op : Nat) (quantum : Bool) (p : Packet) (s : State) (i : Int) (data : List Int := []) : Done :=
  { s := s.enqueue { index := i, quantum := quantum, order := 0, timed := decide (p.apply ≠ 0), op := op,
                     packets := chainOf op p s, data := data } }

/-- Acceptance: a GROUP packet joins its set (R66), a MORE packet its chain (R430); any other takes its command's course. -/
def CmdSpec.accept (c : CmdSpec) (p : Packet) (s : State) (i : Int) (forced : Option (List Word)) : Done :=
  if p.group then
    { s := s.updChan p.ch fun k => { k with set := k.set.map fun g => { g with members := g.members ++ [(c.op, p)] } }, time := some s.index }
  else if p.more then
    { s := s.updChan p.ch fun k =>
        { k with chain := some { op := c.op, handle := p.handle, apply := p.apply, packets := (k.chain.elim [] (·.packets)) ++ [p] } },
      time := some s.index }
  else c.act p s i forced

/-- The chain closes with its final packet, taken or refused (R430). -/
def closeChain (c : CmdSpec) (p : Packet) (s : State) : State :=
  if c.continued && !p.more then s.updChan p.ch fun k => { k with chain := none } else s

/-- Status of a taken command (R59, R60). -/
def CmdSpec.okStatus (c : CmdSpec) (p : Packet) : Status :=
  if c.timing ≠ .untimed && p.apply ≠ 0 && !p.more then .okQueued else .ok

/-- The index in w3 of a taken command's reply: the selected index, or the index at completion (Table 14-2). -/
def CmdSpec.replyIndex (c : CmdSpec) (s : State) (i : Int) (d : Done) : Int :=
  match d.time with
  | some t => t
  | none => if c.timing = .untimed then s.index else i

/-- A packet as its origin channel took it (R423, R424). -/
def Packet.atOrigin (p : Packet) : Packet := { p with ch := if 16 ≤ p.ch then p.ch - 16 else p.ch }

/-- The holder appends a relay entry for a pair command it took (R392, R422). -/
def State.relayTaken (s : State) (op : Nat) (p : Packet) (i : Int) (r : Reply) : State :=
  if s.twin.enabled && decide (s.twin.state = .active) then
    if s.twin.lock then
      { s with twin := { s.twin with relayOut := s.twin.relayOut ++ [⟨1, p.atOrigin.ch, i, op, p.atOrigin, some r⟩] } }
    else { s with twin := { s.twin with unrelayed := true } }
  else s

/-- A taken command's status when it could not be relayed: PARTNER_FAULT, detail 1, with the words of success (R394). -/
def CmdSpec.takenStatus (c : CmdSpec) (p : Packet) (s : State) : Status × Nat :=
  if c.pair && s.twin.enabled && decide (s.twin.state = .active) && !s.twin.lock then (.partnerFault, 1) else (c.okStatus p, 0)

/-- A refused GROUP packet marks the open set failed (R67); a refused chain packet of R431 discards the chain. -/
def CmdSpec.denied (c : CmdSpec) (p : Packet) (d : Deny) (s : State) : State :=
  let s1 := if p.group then s.updChan p.ch fun k => { k with set := k.set.map fun g => { g with refused := g.refused + 1 } } else s
  let s2 := if decide (d = flagsDeny) then
      (if p.more then s1.updChan p.ch fun k => { k with chain := none } else s1).violation p.ch 7 p.tag
    else if decide (d = badParam 0x0F02) || decide (d = badParam 0x0F03) then
      (s1.updChan p.ch fun k => { k with chain := none }).violation p.ch 8 p.tag
    else s1.noViolation p.ch
  closeChain c p (s2.refuse c.op p d)

/-- What follows a command's acceptance: its relay entry, the close of its chain, and its reply (R59, R60, R392, R394, R430, R456). -/
def CmdSpec.finish (c : CmdSpec) (p : Packet) (i : Int) (s : State) (d : Done) : State :=
  let ok := c.takenStatus p s
  let st := if d.queued then (.okQueued, 0) else ok
  let r := mkReply c.op p st.1 st.2 (c.replyIndex s i d) d.words
  let s1 := if c.pair then d.s.relayTaken c.op p i r else d.s
  let s2 := closeChain c p (s1.noViolation p.ch)
  d.after (if d.silent then s2 else s2.answer c.op p st.1 st.2 (c.replyIndex s i d) d.words)

/-- A command taken at index i. -/
def CmdSpec.taken (c : CmdSpec) (p : Packet) (i : Int) (s : State) : State := c.finish p i s (c.accept p s i none)

/-- Forward a pair command to the holder; the channel waits for the holder's reply (R391, R423). -/
def CmdSpec.forwarded (c : CmdSpec) (p : Packet) (s : State) : State :=
  { s.updChan p.ch fun k => { k with hold := some (.relay c.op p s.now) } with
    twin := { s.twin with relayOut := s.twin.relayOut ++ [⟨3, p.ch, 0, c.op, p, none⟩] } }

/-- Steps 6 to 11 of Table 14-7, the command's effect and its reply. A device that is not yet READY takes no packet (R409). -/
def CmdSpec.interpret (c : CmdSpec) (p : Packet) (s0 : State) : State :=
  if s0.takes then
    let s := breakChain c.op p s0
    match c.verdict p s with
    | .deny d => c.denied p d s
    | .denyLate d => c.denied p d (c.onDeny p d s)
    | .forward => c.forwarded p s
    | .take i => c.taken p i s
  else s0

/-- The partner executes a relay entry with the outcome the holder decided (R392, R424). -/
def CmdSpec.relayed (c : CmdSpec) (p : Packet) (i : Int) (r : Reply) (s : State) : State :=
  let s1 := if r.status.good || decide (r.status = .partnerFault) then closeChain c p (c.accept p s i (some r.words)).s else s
  s1.updChan p.ch fun k => k.enter p.tag (p.check c.op) r

/-! ### Channel reset (R432) -/

/-- Reset of a channel: history, T_hi, waiting packets, chain, notifications and set go; its build, its firmware session
and its meter subscriptions close. A command in execution keeps its hold (R432, R52, R70, R453, R462). -/
def State.resetChannel (s : State) (n : Nat) : State :=
  let s1 := s.updChan n fun c =>
    { c with thi := none, hist := [], waiting := [], chain := none, set := none, notes := [], loss := false, source := none, gather := none }
  { s1 with build := if s1.build.any fun b => decide (b.ch = n) then none else s1.build,
            fw := if s1.fw.session.any fun f => decide (f.ch = n) then { s1.fw with session := none } else s1.fw,
            subs := s1.subs.filter fun x => !decide (x.2.ch = n) }

end Sys2Proof.Machine
end

