-- ==== Sys2Proof/Machine/Serpent.lean ====
section
/-! DEFINITION. The Serpent: trajectories, panning, time of flight, taps and feeds (R76 to R122). -/
namespace Sys2Proof.Machine

/-! ### Vectors -/

def Vec.sub (a b : Vec) : Vec := ⟨a.x - b.x, a.y - b.y, a.z - b.z⟩
def Vec.dot (a b : Vec) : Int := a.x * b.x + a.y * b.y + a.z * b.z
def Vec.cross (a b : Vec) : Vec := ⟨a.y * b.z - a.z * b.y, a.z * b.x - a.x * b.z, a.x * b.y - a.y * b.x⟩
/-- |v|². -/
def Vec.norm2 (a : Vec) : Nat := (a.dot a).toNat
/-- A coordinate of R76. -/
def coordOk (x : Int) : Bool := decide (-134217728 ≤ x) && decide (x ≤ 134217727)
/-- A position of R76. -/
def Vec.ok (a : Vec) : Bool := coordOk a.x && coordOk a.y && coordOk a.z
/-- Clamped per axis to R76. -/
def Vec.clamp (a : Vec) : Vec := ⟨clampI (-134217728) 134217727 a.x, clampI (-134217728) 134217727 a.y, clampI (-134217728) 134217727 a.z⟩

/-! ### Trajectories (R88 to R95, R569) -/

/-- A component of the Hermite curve at U, in units of 2^-96 of a position unit. -/
def hermite (u p0 p1 m0 m1 : Int) : Int :=
  let a : Int := 2 ^ 32
  (2 * u ^ 3 - 3 * u ^ 2 * a + a ^ 3) * p0 + (u ^ 3 - 2 * u ^ 2 * a + u * a ^ 2) * m0 + (-2 * u ^ 3 + 3 * u ^ 2 * a) * p1 + (u ^ 3 - u ^ 2 * a) * m1

/-- The position a segment gives at index n, and whether it was clamped (R88). -/
def Segment.at_ (g : Segment) (n : Int) : Vec × Bool :=
  let u := fdivI ((n - g.t0) * 2 ^ 32) g.len
  let r := fun (a b c d : Int) => rhe (hermite u a b c d) (2 ^ 96)
  let v : Vec := ⟨r g.p0.x g.p1.x g.m0.x g.m1.x, r g.p0.y g.p1.y g.m0.y g.m1.y, r g.p0.z g.p1.z g.m0.z g.m1.z⟩
  (v.clamp, !v.ok)

/-- Index of the last sample of a segment: t0 + N. -/
def Segment.last (g : Segment) : Int := g.t0 + g.len

/-- The index at which a queued segment leaves the object: its end, or where it was cut (R90, R95, R569). -/
def Queued.last (e : Queued) : Int := match e.cut with | none => e.seg.last | some c => min c e.seg.last

/-- The last index at which a queued segment may be in force: one that was cut is not in force where it ends (R95, R569). -/
def Queued.end_ (e : Queued) : Int := match e.cut with | none => e.seg.last | some c => min (c - 1) e.seg.last

/-- The queued segment that starts last among those that start by index n. -/
def ObjCfg.segmentAt (o : ObjCfg) (n : Int) : Option Queued := (o.queue.filter fun e => decide (e.start ≤ n)).getLast?

/-- Position at an index, whether no segment is in force there, and whether R88 clamped it (R93). A segment moves the object also where
nothing is processed, and one that was appended before the object's creation and ended before it leaves the object at its P1 (DESIGN
CHOICE, log entry 65). -/
def ObjCfg.posAt (o : ObjCfg) (n : Int) : Vec × Bool × Bool :=
  match o.segmentAt n with
  | none => (o.base, true, false)
  | some e => if n ≤ e.end_ then ((e.seg.at_ n).1, false, (e.seg.at_ n).2) else ((e.seg.at_ (max e.last e.seg.t0)).1, true, false)

/-- Segments that no index after n can need leave the queue; the object keeps the position they left it at. -/
def ObjCfg.advance (o : ObjCfg) (n : Int) : ObjCfg :=
  { o with base := (o.posAt n).1, queue := o.queue.filter fun e =>
      decide (n < e.last) && decide ((o.segmentAt n).all fun c => decide (c.start ≤ e.start)) }

/-- Enter one segment with E as the earliest apply index (R90, R92). -/
def enterOne (q : List Queued) (g : Segment) (e : Int) : List Queued :=
  let b := max g.t0 e
  ((q.filter fun x => decide (x.start < b)).map fun x => if b < x.last then { x with cut := some b } else x) ++ [⟨g, b, none⟩]

/-- Enter segments in order (R90 to R92): the queue with the late bits, or the refusal. -/
def enterAll (e : Int) : List Segment → Nat → List Queued × Nat → Except Deny (List Queued × Nat)
  | [], _, acc => .ok acc
  | g :: gs, j, acc =>
    if g.last < e then .error lateDeny
    else
      let q := enterOne acc.1 g e
      if 16 < q.length then .error busyDeny
      else enterAll e gs (j + 1) (q, if g.t0 < e then acc.2 + 2 ^ j else acc.2)
where
  lateDeny : Deny := ⟨.late, 0⟩
  busyDeny : Deny := ⟨.busy, 0⟩

/-- TRAJ_FLUSH at E (R95). -/
def ObjCfg.flush (o : ObjCfg) (e : Int) : ObjCfg :=
  { o with queue := (o.queue.filter fun x => decide (x.start ≤ e)).map fun x => if e ≤ x.last then { x with cut := some e } else x }

/-! ### Parameters by index (R97) -/

/-- Settings after a change; OBJECT_PARAMS leaves the zone mask and the speed of sound as they are. -/
def ObjSet.after (p : ObjSet) : ObjChange → ObjSet
  | .params n => { n with zones := p.zones, speed := p.speed }
  | .zones m => { p with zones := m }
  | .speed c => { p with speed := c }

/-- Settings in force at an index. -/
def ObjCfg.setAt (o : ObjCfg) (n : Int) : ObjSet := (o.changes.filter fun x => decide (x.1 ≤ n)).foldl (fun p x => p.after x.2) o.set

/-- Indices after first at which settings change, up to the end of its quantum, rising (R97). -/
def ObjCfg.changesIn (o : ObjCfg) (first : Int) (q : Nat) : List Int :=
  ((o.changes.map Prod.fst).filter fun n => decide (first < n) && decide (n < first + q)).eraseDups

/-- The index at which a change due at n takes effect: a fourth or later distinct index of a quantum goes to the next (R97). -/
def ObjCfg.changeIndex (o : ObjCfg) (n : Int) (q : Nat) : Int :=
  let n := max n o.created
  let first := fdivI n q * q
  let ch := o.changesIn first q
  if decide (n = first) || ch.contains n || decide (ch.length < 3) then n else first + q

/-- Change an object's settings from index n on. -/
def ObjCfg.change (o : ObjCfg) (n : Int) (c : ObjChange) : ObjCfg :=
  { o with changes := insertBy (fun x y => decide (x.1 ≤ y.1)) (n, c) o.changes }

/-- Forget changes that no index from n on needs. -/
def ObjCfg.pruneSets (o : ObjCfg) (n : Int) : ObjCfg :=
  { o with set := o.setAt n, changes := o.changes.filter fun x => decide (n < x.1) }

/-! ### Panning (R99 to R104) -/

/-- A loudspeaker by number. -/
def SerpentCfg.speaker (c : SerpentCfg) (i : Nat) : Option Speaker := c.layout[i]?

/-- A loudspeaker too close to C takes no part in panning (R79). -/
def SerpentCfg.tooClose (c : SerpentCfg) (i : Nat) : Bool := (c.speaker i).all fun l => decide ((l.pos.sub c.centre).norm2 < 4096)

/-- A loudspeaker passes a zone mask (R118). -/
def SerpentCfg.passes (c : SerpentCfg) (m : Word) (i : Nat) : Bool := (c.speaker i).any fun l => decide (l.zones &&& m ≠ 0)

/-- L_i − C. -/
def SerpentCfg.ray (c : SerpentCfg) (i : Nat) : Vec := match c.speaker i with | some l => l.pos.sub c.centre | none => ⟨0, 0, 0⟩

/-- D and the numerators of the raw weights of a triangle for direction v. -/
def SerpentCfg.raw (c : SerpentCfg) (t : Tri) (v : Vec) : Int × (Int × Int × Int) :=
  let a := c.ray t.a
  let b := c.ray t.b
  let d := c.ray t.c
  (a.dot (b.cross d), (v.dot (b.cross d), v.dot (d.cross a), v.dot (a.cross b)))

/-- The loudspeakers of a triangle. -/
def Tri.all (t : Tri) : List Nat := [t.a, t.b, t.c]

/-- A triangle that can be the panning triangle under a mask (R79, R100). -/
def SerpentCfg.usable (c : SerpentCfg) (m : Word) (t : Tri) : Bool :=
  (t.all.all fun i => c.passes m i && !c.tooClose i) && decide ((c.raw t ⟨0, 0, 0⟩).1 ≠ 0)

/-- Raw weights of a triangle over |D|. -/
def SerpentCfg.weights (c : SerpentCfg) (t : Tri) (v : Vec) : Int × Int × Int :=
  let r := c.raw t v
  if r.1 < 0 then (-r.2.1, -r.2.2.1, -r.2.2.2) else r.2

/-- The least weight and the sum of magnitudes. -/
def minOverSum (w : Int × Int × Int) : Int × Int :=
  (min w.1 (min w.2.1 w.2.2), (w.1.natAbs + w.2.1.natAbs + w.2.2.natAbs : Nat))

/-- The panning triangle and whether the object is off the mesh (R100); none when no triangle is usable. -/
def SerpentCfg.panTriangle (c : SerpentCfg) (m : Word) (v : Vec) : Option (Tri × Bool) :=
  let ts := c.mesh.filter fun t => c.usable m t
  match ts.find? fun t => decide (0 ≤ (minOverSum (c.weights t v)).1) with
  | some t => some (t, false)
  | none =>
    (ts.foldl (fun (best : Option Tri) t =>
      match best with
      | none => some t
      | some b =>
        let x := minOverSum (c.weights t v)
        let y := minOverSum (c.weights b v)
        if y.1 * x.2 < x.1 * y.2 then some t else some b) none).map fun t => (t, true)

/-- c_i in Q2.30 (R102). -/
def SerpentCfg.cosine (c : SerpentCfg) (v : Vec) (i : Nat) : Int :=
  if c.tooClose i then 0
  else
    let r := c.ray i
    let d := v.dot r
    let x : Int := roundSqrt (d.natAbs * d.natAbs * 2 ^ 60) (v.norm2 * r.norm2)
    if d < 0 then -x else x

/-- Triangle weights t_i in Q2.30 (R101). -/
def SerpentCfg.triWeight (c : SerpentCfg) (v : Vec) (t : Tri) (i : Nat) : Int :=
  let w := c.weights t v
  let na := max w.1 0
  let nb := max w.2.1 0
  let nc := max w.2.2 0
  let s := na + nb + nc
  if s = 0 then
    let best := (sortBy (fun x y : Nat => decide (x ≤ y)) t.all).foldl
      (fun (b : Option Nat) j => match b with | none => some j | some k => if c.cosine v k < c.cosine v j then some j else some k) none
    if best = some i then 2 ^ 30 else 0
  else if i = t.a then rhe (na * 2 ^ 30) s else if i = t.b then rhe (nb * 2 ^ 30) s else if i = t.c then rhe (nc * 2 ^ 30) s else 0

/-- s_i in Q2.30 (R102). -/
def SerpentCfg.spreadWeight (c : SerpentCfg) (p : ObjSet) (v : Vec) (i : Nat) : Int :=
  let cs := fxRound (fxCosTurn p.spread (360 * 65536)) (2 ^ 30)
  let ci := c.cosine v i
  if decide (0 < p.spread) && decide (cs < ci) && c.passes p.zones i && !c.tooClose i then
    rhe ((ci - cs) * (ci - cs) * 2 ^ 30) ((2 ^ 30 - cs) * (2 ^ 30 - cs))
  else 0

/-- β in Q2.30 (R102). -/
def betaOf (spread : Nat) : Int := rhe ((min spread 0x2D0000 : Nat) * 2 ^ 30) 0x2D0000

/-- The candidate weight r_i (R102). -/
def SerpentCfg.candidate (c : SerpentCfg) (p : ObjSet) (v : Vec) (tri : Option (Tri × Bool)) (i : Nat) : Int :=
  let s := c.spreadWeight p v i
  if c.mesh.isEmpty then s
  else
    let t := match tri with | none => 0 | some t => if t.1.all.contains i then c.triWeight v t.1 i else 0
    let b := betaOf p.spread
    rhe ((2 ^ 30 - b) * t + b * s) (2 ^ 30)

/-- The F_max greatest nonzero weights, the lower index winning ties, in rising loudspeaker order (R103). -/
def chooseFootprint (rs : List (Nat × Int)) (fmax : Nat) : List Nat :=
  let sorted := sortBy (fun (x y : Nat × Int) => decide (y.2 ≤ x.2)) (rs.filter fun x => decide (x.2 ≠ 0))
  sortBy (fun x y : Nat => decide (x ≤ y)) ((sorted.take fmax).map Prod.fst)

/-- Panning gain p_i in Q4.28 from the weights of the footprint (R104). -/
def panGain (amplitude : Bool) (rs : List Int) (r : Int) : Int :=
  if amplitude then (if isum rs = 0 then 0 else rhe (r * 2 ^ 28) (isum rs))
  else
    let s := (isum (rs.map fun x => x * x)).toNat
    if s = 0 then 0 else (roundSqrt ((r * r).toNat * 2 ^ 56) s : Int)

/-- d_i (R107). -/
def SerpentCfg.distance (c : SerpentCfg) (x : Vec) (i : Nat) : Nat :=
  match c.speaker i with | some l => roundSqrt (x.sub l.pos).norm2 1 | none => 0

/-- a_i in Q4.28 (R105). -/
def distFactor (p : ObjSet) (d : Nat) : Int :=
  if p.distLaw && decide (d ≠ 0) then min (2 ^ 28) (rhe ((p.rref : Int) * 2 ^ 28) d) else 2 ^ 28

/-- Target gain G_i (R106). -/
def targetGain (p : ObjSet) (pan : Int) (d : Nat) : Int := sat32 (rhe (p.gain * pan * distFactor p d) (2 ^ 56))

/-- Target delay in Q13.19 and whether it is held (R107, R108). -/
def targetDelay (p : ObjSet) (fs q : Nat) (d : Nat) : Int × Bool :=
  if !p.delayEn then (0, false)
  else
    let top : Int := (8184 - (q : Int)) * 2 ^ 19
    let num : Int := (((d - p.doff : Nat) : Int)) * fs * 2 ^ 35
    let den : Int := 64000 * p.speed
    (min top (rhe num den), decide (top * den < num) || decide (d < p.doff))

/-! ### Evaluation (R96 to R99) -/

/-- An evaluation: position, whether no segment is in force, whether clamped, the direction used, the weights of all
loudspeakers with a nonzero one, and whether the object is off the mesh. -/
structure Point where
  pos : Vec
  holding : Bool
  clamped : Bool
  dir : Vec
  set : ObjSet
  weights : List (Nat × Int)
  off : Bool

/-- Evaluate an object at an index. -/
def SerpentCfg.point (c : SerpentCfg) (o : ObjCfg) (n : Int) (dir : Vec) : Point :=
  let p := o.posAt n
  let v0 := p.1.sub c.centre
  let v := if v0.norm2 < 4096 then dir else v0
  let st := o.setAt n
  let tri := if c.mesh.isEmpty then none else c.panTriangle st.zones v
  ⟨p.1, p.2.1, p.2.2, v, st, ((List.range c.layout.length).map fun i => (i, c.candidate st v tri i)).filter fun x => decide (x.2 ≠ 0),
   match tri with | some t => t.2 | none => false⟩

/-- Targets of a point for a footprint: gain, delay and whether the delay is held. -/
def SerpentCfg.targets (c : SerpentCfg) (pt : Point) (fs q : Nat) (foot : List Nat) : List (Nat × Tap × Bool) :=
  let r := fun i => AMap.getD pt.weights i 0
  let rs := foot.map r
  foot.map fun i =>
    let d := c.distance pt.pos i
    let t := targetDelay pt.set fs q d
    (i, ⟨targetGain pt.set (panGain pt.set.amplitude rs (r i)) d, t.1⟩, t.2)

/-- One tap over a leg: loudspeaker, gains at its ends, delay at its start, and delay step. -/
structure LegTap where
  spk : Nat
  g0 : Int
  g1 : Int
  tau : Int
  step : Int

/-- A leg of len samples (R109, R110). -/
structure Leg where
  len : Nat
  taps : List LegTap

/-- Step toward a target, with whether the slew limit held it (R110, R111). -/
def slewStep (t1 t0 : Int) (len : Nat) : Int × Bool :=
  let s := rhe (t1 - t0) len
  (clampI (-0x20000) 0x20000 s, decide (s < -0x20000) || decide (0x20000 < s))

/-- A tap moved to its leg's end. -/
def LegTap.endTap (t : LegTap) (len : Nat) : Tap := ⟨t.g1, t.tau + t.step * len⟩

/-- Legs up to a point with targets for the taps held; those without a target keep their delay and go to gain 0. -/
def legTo (taps : AMap Tap) (len : Nat) (ts : List (Nat × Tap × Bool)) : Leg × List Nat :=
  let rows := taps.map fun x =>
    let t := (ts.find? fun y => decide (y.1 = x.1)).elim (⟨0, x.2.tau⟩ : Tap) fun y => y.2.1
    let s := slewStep t.tau x.2.tau len
    ((⟨x.1, x.2.g, t.g, x.2.tau, s.1⟩ : LegTap), s.2)
  (⟨len, rows.map Prod.fst⟩, (rows.filter fun r => r.2).map fun r => r.1.spk)

/-- What a quantum's geometry gives: legs, the object's new memory, and what it reports. -/
structure Geometry where
  legs : List Leg := []
  mem : ObjMem
  /-- Clamped evaluations (R122). -/
  clamps : List Bool := []
  /-- RANGE and ZONE_EMPTY after each evaluation and SLEW after each leg, in order. -/
  rangeFlags : List Bool := []
  slewFlags : List Bool := []
  emptyFlags : List Bool := []
  eval : Evaluation

/-- The splits of a quantum: the taps and legs after each, for the footprint held fixed, also in the quantum of a release (R97, R98). -/
def splitLegs (c : SerpentCfg) (o : ObjCfg) (fs q : Nat) :
    List Int → Int → AMap Tap → Vec → List (Leg × List Nat × Bool × Bool) × AMap Tap × Int × Vec
  | [], e, taps, dir => ([], taps, e, dir)
  | n :: ns, e, taps, dir =>
    let pt := c.point o (n - 1) dir
    let ts := c.targets pt fs q ((taps.map Prod.fst).filter fun i => decide (i < c.layout.length))
    let len := (n - 1 - e).toNat
    let leg := legTo taps len ts
    let taps1 : AMap Tap := leg.1.taps.map fun t => (t.spk, t.endTap len)
    let r := splitLegs c o fs q ns (n - 1) taps1 pt.dir
    ((leg.1, leg.2, ts.any (·.2.2), pt.clamped) :: r.1, r.2)

/-- The geometry of an object over the quantum that starts at first (R96 to R112). In the quantum of its release every tap's target at
the quantum end is gain 0; the flags are those of the evaluation (R87, R122). A split has an empty footprint when the last evaluation
had one. -/
def SerpentCfg.geometry (c : SerpentCfg) (o : ObjCfg) (m : ObjMem) (fs q : Nat) (first : Int) : Geometry :=
  let releasing := o.release.any fun r => decide (r ≤ first)
  let sp := splitLegs c o fs q ((o.changesIn first q).filter fun n => decide (first < n)) (first - 1) m.taps m.dir
  let pt := c.point o (first + q - 1) sp.2.2.2
  let chosen := chooseFootprint pt.weights pt.set.fmax
  let foot := if releasing then [] else chosen
  let old := sp.2.1
  let ts := c.targets pt fs q foot
  let len := (first + q - 1 - sp.2.2.1).toNat
  let leaving := (c.targets pt fs q ((old.map Prod.fst).filter fun i => !foot.contains i && decide (i < c.layout.length))).map
    fun t => (t.1, (⟨0, t.2.1.tau⟩ : Tap), t.2.2)
  let endLeg := legTo old len (ts ++ leaving)
  let enter := ts.filter fun t => (AMap.find old t.1).isNone
  let enterLeg := fun (g1 : Bool) => enter.map fun t => (⟨t.1, 0, if g1 then t.2.1.g else 0, t.2.1.tau, 0⟩ : LegTap)
  let legs := (sp.1.map fun x => (⟨x.1.len, x.1.taps ++ enterLeg false⟩ : Leg)) ++ [⟨len, endLeg.1.taps ++ enterLeg true⟩]
  let ended : List (Nat × Tap) := (endLeg.1.taps.map fun t => (t.spk, t.endTap len)) ++ enter.map fun t => (t.1, t.2.1)
  let kept : AMap Tap := (sortBy (fun (x y : Nat × Tap) => decide (x.1 ≤ y.1)) ended).filter fun t => foot.contains t.1
  let slewSets := sp.1.map (fun x => x.2.1) ++ [endLeg.2]
  let ranges := sp.1.map (fun x => x.2.2.1) ++ [(ts ++ leaving).any (·.2.2)]
  let bare := m.taps.isEmpty && m.last.any fun e => e.empty
  { legs := legs,
    mem := { m with taps := kept, dir := pt.dir }
    clamps := sp.1.map (fun x => x.2.2.2) ++ [pt.clamped]
    rangeFlags := ranges, slewFlags := slewSets.map fun x => !x.isEmpty
    emptyFlags := sp.1.map (fun _ => bare) ++ [chosen.isEmpty]
    eval := { index := first + q - 1, pos := pt.pos, offMesh := pt.off, range := ranges.getLast?.getD false,
              slew := !endLeg.2.isEmpty, empty := chosen.isEmpty, holding := pt.holding,
              queued := (o.queue.filter fun x => decide (first + q - 1 ≤ x.end_) &&
                ((o.segmentAt (first + q - 1)).all fun y => decide (y.start ≤ x.start))).length,
              taps := kept } }

/-! ### Rendering (R113 to R116) -/

/-- The taps of each sample of a quantum's legs, in order: loudspeaker, gain, delay (R109, R110). -/
def legSamples (legs : List Leg) : List (List (Nat × Int × Int)) :=
  legs.flatMap fun l => (span 1 l.len).map fun j => l.taps.map fun t => (t.spk, t.g0 + rhe ((t.g1 - t.g0) * j) l.len, t.tau + t.step * j)

/-- Samples entering a history, with how many R113 saturated. -/
def historyIn (xs : List Int) : List Int × Nat := ((xs.map fun x => sat32 (toHistory x)), xs.countP fun x => overBits 32 (toHistory x))

/-- The terms of one sample's taps: by loudspeaker the term at scale 2^44, and whether R114 saturated. -/
def tapTerms (hist : List Int) (taps : List (Nat × Int × Int)) : List (Nat × Int × Bool) :=
  taps.map fun t => let y := interpolate hist t.2.2; (t.1, rhe (sat40 y * t.2.1) (2 ^ 15), overBits 40 y)

/-- Terms sample by sample; the history grows by each input sample. -/
def renderFrom : List (List (Nat × Int × Int)) → List Int → List Int → List (List (Nat × Int × Bool)) × List Int
  | [], _, h => ([], h)
  | t :: ts, xs, h =>
    let h1 := (xs.headD 0 :: h).take 8192
    let r := renderFrom ts (xs.drop 1) h1
    (tapTerms h1 t :: r.1, r.2)

/-- Add an object's terms into the feeds of a quantum (R116). -/
def addFeeds (q : Nat) (feeds : AMap (List Int)) (terms : List (List (Nat × Int × Bool))) : AMap (List Int) :=
  (terms.zipIdx).foldl (fun f st => st.1.foldl (fun f t =>
    let row := AMap.getD f t.1 (List.replicate q 0)
    AMap.put f t.1 (row.set st.2 (row.getD st.2 0 + t.2.1))) f) feeds

/-- A FEED's output: the sum at scale 2^44 narrowed, with its saturations (R116). -/
def feedOut (acc : List Int) : List Int × Nat :=
  (acc.map fun a => sat40 (rhe a (2 ^ 13)), acc.countP fun a => overBits 40 (rhe a (2 ^ 13)))

/-! ### Layout and mesh (R77 to R82) -/

/-- The higher index of the first clashing pair of a layout; the first pair is the one whose higher index is the smallest (R77; DESIGN
CHOICE, log entry 65). -/
def layoutClash (ls : List Speaker) : Option Nat :=
  (List.range ls.length).find? fun i => (List.range i).any fun j => decide ((ls[i]?).map (·.pos) = (ls[j]?).map (·.pos))

/-- The first triangle that breaks R78. -/
def meshBad (c : SerpentCfg) (ts : List Tri) : Option Nat :=
  ts.findIdx? fun t => (t.all.any fun i => decide (c.layout.length ≤ i)) || decide (t.a = t.b) || decide (t.b = t.c) || decide (t.a = t.c) ||
    decide ((c.raw t ⟨0, 0, 0⟩).1 = 0)

/-- The first triangle that names a loudspeaker too close to C (R79). -/
def meshClose (c : SerpentCfg) (ts : List Tri) : Option Nat := ts.findIdx? fun t => t.all.any c.tooClose

/-- A new layout takes effect (R80). -/
def SerpentCfg.withLayout (c : SerpentCfg) (ls : List Speaker) : SerpentCfg :=
  { c with layout := ls, mesh := if c.mesh.all fun t => t.all.all fun i => decide (i < ls.length) then c.mesh else [] }

/-- A new mesh takes effect. -/
def SerpentCfg.withMesh (c : SerpentCfg) (centre : Vec) (ts : List Tri) : SerpentCfg := { c with centre := centre, mesh := ts }

/-- Objects whose release quantum ended by index n go (R87); queues and settings forget what is past. -/
def SerpentCfg.tidy (c : SerpentCfg) (q : Nat) (n : Int) : SerpentCfg :=
  { c with objs := AMap.mapVal (c.objs.filter fun x => x.2.release.all fun r => decide (n < r + q)) fun o => (o.advance (n - 1)).pruneSets n }

/-- The object with a handle, created or coming (R86, R121). -/
def SerpentCfg.byHandle (c : SerpentCfg) (h : Word) : Option (Nat × ObjCfg) := (c.objs ++ c.coming).find? fun x => decide (x.2.handle = h)

/-- The object with a handle when it is live at index n: until the end of the quantum of its release (R87, R121). -/
def SerpentCfg.liveAt (c : SerpentCfg) (q : Nat) (h : Word) (n : Int) : Option (Nat × ObjCfg) :=
  (c.byHandle h).filter fun x => x.2.release.all fun r => decide (n < r + q)

/-- Put an object's configuration where the object stands. -/
def SerpentCfg.putObj (c : SerpentCfg) (i : Nat) (o : ObjCfg) : SerpentCfg :=
  if (AMap.find c.coming i).any fun x => decide (x.handle = o.handle) then { c with coming := AMap.put c.coming i o }
  else { c with objs := AMap.put c.objs i o }

/-- An object exists at index n (R86, R87). -/
def SerpentCfg.objAt (c : SerpentCfg) (q : Nat) (i : Nat) (n : Int) : Bool :=
  match AMap.find c.objs i with | none => false | some o => o.release.all fun r => decide (n < r + q)

end Sys2Proof.Machine
end

