-- ==== Sys2Proof/Machine/Engine.lean ====
section
/-! DEFINITION. What an instance of an operation computes in its quantum: its inputs, its engine's work, its outputs, the counters,
events and meter records that come of it, and what stands in when it is not run (R45, R48, R49, R113 to R122, R128, R132, R139,
R140, R146, R168, R192 to R208, R222 to R230, R245, R462, R463). -/
namespace Sys2Proof.Machine

/-! ### Quanta in flight -/

/-- First index of a quantum. -/
def QRun.first (r : QRun) (q : Nat) : Int := r.k * q

/-- The graph of a quantum. -/
def QRun.graph (r : QRun) : Graph := match r.cfg.graph with | some a => a.graph | none => {}

/-- Change the quantum of an ordinal. -/
def State.updRun (s : State) (ord : Nat) (f : QRun → QRun) : State :=
  let runs := s.audio.runs.map fun r => if r.ord = ord then f r else r
  { s with audio := { s.audio with runs := runs } }

/-- The quantum of an ordinal. -/
def State.runOf (s : State) (ord : Nat) : Option QRun := s.audio.runs.find? fun r => decide (r.ord = ord)

/-- Change the state of an operation. -/
def State.putMem (s : State) (i : Nat) (m : OpMem) : State := { s with audio := { s.audio with mem := AMap.put s.audio.mem i m } }

/-- A quantum of zeros. -/
def State.zeros (s : State) : List Int := List.replicate s.q 0

/-- An operation is cancelled in the quantum that starts at an index (R249, R251). -/
def Cfg.cancelled (c : Cfg) (i : Nat) (first : Int) : Bool :=
  c.cancels.any fun (x : Cancel) => decide (x.op = i) && decide (x.from_ ≤ first) && decide (first < x.until_)

/-! ### Keys of input rings and of sinks -/

/-- Key of an input-ring sample stream: SAP port × 32 + slot, stream × 64 + channel, Zenel drop channel, tap channel. -/
def sapKey (port slot : Nat) : Nat := 0x10000 + port * 32 + slot
def netKey (stream ch : Nat) : Nat := 0x20000 + stream * 64 + ch
def zenKey (ch : Nat) : Nat := 0x30000 + ch
def tapKey (ch : Nat) : Nat := 0x40000 + ch

/-- The input-ring keys of a receiving operation's output ports. -/
def Op.ringKeys (o : Op) : List Nat :=
  (List.range o.nout).map fun j =>
    if o.kind = 0x01 then sapKey o.sapPort (o.sapFirst + j) else if o.kind = 0x02 then netKey o.stream j
    else if o.kind = 0x03 then zenKey (o.zenFirst + j) else tapKey (o.tapFirst + j)

/-- The keys under which a transmitting operation's sinks reach their ports. -/
def Op.sendKeys (o : Op) : List Nat :=
  (List.range o.nin).map fun j =>
    if o.kind = 0x08 then sapKey o.sapPort (o.sapFirst + j) else if o.kind = 0x09 then netKey o.stream j
    else if o.kind = 0x0A then zenKey (o.zenFirst + j) else tapKey (o.tapFirst + j)

/-- Key of a sink: an input port of a transmitting operation. -/
def sinkKey (i port : Nat) : Nat := i * 256 + port

/-- The sample of an input ring at an index, if it was written. -/
def State.ringAt (s : State) (key : Nat) (n : Int) : Option Int :=
  ((AMap.getD s.audio.rings key []).find? fun x => decide (x.1 = n)).map Prod.snd

/-- Write a sample into an input ring. -/
def State.ringPut (s : State) (key : Nat) (n v : Int) : State :=
  let l := (n, v) :: (AMap.getD s.audio.rings key []).filter fun x => decide (x.1 ≠ n)
  { s with audio := { s.audio with rings := AMap.put s.audio.rings key l } }

/-- Take a sample out of an input ring: the index reads as not supplied. -/
def State.ringDel (s : State) (key : Nat) (n : Int) : State :=
  let drop := fun (l : List (Int × Int)) => l.filter fun x => decide (x.1 ≠ n)
  { s with audio := { s.audio with rings := AMap.upd s.audio.rings key drop } }

/-- The sample given to a port at an index. -/
def State.outAt (s : State) (key : Nat) (n : Int) : Option Int :=
  ((AMap.getD s.audio.outs key []).find? fun x => decide (x.1 = n)).map Prod.snd

/-! ### Inputs (R48, R49) -/

/-- What a delayed edge gives over a quantum. -/
def Line.read (l : Line) (ord q : Nat) : List Int :=
  (List.range q).map fun j =>
    let p : Int := ((ord * q + j : Nat) : Int) - l.edge.delay
    if p < ((l.from_ * q : Nat) : Int) then 0 else (AMap.getD l.chunks (p.toNat / q) []).getD (p.toNat % q) 0

/-- Samples at an input port over a quantum. -/
def State.inputOf (s : State) (r : QRun) (i port : Nat) : List Int :=
  match r.graph.into i port with
  | none => s.zeros
  | some e =>
    if e.direct then (AMap.getD r.outs e.src []).getD e.sport s.zeros
    else match s.audio.lines.find? fun l => decide (l.edge = e) && decide (l.from_ ≤ r.ord) with
      | none => s.zeros
      | some l => l.read r.ord s.q

/-- Samples at every input port. -/
def State.inputsOf (s : State) (r : QRun) (i : Nat) (o : Op) : List (List Int) := (List.range o.nin).map fun p => s.inputOf r i p

/-- Take an operation's outputs into the lines of its delayed edges. -/
def Line.take (l : Line) (i ord q : Nat) (outs : List (List Int)) : Line :=
  if l.edge.src = i then
    { l with chunks := (AMap.put l.chunks ord (outs.getD l.edge.sport [])).filter fun c => decide (ord ≤ c.1 + l.edge.delay / q + 3) }
  else l

/-- The buffers of an operation's output ports take a quantum from an index on: index n in slot n mod 2Q (R46, R478). -/
def bufferTake (q : Nat) (first : Int) (outs : List (List Int)) (m : AMap Int) : AMap Int :=
  outs.zipIdx.foldl (fun m p => p.1.zipIdx.foldl (fun m (v : Int × Nat) =>
    AMap.put m (p.2 * 128 + ((first + (v.2 : Int)) % (2 * q : Nat)).toNat) v.1) m) m

/-- An operation gives its outputs of a quantum. -/
def State.giveOuts (s : State) (r : QRun) (i : Nat) (outs : List (List Int)) : State :=
  let s1 := s.updRun r.ord fun x => { x with outs := AMap.put x.outs i outs }
  let lines := s1.audio.lines.map fun l => l.take i r.ord s.q outs
  let bufs := AMap.put s1.audio.bufs i (bufferTake s.q (r.first s.q) outs (AMap.getD s1.audio.bufs i []))
  { s1 with audio := { s1.audio with lines := lines, bufs := bufs } }

/-! ### Meter records (R462, R463) -/

/-- Cut a list into runs of n. -/
def chunksOf {α : Type} (n : Nat) : Nat → List α → List (List α)
  | 0, _ => []
  | fuel + 1, l => if l.isEmpty then [] else l.take n :: chunksOf n fuel (l.drop n)

/-- Send a record set as notifications. -/
def State.sendRecords (s : State) (num : Nat) (m : MeterSub) (idx : Int) (elems : List (List Word)) : State :=
  let per := 1016 / (max 1 (elems.headD []).length)
  let parts := chunksOf per (elems.length + 1) elems
  (parts.zipIdx).foldl (fun (s : State) p =>
    s.notify m.ch { op := 0xC01, notify := true, more := decide (p.2 + 1 < parts.length), tag := m.tag, ch := m.ch, status := .ok,
                    time := lo32 s.index,
                    words := [w32 (num + m.source * 2 ^ 12), lo32 idx, hi32 idx, w32 (p.2 * per + p.1.length * 65536)] ++ p.1.flatMap id }) s

/-- One more record set of a subscription: every D-th is delivered. -/
def State.oneRecord (s : State) (num : Nat) (idx : Int) (elems : List (List Word)) : State :=
  match AMap.find s.subs num with
  | none => s
  | some m =>
    let due := decide (m.decim ≤ m.seen + 1)
    let s1 := { s with subs := AMap.put s.subs num { m with seen := if due then 0 else m.seen + 1 } }
    if due then s1.sendRecords num m idx elems else s1

/-- A Reed meter operation closed a record. -/
def State.reedRecord (s : State) (i : Nat) (rec : Record) : State :=
  (s.subs.filter fun x => decide (x.2.source = 1) && decide (fld x.2.range 13 0 = i)).foldl
    (fun (s : State) x => s.oneRecord x.1 rec.index rec.elems) s

/-- First channel and count of a range word (R207). -/
def rangeFirst (w : Word) : Nat := fld w 10 0
def rangeCount (w : Word) : Nat := fld w 27 16

/-- Dike channels closed records at an index: each subscription gathers its channels' records and sends the set when it is whole. -/
def State.dikeRecords (s : State) (idx : Int) (recs : AMap (List Word)) : State :=
  (s.subs.filter fun x => decide (x.2.source = 0)).foldl (fun (s : State) x =>
    let m := x.2
    let chans := span (rangeFirst m.range) (rangeCount m.range)
    let old := if m.got.1 = idx then m.got.2 else []
    let got := (recs.filter fun c => chans.contains c.1).foldl (fun (a : AMap (List Word)) c => AMap.put a c.1 c.2) old
    if got.isEmpty then s
    else if got.length = chans.length then
      { s with subs := AMap.put s.subs x.1 { m with got := (0, []) } }.oneRecord x.1 idx got.vals
    else { s with subs := AMap.put s.subs x.1 { m with got := (idx, got) } }) s

/-! ### Reed operations -/

/-- The state with which a Reed operation runs a quantum, and whether its SWITCH was deferred (R37, R54, R222, R249). -/
def State.reedStart (s : State) (r : QRun) (i : Nat) (o : Op) : ReedMem × Bool :=
  let first := r.first s.q
  match AMap.find s.audio.mem i with
  | some m =>
    match m.st with
    | .reed x =>
      if decide (m.last + 1 = r.ord) && decide (m.op.kind = o.kind) && decide (reedSizes m.op = reedSizes o) then
        let y := if m.op = o then (x, false) else reedKeep m.op o x first s.q (r.cfg.sluice.fadeAt first)
        (y.1.redefault first r.cfg.sluice.fadeAt, y.2)
      else (reedInit o first, false)
    | _ => (reedInit o first, false)
  | none => (reedInit o first, false)

/-- Count saturations of ports. -/
def State.countPorts (s : State) (cls base : Nat) (overs : List Nat) : State :=
  overs.zipIdx.foldl (fun (s : State) x => s.count cls (base + x.2) x.1) s

/-- A SWITCH whose change waits is logged (R138, R227, R568). -/
def State.switchDeferred (s : State) (i : Nat) (first : Int) (late : Bool) : State :=
  if late then s.logAt evApplyDeferred first [0xFF, 0, i] else s

/-- A Reed operation runs its quantum. -/
def State.runReed (s : State) (r : QRun) (i : Nat) (o : Op) : State :=
  let first := r.first s.q
  let m := s.reedStart r i o
  let run := reedRun o s.fs s.q m.1 first (s.inputsOf r i o)
  let s2 := ((s.switchDeferred i first m.2).countPorts 0x0A (i * 128) run.saturated).putMem i ⟨r.ord, o, .reed run.mem⟩
  (run.recs.foldl (fun (s : State) x => s.reedRecord i x) s2).giveOuts r i run.outs

/-! ### Convolution -/

/-- What a CONVOLVE operation is configured with. -/
def Cfg.convOf (c : Cfg) (i : Nat) : ConvCfg := AMap.getD c.conv i {}

/-- Two definitions of a CONVOLVE operation agree in channel, plan and reservation (R159). -/
def convSame (a b : Op) : Bool := decide (a.convChan = b.convChan) && decide (a.convPlan = b.convPlan) && decide (a.convRes = b.convRes)

/-- Start index, history and tiers with which a CONVOLVE operation runs a quantum (R37, R159). -/
def State.convStart (s : State) (r : QRun) (i : Nat) (o : Op) : Int × List Int × List Tier :=
  match AMap.find s.audio.mem i with
  | some m =>
    match m.st with
    | .conv a h t =>
      if decide (m.last + 1 = r.ord) && convSame m.op o then (a, h, t) else (r.first s.q, [], [])
    | _ => (r.first s.q, [], [])
  | none => (r.first s.q, [], [])

/-- Mark blocks whose output was not complete at its due time (R186). -/
def markMissed (tiers : List Tier) (ms : List (Nat × Int)) : List Tier :=
  (List.range 3).map fun t =>
    let ti := tiers.getD t {}
    { ti with missed := ((ms.filter fun m => decide (m.1 = t) && !ti.missed.contains m.2).map Prod.snd) ++ ti.missed }

/-- A CONVOLVE operation runs its quantum (R158, R168, R176, R186). -/
def State.runConv (s : State) (r : QRun) (i : Nat) (o : Op) : State :=
  let first := r.first s.q
  let m := s.convStart r i o
  let hists := growHist convKeep (s.inputOf r i 0) m.2.1
  let hist := (hists.getLast?).getD m.2.1
  let tiers := pushSpectra o s.q first hist m.2.2
  let y := convOut o (r.cfg.convOf i) s.q first m.1 hists tiers
  ((s.count 0x06 o.convChan y.2).putMem i ⟨r.ord, o, .conv m.1 hist tiers⟩).giveOuts r i [y.1]

/-! ### Serpent -/

/-- What an object holds; an object that another one with its number left behind starts afresh (R86). -/
def State.objMem (s : State) (n : Nat) (o : ObjCfg) : ObjMem :=
  match AMap.find s.audio.objs n with
  | some m => if m.handle = o.handle then m else { handle := o.handle }
  | none => { handle := o.handle }

/-- Rises of a flag over a run of evaluations, with its last value. -/
def rises : Bool → List Bool → Nat
  | _, [] => 0
  | p, b :: bs => b2n (b && !p) + rises b bs

/-- Log an event a number of times. -/
def State.logTimes (s : State) (code : Nat) (idx : Int) : Nat → State
  | 0 => s
  | n + 1 => (s.logAt code idx []).logTimes code idx n

/-- POS_CLAMP once per run of clamped evaluations (R122). -/
def State.clampRuns (s : State) (n : Nat) (idx : Int) : List Bool → State
  | [] => s
  | b :: bs => (if b then (s.count 0x17 (n * 8 + 5)).logOnceAt evPosClamp n idx [] else s.endRun evPosClamp n).clampRuns n idx bs

/-- Counters and events of an object's evaluations (R122). -/
def State.reportObj (s : State) (n : Nat) (old : Option Evaluation) (g : Geometry) : State :=
  let was := fun (f : Evaluation → Bool) => old.any f
  let e := g.eval
  let s1 := (((s.count 0x17 (n * 8) (b2n e.offMesh)).count 0x17 (n * 8 + 1) (g.rangeFlags.countP id)).count 0x17 (n * 8 + 2)
    (g.slewFlags.countP id)).count 0x17 (n * 8 + 3) (g.emptyFlags.countP id)
  let s2 := s1.logTimes evObjOffMesh e.index (b2n (e.offMesh && !was (·.offMesh)))
  let s3 := s2.logTimes evObjRange e.index (rises (was (·.range)) g.rangeFlags)
  let s4 := s3.logTimes evObjSlew e.index (rises (was (·.slew)) g.slewFlags)
  (s4.logTimes evZoneEmpty e.index (rises (was (·.empty)) g.emptyFlags)).clampRuns n e.index g.clamps

/-- Evaluate object n over a quantum: its legs (R96 to R112). -/
def State.evalObj (s : State) (cfg : SerpentCfg) (n : Nat) (o : ObjCfg) (first : Int) : State × List Leg :=
  let m := s.objMem n o
  let g := cfg.geometry o m s.fs s.q first
  let s1 := { s with audio := { s.audio with objs := AMap.put s.audio.objs n { g.mem with last := some g.eval } } }
  (s1.reportObj n m.last g, g.legs)

/-- The operation of an object ran the quantum before under the same object, so its history goes on (R54, R83). -/
def State.objKept (s : State) (r : QRun) (i n : Nat) : Bool :=
  match AMap.find s.audio.mem i with
  | some m => decide (m.last + 1 = r.ord) && decide (m.op.kind = 0x18) && decide (m.op.objNo = n)
  | none => false

/-- Put an object's history (R113). -/
def State.putHist (s : State) (n i : Nat) (h : List Int) : State :=
  let f := fun (m : ObjMem) => { m with hist := h, op := some i }
  { s with audio := { s.audio with objs := AMap.upd s.audio.objs n f } }

/-- The history an OBJECT operation goes on from. -/
def State.objHist (s : State) (r : QRun) (i n : Nat) (o : ObjCfg) : List Int :=
  if s.objKept r i n && decide ((s.objMem n o).op = some i) then (s.objMem n o).hist else []

/-- Count a quantum's interpolator saturations per feed (R114). -/
def State.countTerms (s : State) (terms : List (List (Nat × Int × Bool))) : State :=
  (terms.flatMap id).foldl (fun (s : State) t => if t.2.2 then s.count 0x04 t.1 else s) s

/-- An OBJECT operation runs its quantum: evaluation, history and rendering (R85, R96, R113 to R116). -/
def State.runObject (s : State) (r : QRun) (i : Nat) (o : Op) : State :=
  let n := o.objNo
  let s1 := match AMap.find r.cfg.serpent.objs n with
    | none => s
    | some c =>
      if r.first s.q < c.created then s else
      let h0 := s.objHist r i n c
      let e := s.evalObj r.cfg.serpent n c (r.first s.q)
      let hin := historyIn (s.inputOf r i 0)
      let t := renderFrom (legSamples e.2) hin.1 h0
      ((((e.1.count 0x17 (n * 8 + 7) hin.2).countTerms t.1).putHist n i t.2).updRun r.ord fun x => { x with feeds := addFeeds s.q x.feeds t.1 })
  (s1.putMem i ⟨r.ord, o, .plain⟩).giveOuts r i []

/-- A FEED operation runs its quantum (R85, R116). -/
def State.runFeed (s : State) (r : QRun) (i : Nat) (o : Op) : State :=
  let y := if o.feedNo < r.cfg.serpent.layout.length then feedOut (AMap.getD r.feeds o.feedNo s.zeros) else (s.zeros, 0)
  (s.count 0x04 o.feedNo y.2).giveOuts r i [y.1]

/-! ### Sluice -/

/-- Samples of a router source over a quantum (R123 to R125). -/
def State.sourceVals (s : State) (r : QRun) (n : Nat) : List Int :=
  match r.graph.source n with
  | none => s.zeros
  | some x => match x.bus with
    | none => s.inputOf r x.op x.port
    | some _ => AMap.getD r.sources n s.zeros

/-- A bus over a quantum: its samples and saturations (R142). -/
def State.busRun (s : State) (r : QRun) (b : Nat) : List Int × Nat :=
  let ys := (List.range s.q).map fun (j : Nat) => r.cfg.sluice.busOut s.q b (r.first s.q + j) fun n => (s.sourceVals r n).getD j 0
  (ys.map Prod.fst, nsum (ys.map Prod.snd))

/-- A sink over a quantum (R132, R136). -/
def State.sinkRun (s : State) (r : QRun) (x : Nat) : List Int × Nat :=
  let ys := (List.range s.q).map fun (j : Nat) => (r.cfg.sluice.sink x).value (r.first s.q + j) fun n => (s.sourceVals r n).getD j 0
  (ys.map sat40, ys.countP fun y => overBits 40 y)

/-- The buses of a stage (R125, R128). -/
def State.runBuses (s : State) (r : QRun) (p : Nat) : State :=
  let ms := (r.graph.stageOps p).filter fun x => decide (x.2.kind = 0x11) && !r.cfg.cancelled x.1 (r.first s.q)
  (ms.flatMap fun x => (span x.2.firstBus x.2.busCount).map fun b => (b, x.2.firstSource + (b - x.2.firstBus))).foldl (fun (s : State) b =>
    let y := s.busRun r b.1
    (s.count 0x02 b.1 y.2).updRun r.ord fun t => { t with sources := AMap.put t.sources b.2 y.1 }) s

/-- The sinks of a stage (R124, R128); those of a cancelled operation give zeros (R249). -/
def State.runSinks (s : State) (r : QRun) (p : Nat) : State :=
  ((r.graph.stageOps p).filter fun x => decide (x.2.kind = 0x10)).foldl (fun (s : State) x =>
    if r.cfg.cancelled x.1 (r.first s.q) then s.giveOuts r x.1 (List.replicate x.2.nout s.zeros)
    else
      let ys := (span x.2.firstSink x.2.nout).map fun k => (k, s.sinkRun r k)
      (ys.foldl (fun (s : State) y => s.count 0x01 y.1 y.2.2) s).giveOuts r x.1 (ys.map fun y => y.2.1)) s

/-- A stage pass: every bus of the stage, then every sink (R128). -/
def State.runPass (s : State) (r : QRun) (p : Nat) : State :=
  let s1 := s.runBuses r p
  match s1.runOf r.ord with | some r1 => s1.runSinks r1 p | none => s1

/-- A GAIN operation (R139). -/
def State.runGain (s : State) (r : QRun) (i : Nat) (o : Op) : State :=
  let gs := AMap.getD r.cfg.sluice.gains i []
  let ys := (s.inputsOf r i o).zipIdx.map fun x => x.1.zipIdx.map fun v => rhe (v.1 * (gs.getD x.2 {}).at_ (r.first s.q + (v.2 : Nat))) (2 ^ 28)
  (s.countPorts 0x03 (i * 128) (ys.map fun y => y.countP fun v => overBits 40 v)).giveOuts r i (ys.map fun y => y.map sat40)

/-- A MATRIX operation (R140). -/
def State.runMatrix (s : State) (r : QRun) (i : Nat) (o : Op) : State :=
  let ins := s.inputsOf r i o
  let ys := (List.range o.nout).map fun j => (List.range s.q).map fun (t : Nat) =>
    r.cfg.sluice.cellSum i j (r.first s.q + t) (ins.map fun x => x.getD t 0)
  (s.countPorts 0x03 (i * 128) (ys.map fun y => y.countP fun v => overBits 40 v)).giveOuts r i (ys.map fun y => y.map sat40)

/-! ### Dike -/

/-- The stop ramp of a Dike channel at an index (R201). -/
def DikeChan.stopGain (c : DikeChan) (b n : Int) : Int :=
  Ramp.at_ ⟨b, max 8 (c.setAt b).defRamp, c.mute.at_ (b - 1), 0⟩ n

/-- The mute gain that a stop fixes at an index, once its ramps run. -/
def Cfg.stopAt (g : Cfg) (c : DikeChan) (n : Int) : Option Int :=
  match g.stopRamp with | some x => if x.1 ≤ n then some (c.stopGain x.1 n) else none | none => none

/-- The exponent of the meter period as DKE_CTL.MPER gives it. -/
def State.mperSet (s : State) : Nat := min 10 (s.regFld rDkeCtl 3 0)

/-- Meter period in quanta (R205). -/
def State.meterPeriod (s : State) : Nat := 2 ^ s.mperSet

/-- The boundary b ends a meter period of 2^e quanta. -/
def State.periodEnd (s : State) (e : Nat) (b : Int) : Bool := decide (b % ((2 ^ e * s.q : Nat) : Int) = 0)

/-- A Dike channel over a quantum: outputs, memory, and what it counts. -/
def dikeChanRun (g : Cfg) (c : DikeChan) (fs : Nat) : List Int → Int → DikeMem → List Int × DikeMem × Nat × Nat × Nat
  | [], _, m => ([], m, 0, 0, 0)
  | x :: xs, n, m =>
    let a := dikeStep c fs m n x (g.stopAt c n)
    let b := dikeChanRun g c fs xs (n + 1) a.mem
    (a.out :: b.1, b.2.1, a.trimOver + b.2.2.1, a.clamp + b.2.2.2.1, a.clip + b.2.2.2.2)

/-- The memory with which a Dike channel runs a quantum (R37, R200). -/
def State.dikeStart (s : State) (r : QRun) (i ch : Nat) (c : DikeChan) : DikeMem :=
  match AMap.find s.audio.mem i with
  | some m =>
    match m.st with
    | .dike ds =>
      if decide (m.last + 1 = r.ord) && decide (m.op.dikeFirst ≤ ch) then
        match ds[ch - m.op.dikeFirst]? with
        | some d => if decide (d.la = c.la) && decide (d.width = c.width) && decide (d.dly = c.dly) then d else dikeMemNew c
        | none => dikeMemNew c
      else dikeMemNew c
    | _ => dikeMemNew c
  | none => dikeMemNew c

/-- The memories of a DIKE operation at the end of a quantum: where the meter period ends, the records of the samples gathered close and
are sent (R205). -/
def State.dikeClose (s : State) (r : QRun) (i : Nat) (o : Op) (ms : List (Nat × DikeMem)) : State :=
  let put := fun (s : State) (ms : List (Nat × DikeMem)) => s.putMem i ⟨r.ord, o, .dike (ms.map Prod.snd)⟩
  if r.closes then
    let recs := (ms.filter fun m => decide (0 < m.2.count)).map fun m => (m.1, m.2.record)
    put (if recs.isEmpty then s else s.dikeRecords (r.first s.q + s.q) recs) (ms.map fun m => (m.1, m.2.clear))
  else put s ms

/-- A DIKE operation runs its quantum. -/
def State.runDike (s : State) (r : QRun) (i : Nat) (o : Op) : State :=
  let first := r.first s.q
  let chans := (span o.dikeFirst o.dikeCount).map fun ch => (ch, (AMap.find r.cfg.dike ch).getD (dikeNew o ch first))
  let ins := s.inputsOf r i o
  let ys := chans.zipIdx.map fun c => (c.1.1, dikeChanRun r.cfg c.1.2 s.fs (ins.getD c.2 []) first (s.dikeStart r i c.1.1 c.1.2))
  let s1 := ys.foldl (fun (s : State) y =>
    (((s.count 0x09 y.1 y.2.2.2.1).count 0x08 y.1 y.2.2.2.2.1).count 0x07 y.1 y.2.2.2.2.2)) s
  let s2 := (s1.bump rDkeClampsum (nsum (ys.map fun y => y.2.2.2.2.1))).bump rDkeClipsum (nsum (ys.map fun y => y.2.2.2.2.2))
  (s2.dikeClose r i o (ys.map fun y => (y.1, y.2.2.1))).giveOuts r i (ys.map fun y => y.2.1)

/-! ### An instance -/

/-- An operation's own instance runs. -/
def State.runOp (s : State) (r : QRun) (i : Nat) : State :=
  match r.graph.op i with
  | none => s
  | some o =>
    if isReed o.kind then s.runReed r i o
    else match o.kind with
      | 0x12 => s.runGain r i o
      | 0x13 => s.runMatrix r i o
      | 0x18 => s.runObject r i o
      | 0x19 => s.runFeed r i o
      | 0x20 => s.runConv r i o
      | 0x28 => s.runDike r i o
      | _ => s

/-- The tier job of a block can complete: the spectrum of the block is there (R167). -/
def State.tierReady (s : State) (i t : Nat) (b : Int) : Bool :=
  match AMap.find s.audio.mem i with
  | some m => match m.st with
    | .conv _ _ tiers => (tiers.getD t {}).spectra.any fun x => decide (x.1 = b)
    | _ => false
  | none => false

/-- A tier job completes. -/
def State.tierDone (s : State) (i t : Nat) (b : Int) : State :=
  let finish := fun (tiers : List Tier) => (List.range 3).map fun x =>
    let ti := tiers.getD x {}
    if x = t then { ti with done := b :: ti.done } else ti
  let f := fun (m : OpMem) => match m.st with
    | .conv a h tiers => { m with st := .conv a h (finish tiers) }
    | _ => m
  { s with audio := { s.audio with mem := AMap.upd s.audio.mem i f } }

/-! ### Instances not run (R245, R246, R249) -/

/-- A Reed operation over a quantum from an index that it does not run: zeros at the quantum's indices in the lines kept by media index, and
the meter records that end there, of the samples gathered (R228, R229, R245). -/
def ReedMem.skipped (m : ReedMem) (o : Op) (q : Nat) (first : Int) : ReedMem × List Record :=
  match m with
  | .line h =>
    if o.kind = 0x35 then (.line ((List.replicate q 0 ++ h).take (fld (o.w 6) 15 0)), [])
    else if o.kind = 0x44 then
      (.line h, ((span (first + 1).toNat q).filter fun n => decide (n % 2 ^ fld (o.w 6) 3 0 = 0)).map fun (n : Nat) => ⟨n, spectrumOf o h⟩)
    else (.line h, [])
  | .frac h t => (.frac ((List.replicate q 0 ++ h).take 8192) t, [])
  | .meter acc k => meterClose o q (first + q) acc k
  | .loud secs acc =>
    (span (first + 1).toNat q).foldl (fun (a : ReedMem × List Record) (n : Nat) => match a.1 with
      | .loud ss ac => let c := loudClose o n ss ac; (c.1, a.2 ++ c.2)
      | x => (x, a.2)) (.loud secs acc, [])
  | m => (m, [])

/-- Zeros at a quantum's indices in a Dike channel's delay line (R197, R245). -/
def DikeMem.zeroed (m : DikeMem) (q : Nat) : DikeMem := if m.dly then { m with delay := (List.replicate q 0 ++ m.delay).take 196609 } else m

/-- The state of an operation whose instance is stopped or retired: as it stood before, with zeros in what it keeps by index. -/
def State.skipOp (s : State) (r : QRun) (i : Nat) (o : Op) : State :=
  let zeros := List.replicate o.nout s.zeros
  let s1 :=
    if isReed o.kind then
      let m := s.reedStart r i o
      let k := m.1.skipped o s.q (r.first s.q)
      k.2.foldl (fun (s : State) x => s.reedRecord i x) ((s.switchDeferred i (r.first s.q) m.2).putMem i ⟨r.ord, o, .reed k.1⟩)
    else match o.kind with
      | 0x18 =>
        (match AMap.find r.cfg.serpent.objs o.objNo with
         | none => s
         | some c =>
           let h := (s.zeros ++ s.objHist r i o.objNo c).take 8192
           { s with audio := { s.audio with objs := AMap.put s.audio.objs o.objNo { (s.objMem o.objNo c) with hist := h, op := some i } } }).putMem i
           ⟨r.ord, o, .plain⟩
      | 0x20 =>
        let m := s.convStart r i o
        let h := (s.zeros ++ m.2.1).take convKeep
        s.putMem i ⟨r.ord, o, .conv m.1 h (pushSpectra o s.q (r.first s.q) h m.2.2)⟩
      | 0x28 =>
        let chans := (span o.dikeFirst o.dikeCount).map fun ch => (ch, (AMap.find r.cfg.dike ch).getD (dikeNew o ch (r.first s.q)))
        s.dikeClose r i o (chans.map fun c => (c.1, (s.dikeStart r i c.1 c.2).zeroed s.q))
      | _ => s
  s1.giveOuts r i zeros

/-- An instance is not run to its end: its outputs are zeros (R245, R246). -/
def State.skipInst (s : State) (r : QRun) : Inst → State
  | .op i => match r.graph.op i with | some o => s.skipOp r i o | none => s
  | .pass p => (r.graph.stageOps p).foldl (fun (s : State) x => s.giveOuts r x.1 (List.replicate x.2.nout s.zeros)) s
  | .tier _ _ _ => s

end Sys2Proof.Machine
end

