-- ==== Sys2Proof/Machine/Polder.lean ====
section
/-! DEFINITION. Polders: their states and what moves them (R491 to R493). -/
namespace Sys2Proof.Machine

/-- Code of a polder state (Table 17-7). -/
def PolderState.code : PolderState → Nat
  | .off => 0 | .fill => 1 | .on => 2 | .retain => 3

/-- Change every polder by its number. -/
def State.eachPolder (s : State) (f : Nat → PolderState → PolderState) : State :=
  { s with mem := { s.mem with polders := s.mem.polders.zipIdx.map fun (x : PolderState × Nat) => f x.2 x.1 } }

/-- The domain of polder p is on (Table 01-7). -/
def State.polderPowered (s : State) (p : Nat) : Bool := s.pd.testBit (if p < 16 then 3 else 4)

/-- What a graph allocates in the convolution and object-history areas. -/
def Graph.polderKey (g : Graph) : List (Nat × Nat) :=
  ((g.ofKind 0x20).map fun x => (x.2.convChan, convCovered x.2.convPlan x.2.convRes)) ++ (g.ofKind 0x18).map fun x => (1024 + x.2.objNo, 0)

/-- Octets of the convolution area that a graph allocates: 12 for each covered tap; at 88.2 and 96 kHz the tail partitions lie in DRAM
(R184, R185). -/
def Graph.convOctets (g : Graph) (high : Bool) : Nat :=
  nsum ((g.ofKind 0x20).map fun x =>
    let covered := convCovered x.2.convPlan x.2.convRes
    12 * if high then min (8192 - planDelay x.2.convPlan) covered else covered)

/-- At least n of some polders: those that the device's placement names, and the lowest others where they are too few for the octets.
The placement is free (log entry 4); where n is 0 nothing is allocated. -/
def placedIn (n : Nat) (chosen : Nat → Bool) (ps : List Nat) : List Nat :=
  if n = 0 then []
  else let held := ps.filter chosen; held ++ (ps.filter fun p => !chosen p).take (n - held.length)

/-- Size of a polder. -/
def polderOctets : Nat := 3 * 2 ^ 20

/-- Polders of the convolution area that hold octets of a graph: enough for all of them (R184, R491, R493). -/
def Graph.convPolders (g : Graph) (high : Bool) : List Nat :=
  placedIn (cdivN (g.convOctets high) polderOctets) (Config.polderHolds g.polderKey) (List.range 16)

/-- Polders 16 to 20 that hold object histories of a graph, 32 KiB each; 32 of them fit into polder 21 (R113, R491, R493). -/
def Graph.histPolders (g : Graph) : List Nat :=
  let n := (g.ofKind 0x18).length
  if n = 0 then [] else
    let ps := span 16 5
    placedIn (max (cdivN (32768 * (n - 32)) polderOctets) (b2n (ps.any (Config.polderHolds g.polderKey)))) (Config.polderHolds g.polderKey) ps

/-- A graph needs polder p; those of the graph and fixed areas are always on, polder 21 among them (R493). -/
def Graph.needsPolder (g : Graph) (high : Bool) (p : Nat) : Bool :=
  decide (21 ≤ p) || (g.convPolders high).contains p || g.histPolders.contains p

/-- A graph was accepted: the polders it needs are switched on (R493). -/
def State.poldersFor (s : State) (g : Graph) : State :=
  s.eachPolder fun p x => if decide (x = .off) && g.needsPolder s.highRate p && s.polderPowered p then .fill else x

/-- A graph replacement takes effect: polders that hold nothing are off, those it needs are on (R493). -/
def State.poldersReplaced (s : State) (g : Graph) : State :=
  s.eachPolder fun p x => if !s.polderPowered p then x else if g.needsPolder s.highRate p then (if x = .retain then .retain else .on) else .off

/-- The polders whose return from RETAIN has started. -/
def State.putWaking (s : State) (ps : List Nat) : State := { s with mem := { s.mem with waking := ps } }

/-- With BMX_CTL.RETAIN, a stop puts the polders of the convolution and object-history areas into retention (R493). -/
def State.poldersRetained (s : State) : State :=
  if bitOf (s.reg rBmxCtl) 0 then (s.putWaking []).eachPolder fun p x => if decide (p < 21) && decide (x = .on) then .retain else x else s

/-- They return before the first quantum of the next start (R493). -/
def State.poldersReturned (s : State) : State := (s.putWaking []).eachPolder fun _ x => if x = .retain then .on else x

/-- An access to polders: one that is OFF starts its FILL, one in RETAIN its return (R28, R492). -/
def State.touchPolders (s : State) (ps : List Nat) : State :=
  let back := (ps.filter fun p => decide (s.mem.polders.getD p .off = .retain) && !s.mem.waking.contains p).eraseDups
  (s.putWaking (s.mem.waking ++ back)).eachPolder fun p x => if ps.contains p && decide (x = .off) && s.polderPowered p then .fill else x

/-- No access to these polders waits: each of them is ON (R492). -/
def State.poldersOn (s : State) (ps : List Nat) : Bool := ps.all fun p => decide (s.mem.polders.getD p .off = .on)

/-- POLDER_READY: a polder completes FILL, or the return from RETAIN that an access started (R492). -/
def polderReady (p : Nat) (s : State) : State :=
  (s.putWaking (s.mem.waking.filter fun x => decide (x ≠ p))).eachPolder fun n x =>
    if decide (n = p) && (decide (x = .fill) || (decide (x = .retain) && s.mem.waking.contains p)) then .on else x

end Sys2Proof.Machine
end

