-- ==== Sys2Proof/Machine/Sched.lean ====
section
/-! DEFINITION. The graph scheduler: readiness, ready lists and bitmap, dispatch, completion, delay lists and the tick, wait
limits, sink deadlines and the halt (R233 to R253, R163, R186, R445). -/
namespace Sys2Proof.Machine

/-! ### Ready lists (R236, R238) -/

/-- The key order of a ready list: earlier deadline, higher rank, lower op id. -/
def ReadyEntry.before (a b : ReadyEntry) : Bool :=
  decide (a.due < b.due) || (decide (a.due = b.due) && (decide (b.rank < a.rank) || (decide (a.rank = b.rank) && decide (a.opId ≤ b.opId))))

/-- Size of the pool. -/
def poolSize : Nat := 4096

/-- An entry enters the pool: its occupancy, the peak and the watermark (Table 08-5). -/
def State.poolAdd (s : State) (e : ReadyEntry) : State :=
  let ready := insertBy ReadyEntry.before e s.audio.ready
  let n := ready.length
  let s1 := { s with audio := { s.audio with ready := ready } }
  let s2 := s1.setFld rSchReady 28 16 (max (s.regFld rSchReady 28 16) n)
  if s.regFld rSchCtl 27 16 ≤ n then s2.setEvt rSchEvt 3 else s2

/-- An instance becomes ready: it enters its list, or the bitmap when the pool is full or a bit is set (R238). -/
def State.makeReady (s : State) (e : ReadyEntry) : State :=
  if decide (poolSize ≤ s.audio.ready.length) || !s.audio.bitmap.isEmpty then
    ({ s with audio := { s.audio with bitmap := s.audio.bitmap ++ [e] } }.bump rSchOvfcnt).setEvt rSchEvt 4
  else s.poolAdd e

/-- The lowest set bit of the earliest quantum: its sink deadline is the earliest. -/
def lowestBit : List ReadyEntry → Option ReadyEntry
  | [] => none
  | e :: es => match lowestBit es with
    | none => some e
    | some f => if decide (f.due < e.due) || (decide (f.due = e.due) && decide (f.opId < e.opId)) then some f else some e

/-- Entries move from the bitmap while the pool has room. -/
def State.refill (s : State) : Nat → State
  | 0 => s
  | n + 1 =>
    if poolSize ≤ s.audio.ready.length then s
    else match lowestBit s.audio.bitmap with
      | none => s
      | some e => State.refill ({ s with audio := { s.audio with bitmap := s.audio.bitmap.erase e } }.poolAdd e) n

/-- Take an entry out of the pool; the bitmap moves up. -/
def State.poolTake (s : State) (e : ReadyEntry) : State :=
  { s with audio := { s.audio with ready := s.audio.ready.erase e } }.refill (s.audio.bitmap.length)

/-! ### Dependencies (R234, R235) -/

/-- The instance in which a node's work is done. -/
def instOf (x : Nat) : Inst := if 16384 ≤ x then .pass (x - 16384) else .op x

/-- The node of an instance. -/
def Inst.node : Inst → Nat
  | .op i => i
  | .pass p => passNode p
  | .tier i _ _ => i

/-- The operations of an instance; of a stage pass, those not cancelled (R249). -/
def QRun.opsOf (r : QRun) (q : Nat) : Inst → List Nat
  | .op i => [i]
  | .pass p => ((r.graph.stageOps p).filter fun x => !r.cfg.cancelled x.1 (r.first q)).map Prod.fst
  | .tier _ _ _ => []

/-- Op id under which an instance stands in lists and logs. -/
def QRun.opId (r : QRun) (q : Nat) (i : Inst) : Nat := ((r.opsOf q i).head?).getD i.node

/-- The ready list of an instance (R236). -/
def QRun.listOf (r : QRun) : Inst → Nat
  | .pass _ => 8
  | .tier _ _ _ => 6
  | .op i => match r.graph.op i with
    | none => 8
    | some o =>
      if isReed o.kind then AMap.getD ((r.cfg.graph.map (·.clusters)).getD []) i 0
      else if o.kind = 0x20 then 6 else if decide (o.kind = 0x18) || decide (o.kind = 0x19) then 7 else if o.kind = 0x28 then 9 else 8

/-- The ready-list entry of an instance. -/
def State.entryOf (s : State) (r : QRun) (i : Inst) : ReadyEntry :=
  { list := r.listOf i, due := s.deadlineIndex r.k + r.shift, rank := AMap.getD ((r.cfg.graph.map (·.ranks)).getD []) i.node 0,
    opId := r.opId s.q i, k := r.k, inst := i }

/-- The quantum before one. -/
def State.runBefore (s : State) (r : QRun) : Option QRun := s.audio.runs.find? fun x => decide (x.ord + 1 = r.ord)

/-- The object that an instance renders is still to be evaluated for a quantum (R96). -/
def QRun.evaluates (x : QRun) (r : QRun) (i : Inst) : Bool := (r.graph.op i.node).any fun o => decide (o.kind = 0x18) && x.evals.contains o.objNo

/-- All that an instance waits for is complete: in its quantum, and its operation's work for the quanta before (R96, R128, R234). -/
def State.depsDone (s : State) (r : QRun) (i : Inst) : Bool :=
  ((r.graph.deps i.node).all fun y => !r.open_.contains (instOf y)) &&
  s.audio.runs.all fun x => decide (r.ord ≤ x.ord) || (!x.open_.contains i && !x.evaluates r i)

/-- Make ready what waits for nothing any more in one quantum. -/
def State.wakeRun (s : State) (ord : Nat) : State :=
  match s.runOf ord with
  | none => s
  | some r =>
    let go := r.todo.filter fun i => s.depsDone r i
    (go.foldl (fun (s : State) i => s.makeReady (s.entryOf r i)) s).updRun ord fun x => { x with todo := x.todo.filter fun i => !go.contains i }

/-- Make ready whatever waits for nothing any more, oldest quantum first (R235). -/
def State.wake (s : State) : State := (s.audio.runs.map (·.ord)).foldl State.wakeRun s

/-- A quantum whose sinks are judged and whose instances are all complete leaves. -/
def State.sweepRuns (s : State) : State :=
  { s with audio := { s.audio with runs := s.audio.runs.filter fun r => !(r.judged && r.open_.isEmpty && r.evals.isEmpty) } }

/-- An operation of a quantum has an instance that renders an object there. -/
def QRun.objRuns (r : QRun) (q n : Nat) : Bool := (r.graph.objectOp n).any fun x => !r.cfg.cancelled x.1 (r.first q)

/-- An earlier quantum's evaluation of an object is outstanding. -/
def State.evalWaits (s : State) (r : QRun) (n : Nat) : Bool :=
  s.audio.runs.any fun x => decide (x.ord < r.ord) && (x.evals.contains n || (x.graph.objectOp n).any fun o => x.open_.contains (.op o.1))

/-- Evaluate the objects of a quantum that no operation renders there, each after its evaluations of the quanta before (R85, R96). -/
def State.evalRun (s : State) (ord : Nat) : State :=
  match s.runOf ord with
  | none => s
  | some r =>
    let go := r.evals.filter fun n => !s.evalWaits r n
    (go.foldl (fun (s : State) n => match AMap.find r.cfg.serpent.objs n with
      | some o => (s.evalObj r.cfg.serpent n o (r.first s.q)).1
      | none => s) s).updRun ord fun x => { x with evals := x.evals.filter fun n => !go.contains n }

/-- Evaluate what waits for nothing any more, oldest quantum first. -/
def State.evalOthers (s : State) : State := (s.audio.runs.map (·.ord)).foldl State.evalRun s

/-- An instance is recorded complete, or stood in for. -/
def State.closeInst (s : State) (ord : Nat) (i : Inst) : State :=
  ((s.updRun ord fun x => { x with open_ := x.open_.erase i, todo := x.todo.erase i }).evalOthers.wake).sweepRuns

/-! ### Delay lists (R163, R242, R243): tiers 0 to 2 of the CVE, and as tier 3 the job of a SPECTRUM or METER_LOUDNESS operation -/

/-- The tier number under which a Reed operation's job stands. -/
def reedTier : Nat := 3

/-- The entry of a Reed operation's job for block b: released at the readiness time of the quantum with its last sample, due at the sink
deadline of the quantum with the last sample of the next. The spec gives neither time (DESIGN CHOICE, log entry 68). -/
def State.reedEntry (s : State) (i : Nat) (o : Op) (b : Int) : DelayEntry :=
  let n : Int := o.jobLen
  { op := i, tier := reedTier, block := b, release := s.readyIndex (s.quantumOf ((b + 1) * n - 1)), due := s.deadlineIndex (s.quantumOf ((b + 2) * n - 1)) }

/-- A delay-list entry for block b of a tier. -/
def State.delayEntry (s : State) (i : Nat) (o : Op) (t : Nat) (b : Int) : DelayEntry :=
  let bs : Int := (2 ^ tierLg t : Nat)
  let start := (blockPhase o.convChan s.q t : Int) + b * bs
  { op := i, tier := t, block := b, release := s.readyIndex (s.quantumOf (start + bs - 1)),
    due := s.deadlineIndex (s.quantumOf (start + (tierParts o.convPlan o.convRes t).1)) }

/-- The entry of an operation's next job. -/
def State.entryFor (s : State) (i : Nat) (o : Op) (t : Nat) (b : Int) : DelayEntry :=
  if t = reedTier then s.reedEntry i o b else s.delayEntry i o t b

/-- The first block of a tier that ends at or after an index. -/
def State.firstBlock (s : State) (o : Op) (t : Nat) (first : Int) : Int :=
  fdivI (first - blockPhase o.convChan s.q t) (2 ^ tierLg t : Nat)

/-- The entries of a graph, each with the first block that ends in a quantum from `first` on. -/
def State.delaysOf (s : State) (g : Graph) (first : Int) : List DelayEntry :=
  ((g.ofKind 0x20).flatMap fun x => (convTiers x.2.convPlan x.2.convRes).map fun t => s.delayEntry x.1 x.2 t.1 (s.firstBlock x.2 t.1 first)) ++
  (g.reedJobs s.q).map fun x => s.reedEntry x.1 x.2 (fdivI first x.2.jobLen)

/-- The entry goes on to its next job. -/
def State.nextJob (s : State) (e : DelayEntry) : DelayEntry :=
  match s.cfg.graph.bind fun a => a.graph.op e.op with
  | some o => s.entryFor e.op o e.tier (e.block + 1)
  | none => e

/-- Put a delay-list entry in the place of its predecessor. -/
def State.putDelay (s : State) (e : DelayEntry) : State :=
  let l := s.audio.delays.map fun d => if decide (d.op = e.op) && decide (d.tier = e.tier) then e else d
  { s with audio := { s.audio with delays := l } }

/-- A job's entry is re-inserted when the job ends (R243). -/
def State.jobEnded (s : State) (i t : Nat) (b : Int) : State :=
  match s.audio.delays.find? fun d => decide (d.op = i) && decide (d.tier = t) && decide (d.block = b) && d.out with
  | none => s
  | some d => s.putDelay (s.nextJob d)

/-- The ready list of a delay-list entry's job: the CVE's, or that of the operation's Reed cluster. -/
def State.jobList (s : State) (d : DelayEntry) : Nat :=
  if d.tier = reedTier then AMap.getD ((s.cfg.graph.map (·.clusters)).getD []) d.op 0 else 6

/-- Release one entry whose release tick has come: into its list, or later while the pool is full; the job of a cancelled
quantum is not run (R243, R249). -/
def State.releaseJob (s : State) (d : DelayEntry) : State :=
  if d.out || decide (s.index < d.release) then s
  else if s.cfg.cancelled d.op (d.release - 1 - s.q) then s.putDelay (s.nextJob d)
  else if poolSize ≤ s.audio.ready.length then s
  else
    let rank := AMap.getD ((s.cfg.graph.map (·.ranks)).getD []) d.op 0
    (s.poolAdd ⟨s.jobList d, d.due, rank, d.op, s.quantumOf (d.release - 1 - s.q), .tier d.op d.tier d.block⟩).putDelay { d with out := true }

/-- Processing goes on: RUNNING, or the ramps of a stop (R201). -/
def State.processing (s : State) : Bool := decide (s.run = .running) || (decide (s.run = .ready) && s.cfg.stopRamp.isSome)

/-- SCHEDULER_TICK (R243). -/
def schedulerTick (s : State) : State :=
  let t := Int.fdiv s.ns 1000
  if s.processing && decide (s.audio.tick < t) then
    let order := sortBy (fun (a b : DelayEntry) => decide (a.due < b.due) || (decide (a.due = b.due) && decide (a.op ≤ b.op))) s.audio.delays
    order.foldl State.releaseJob { s with audio := { s.audio with tick := t } }
  else s

/-! ### Readiness (R32, R235, R249) -/

/-- The index that counts for the next quantum: a step of labels moves it only from its boundary on (R36). -/
def State.indexSeen (s : State) (first : Int) : Int :=
  match s.audio.relabel with | some (b, d) => if first < b then s.index - d else s.index | none => s.index

/-- Number of the quantum after k (R36). -/
def State.quantumAfter (s : State) (k : Int) : Int × Option (Int × Int) :=
  match s.audio.relabel with
  | some (b, d) => if (k + 1) * s.q = b then (fdivI (b + d) s.q, none) else (k + 1, some (b, d))
  | none => (k + 1, none)

/-- The swap under way is over: the new filter is in force, its copy runs, and the swap accepted after it stands in its place (R176,
R177). -/
def ConvCfg.swapped (c : ConvCfg) : ConvCfg :=
  match c.swap with
  | some w => { c with filter := w.filter, swap := c.after, after := none, copying := c.copying ++ w.slot.toList, lastSwap := w.index }
  | none => c

/-- A swap whose crossfade ended by index n is over. -/
def ConvCfg.fold (c : ConvCfg) (n : Int) : ConvCfg := if c.swap.any fun w => decide (w.index + w.len ≤ n) then c.swapped else c

/-- R180: the new filter of every swap is in force when processing starts again; its slot is copied at once. -/
def ConvCfg.settle (c : ConvCfg) : ConvCfg := c.swapped.swapped

/-- The configuration with which the quantum from index n runs: what ended before it is gone (R87, R145, R251). -/
def Cfg.tidy (c : Cfg) (q : Nat) (n : Int) : Cfg :=
  { c with sluice := c.sluice.tidy q n, serpent := c.serpent.tidy q n, conv := AMap.mapVal c.conv fun v => v.fold n,
           dike := AMap.mapVal c.dike fun d => d.tidy n, cancels := c.cancels.filter fun x => decide (n < x.until_) }

/-- Receiving operations give what their input rings hold; a sample not supplied is 0 (R32). -/
def State.giveInputs (s : State) (r : QRun) (val : Nat → Int → Int) : State :=
  (r.graph.ops.filter fun x => isReceiver x.2.kind && !r.cfg.cancelled x.1 (r.first s.q)).foldl (fun (s : State) x =>
    s.giveOuts r x.1 (x.2.ringKeys.map fun key => (List.range s.q).map fun (j : Nat) => val key (r.first s.q + j))) s

/-- Operations cancelled in the quantum: outputs of zeros, and counted (R249). -/
def State.giveCancelled (s : State) (r : QRun) : State :=
  (r.graph.ops.filter fun x => r.cfg.cancelled x.1 (r.first s.q)).foldl (fun (s : State) x =>
    ((s.count 0x0E x.1).bump rSchCancelcnt).giveOuts r x.1 (List.replicate x.2.nout s.zeros)) s

/-- The instances of a quantum that the scheduler runs. -/
def QRun.insts (r : QRun) (q : Nat) : List Inst :=
  (r.graph.nodes.filter fun x =>
    if 16384 ≤ x then (r.graph.stageOps (x - 16384)).any fun o => !r.cfg.cancelled o.1 (r.first q)
    else !r.cfg.cancelled x (r.first q) && (r.graph.op x).all fun o => !isReceiver o.kind && !isTransmitter o.kind).map instOf

/-- Dispatch load of the quantum (R244, SCH_LOAD). -/
def State.noteLoad (s : State) (r : QRun) : State :=
  let g := r.graph
  let cycles := 4 * g.ops.length + g.edges.length + 2 * g.releases s.q r.k
  let load := min 1023 (rhe (cycles * s.fs * 1000) (s.q * 10 ^ 9)).toNat
  (s.setFld rSchLoad 9 0 load).setFld rSchLoad 25 16 (max load (s.regFld rSchLoad 25 16))

/-- Quantum k enters processing with the given input values (R235). -/
def State.beginQuantum (s : State) (k : Int) (val : Nat → Int → Int) : State :=
  let cfg := s.cfg.tidy s.q (k * s.q)
  let nx := s.quantumAfter k
  let shift : Int := match s.audio.relabel with
    | some x => if k * s.q < x.1 then x.2 else 0
    | none => 0
  let r : QRun := { k := k, ord := s.audio.ord, cfg := cfg, shift := shift }
  let others := (cfg.serpent.objs.filter fun x => !r.objRuns s.q x.1 && decide (x.2.created ≤ r.first s.q)).map Prod.fst
  let e := if s.periodEnd s.mperSet ((k + 1) * s.q) then s.mperSet else s.audio.mper
  let r1 := { r with todo := r.insts s.q, open_ := r.insts s.q, evals := others, closes := s.periodEnd e ((k + 1) * s.q) }
  let keep := k * s.q - 4096
  let rings := AMap.mapVal s.audio.rings fun l => l.filter fun x => decide (keep ≤ x.1)
  let audio := { s.audio with ord := s.audio.ord + 1, next := some nx.1, relabel := nx.2, rings := rings, runs := s.audio.runs ++ [r1], mper := e }
  let s1 := { s with cfg := cfg, audio := audio }
  ((((s1.giveInputs r val).giveCancelled r).evalOthers).noteLoad r).wake

/-- The stop ramps end with the quantum before index n: processing ends (R201). -/
def State.stopDone (s : State) : State :=
  match s.audio.next, s.cfg.stopRamp with
  | some k, some (_, e) =>
    if e ≤ k * s.q then
      let cfg := { s.cfg with stopRamp := none, conv := AMap.mapVal s.cfg.conv fun c => c.settle }
      { s with cfg := cfg, audio := { s.audio with next := none, relabel := none } }.poldersRetained
    else s
  | _, _ => s

/-- Quantum k is the next and has reached its readiness time. -/
def State.quantumDue (s : State) (k : Int) : Bool :=
  s.processing && decide (s.audio.next = some k) && decide (s.readyIndex k ≤ s.indexSeen (k * s.q)) &&
  (s.tu.servo.step.all fun st => decide (s.index < st.boundary))

/-! ### Dispatch (R239, R240) -/

/-- Engine slots taken by a list's instances. -/
def State.slotsOf (s : State) (l : Nat) : List Dispatched := s.audio.slots.filter fun d => decide (d.entry.list = l)

/-- The core of a Reed cluster to fill: an idle one first, else the one whose executing instance began earliest, then the
lowest index; none when every prefetched slot is taken (R239). -/
def State.coreFor (s : State) (l : Nat) : Option (Nat × Bool) :=
  let ds := s.slotsOf l
  let idle := (List.range 8).find? fun c => ds.all fun d => decide (d.core ≠ c)
  match idle with
  | some c => some (c, true)
  | none =>
    let free := (List.range 8).filter fun c => ds.all fun d => decide (d.core ≠ c) || d.executing
    let began := fun c => (ds.find? fun d => decide (d.core = c) && d.executing).elim 0 (·.began)
    (free.foldl (fun (b : Option Nat) c => match b with | none => some c | some x => if began c < began x then some c else some x) none).map fun c => (c, false)

/-- A free slot for a list's head: core and whether it executes at once. -/
def State.freeSlot (s : State) (l : Nat) : Option (Nat × Bool) :=
  if l ≤ 5 then s.coreFor l
  else
    let room := if l = 6 then 32 else if l = 7 then 16 else 1
    if (s.slotsOf l).length < room then some (0, true) else none

/-- Instances in engine slots; the Sluice and the Dike are sequenced (Table 08-1). -/
def State.inFlight (s : State) : Nat := (s.audio.slots.filter fun d => decide (d.entry.list ≤ 7)).length

/-- INSTANCE_DISPATCH: the head of a ready list takes a free slot (R239, R240). -/
def instanceDispatch (l : Nat) (s : State) : State :=
  match s.audio.ready.find? (fun e => decide (e.list = l)), s.freeSlot l with
  | some e, some (c, x) =>
    let s1 := s.poolTake e
    let s2 := { s1 with audio := { s1.audio with slots := s1.audio.slots ++ [(⟨e, c, x, s.now, s.now⟩ : Dispatched)] } }
    s2.setFld rSchInflight 23 16 (max (s.regFld rSchInflight 23 16) s2.inFlight)
  | _, _ => s

/-- A slot frees; the prefetched instance of its core starts (R239). -/
def State.freeUp (s : State) (d : Dispatched) : State :=
  let rest := s.audio.slots.erase d
  let go := fun (x : Dispatched) =>
    if d.executing && decide (d.entry.list ≤ 5) && decide (x.entry.list = d.entry.list) && decide (x.core = d.core) then { x with executing := true, began := s.now } else x
  { s with audio := { s.audio with slots := rest.map go } }

/-- The dispatched instance of a quantum. -/
def State.dispatched (s : State) (k : Int) (i : Inst) : Option Dispatched :=
  s.audio.slots.find? fun d => decide (d.entry.k = k) && decide (d.entry.inst = i)

/-- The quantum in flight with a number. -/
def State.runNumbered (s : State) (k : Int) : Option QRun := s.audio.runs.find? fun r => decide (r.k = k)

/-! ### Tier outputs that come late (R186) -/

/-- Blocks of a CONVOLVE operation that a quantum needs and that are not complete, tier and block: at the quantum's sink deadline they
are late (R163, R186). -/
def State.lateBlocks (s : State) (r : QRun) (i : Nat) (o : Op) : List (Nat × Int) :=
  match AMap.find s.audio.mem i with
  | none => []
  | some m => match m.st with
    | .conv start _ tiers => if convSame m.op o then blocksMissing tiers o.convChan s.q o.convPlan o.convRes start (r.first s.q) else []
    | _ => []

/-- Blocks of an operation are missed. -/
def State.missBlocks (s : State) (i : Nat) (ms : List (Nat × Int)) : State :=
  let f := fun (m : OpMem) => match m.st with
    | .conv a h tiers => { m with st := .conv a h (markMissed tiers ms) }
    | _ => m
  { s with audio := { s.audio with mem := AMap.upd s.audio.mem i f } }

/-- CONV_LATE once per block, but for a cancelled operation (R186, R249). -/
def State.convLate (s : State) (r : QRun) : State :=
  (r.graph.ofKind 0x20).foldl (fun (s : State) x =>
    let late := s.lateBlocks r x.1 x.2
    (if r.cfg.cancelled x.1 (r.first s.q) then [] else late).foldl (fun (s : State) b =>
      (s.count 0x05 x.2.convChan).logAt evConvLate (r.first s.q) [x.2.convChan, b.1]) (s.missBlocks x.1 late)) s

/-- An instance waits for a tier output that is neither complete nor late (R186). -/
def State.waitsForTier (s : State) (r : QRun) (i : Nat) : Bool :=
  match r.graph.op i with | some o => decide (o.kind = 0x20) && !(s.lateBlocks r i o).isEmpty | none => false

/-! ### Completion -/

/-- The job of a Reed operation can complete: the operation's instances of the quanta that give its samples are (R228, R229). -/
def State.jobReady (s : State) (d : Dispatched) (op : Nat) : Bool :=
  s.audio.runs.all fun r => decide (d.entry.k < r.k) || !r.open_.contains (.op op)

/-- INSTANCE_COMPLETE: the instance's work is done and what waited for it becomes ready (R235); a CONVOLVE operation is not done while a
tier output that it needs can still come in time (R186). -/
def instanceComplete (k : Int) (i : Inst) (s : State) : State :=
  match s.dispatched k i with
  | none => s
  | some d =>
    if !d.executing then s
    else match i with
      | .tier op t b =>
        if t = reedTier then (if s.jobReady d op then (s.freeUp d).jobEnded op t b else s)
        else if s.tierReady op t b then ((s.freeUp d).tierDone op t b).jobEnded op t b else s
      | .pass p => match s.runNumbered k with
        | none => s.freeUp d
        | some r => ((s.freeUp d).runPass r p).closeInst r.ord (.pass p)
      | .op x => match s.runNumbered k with
        | none => s.freeUp d
        | some r => if s.waitsForTier r x then s else ((s.freeUp d).runOp r x).closeInst r.ord (.op x)

/-! ### Wait limits (R245) -/

/-- Worst-case duration of an instance in 1/32 cycles (R237). -/
def State.instDuration (s : State) (r : Option QRun) : Inst → Nat
  | .tier i t _ => match s.cfg.graph.bind fun a => a.graph.op i with
    | some o => if t = reedTier then 32 * reedCycles o s.q else 2 * tierJobCost t (tierParts o.convPlan o.convRes t).2
    | none => 0
  | i => match r with
    | some x => x.graph.nodeDuration s.q (fun n => (AMap.find x.cfg.serpent.objs n).elim 32 fun o => (o.setAt (x.first s.q)).fmax) i.node
    | none => 0

/-- Wait limit in ns: a multiple of the duration, at least 4 µs, in whole ticks (R245). -/
def State.waitLimit (s : State) (r : Option QRun) (i : Inst) : Nat :=
  let ns := max 4000 (cdivN (max 2 (s.regFld rSchCtl 3 0) * s.instDuration r i) 32)
  cdivN ns 1000 * 1000

/-- Engine code of Table 18-5 for WAIT_TIMEOUT. -/
def engineCode (l : Nat) : Nat := if l ≤ 5 then 8 + l else if l = 6 then 3 else 2

/-- WAIT_TIMEOUT: a dispatched instance over its limit is stopped (R245). -/
def waitTimeout (k : Int) (i : Inst) (s : State) : State :=
  match s.dispatched k i with
  | none => s
  | some d =>
    let r := s.runNumbered k
    if decide (7 < d.entry.list) || decide ((s.now - d.since) * 5 < 2 * s.waitLimit r i) then s
    else
      let s1 := (((s.freeUp d).count 0x0D d.entry.opId).bump rSchWaittocnt).setEvt rSchEvt 2
      let s2 := s1.logAt evWaitTimeout (k * s.q) [d.entry.opId, engineCode d.entry.list]
      match i, r with
      | .tier op t b, _ => s2.jobEnded op t b
      | _, some x => (s2.skipInst x i).closeInst x.ord i
      | _, none => s2

/-! ### Sink deadlines (R246 to R248) -/

/-- An edge's source is complete in its quantum; a delayed edge reads earlier quanta. -/
def QRun.edgeDone (r : QRun) (e : Edge) : Bool := !e.direct || !r.open_.contains (instOf (r.graph.node e.src))

/-- A sink's input is complete. -/
def QRun.sinkDone (r : QRun) (i port : Nat) : Bool := match r.graph.into i port with | none => true | some e => r.edgeDone e

/-- A sink is fed by a Dike channel (R201). -/
def QRun.dikeFed (r : QRun) (i port : Nat) : Bool :=
  (r.graph.into i port).any fun e => (r.graph.op e.src).any fun o => decide (o.kind = 0x28)

/-- The sinks of a quantum: op ids and ports, rising. -/
def QRun.sinks (r : QRun) : List (Nat × Nat) :=
  (r.graph.ops.filter fun x => isTransmitter x.2.kind).flatMap fun x => (List.range x.2.nin).map fun p => (x.1, p)

/-- A sink's computed input over a quantum: a sink that no Dike channel feeds ramps at a stop over 64 samples (R201). -/
def State.sinkInput (s : State) (r : QRun) (i port : Nat) : List Int :=
  let xs := s.inputOf r i port
  match r.cfg.stopRamp with
  | some (b, _) =>
    if r.dikeFed i port then xs
    else xs.zipIdx.map fun (x : Int × Nat) =>
      if r.first s.q + (x.2 : Int) < b then x.1 else rhe (x.1 * Ramp.at_ ⟨b, 64, 2 ^ 30, 0⟩ (r.first s.q + (x.2 : Int))) (2 ^ 30)
  | none => xs

/-- Values of a sink over a quantum that starts at position p, with the run of misses after it (R247, Table 08-3). -/
def sinkValues (m : Option MissRun) (lastOut : Int) (done : Bool) (p : Int) (xs : List Int) : List Int × Option MissRun :=
  if done then
    match m with
    | none => (xs, none)
    | some m =>
      let e := m.resume.getD p
      (xs.zipIdx.map fun (x : Int × Nat) => let j := p + (x.2 : Int) - e; if j < 8 then rhe (x.1 * (j + 1)) 8 else x.1,
       if e + 8 ≤ p + xs.length then none else some { m with resume := some e })
  else
    let run : MissRun := match m with | some x => if x.resume = none then x else ⟨p, lastOut, none⟩ | none => ⟨p, lastOut, none⟩
    (xs.zipIdx.map fun (x : Int × Nat) => let j := p + (x.2 : Int) - run.start; if j < 7 then rhe (run.last * (7 - j)) 8 else 0, some run)

/-- Store a sink's values, and give them to its port. -/
def State.putSink (s : State) (r : QRun) (x : Nat × Nat) (vs : List Int) (m : Option MissRun) : State :=
  let key := sinkKey x.1 x.2
  let dest := ((r.graph.op x.1).elim [] Op.sendKeys).getD x.2 0
  let ring := (vs.zipIdx.map fun (v : Int × Nat) => (r.first s.q + r.shift + (v.2 : Int), v.1)).reverse ++ AMap.getD s.audio.outs dest []
  let misses := match m with | some x => AMap.put s.audio.misses key x | none => AMap.del s.audio.misses key
  { s with audio := { s.audio with outs := AMap.put s.audio.outs dest (ring.take 1024), misses := misses,
                                   lastOut := AMap.put s.audio.lastOut key (vs.getLast?.getD 0) } }

/-- Judge one sink; the answer says whether it missed. -/
def State.judgeSink (s : State) (r : QRun) (x : Nat × Nat) : State × Bool :=
  let key := sinkKey x.1 x.2
  if r.cfg.cancelled x.1 (r.first s.q) then (s.putSink r x s.zeros none, false)
  else
    let done := r.sinkDone x.1 x.2
    let v := sinkValues (AMap.find s.audio.misses key) (AMap.getD s.audio.lastOut key 0) done ((r.ord * s.q : Nat) : Int)
      (if done then s.sinkInput r x.1 x.2 else s.zeros)
    (s.putSink r x v.1 v.2, !done)

/-- Judge every sink of a quantum: the sinks that missed. -/
def State.judgeSinks (s : State) (r : QRun) : State × List (Nat × Nat) :=
  r.sinks.foldl (fun a x => let b := a.1.judgeSink r x; (b.1, if b.2 then a.2 ++ [x] else a.2)) (s, [])

/-- Counts and the log entry of a quantum's misses (R248). -/
def State.reportMisses (s : State) (r : QRun) (ms : List (Nat × Nat)) : State :=
  match ms with
  | [] => s
  | m :: _ =>
    let s1 := ms.foldl (fun (s : State) x => if x.2 < 128 then s.count 0x0B (x.1 * 128 + x.2) else s) s
    let s2 := (((s1.bump rSchMisscnt ms.length).setReg rSchLastmiss (lo32 (r.first s.q))).setReg rSchLastop (w32 (m.1 + m.2 * 65536))).setEvt rSchEvt 0
    s2.logAt evDeadlineMiss (r.first s.q) [ms.length, opPort m.1 m.2, 0]

/-- An instance two quanta late is retired (R246, R248). -/
def State.retireInst (s : State) (r : QRun) (i : Inst) : State :=
  let s1 := match s.dispatched r.k i with | some d => s.freeUp d | none => s
  let s2 := match (s1.audio.ready.find? fun e => decide (e.k = r.k) && decide (e.inst = i)) with | some e => s1.poolTake e | none => s1
  let s3 := { s2 with audio := { s2.audio with bitmap := s2.audio.bitmap.filter fun e => !(decide (e.k = r.k) && decide (e.inst = i)) } }
  let s4 := (r.opsOf s.q i).foldl (fun (s : State) x =>
    (((s.count 0x0C x).bump rSchRetirecnt).setEvt rSchEvt 1).logAt evDeadlineMiss (r.first s.q) [0, opPort x 0, 1]) s3
  s4.skipInst r i

/-- Retire what a quantum left incomplete, in graph order. -/
def State.retireRun (s : State) (r : QRun) : State :=
  let order := ((r.graph.order.getD []).map instOf).filter r.open_.contains
  let s1 := order.foldl (fun (s : State) i => s.retireInst r i) s
  ((s1.updRun r.ord fun x => { x with open_ := [], todo := [] }).evalOthers.wake).sweepRuns

/-- Quantum k is in flight, not judged, and has reached its sink deadline. -/
def State.deadlineDue (s : State) (k : Int) : Option QRun :=
  s.audio.runs.find? fun r => decide (r.k = k) && !r.judged && decide (s.deadlineIndex k + r.shift ≤ s.index)

/-- Sink state of transmit operations kept with op id and kind (R54). -/
def keepSinks {α : Type} (old new : Graph) (m : AMap α) : AMap α :=
  m.filter fun x => (new.op (x.1 / 256)).any fun o => isTransmitter o.kind && (old.op (x.1 / 256)).any fun p => decide (p.kind = o.kind)

/-- The sinks' state goes from one graph to the next. -/
def Audio.keepSinks (a : Audio) (old new : Graph) : Audio :=
  if old = new then a else { a with misses := Machine.keepSinks old new a.misses, lastOut := Machine.keepSinks old new a.lastOut }

/-- After the last quantum of a graph has been judged, its sinks' state goes to the graph of the next quantum. -/
def State.passSinks (s : State) (r : QRun) : State :=
  match s.runOf (r.ord + 1) with
  | some x => { s with audio := s.audio.keepSinks r.graph x.graph }
  | none => s

/-- After a stop no quantum follows the last one: at the sink deadline that quantum k would have, what quantum k − 1 left incomplete is to be
retired (R246). -/
def State.lastRun (s : State) (k : Int) : Option QRun :=
  s.audio.runs.find? fun r => decide (r.k + 1 = k) && r.judged && s.audio.next.isNone && s.audio.runs.all (fun x => decide (x.ord ≤ r.ord)) &&
    decide (s.deadlineIndex k + r.shift ≤ s.index)

/-- The scheduler's part of SINK_DEADLINE: sinks miss or are taken, the quantum before is retired (R246 to R248). -/
def State.deadline (s : State) (r : QRun) : State :=
  let j := s.judgeSinks r
  let s1 := ((j.1.reportMisses r j.2).convLate r).passSinks r
  let s2 := s1.updRun r.ord fun x => { x with judged := true }
  match s2.runBefore r with
  | some b => (s2.retireRun b).sweepRuns
  | none => s2.sweepRuns

/-! ### Steps of device time while processing (R36) -/

/-- Labels move by d samples from boundary b on: in-flight quanta keep theirs, samples given go on under the new ones, and
delay-list entries take their next job in the new labels. -/
def State.relabelled (s : State) (b d : Int) : State :=
  let outs := AMap.mapVal s.audio.outs fun l => l.map fun v => (v.1 + d, v.2)
  match s.audio.next with
  | none => { s with audio := { s.audio with outs := outs } }
  | some k =>
    let here := decide (b ≤ k * s.q)
    let next := if here then fdivI (k * s.q + d) s.q else k
    let runs := s.audio.runs.map fun r => { r with shift := r.shift + d }
    let delays := match s.cfg.graph with | some a => s.delaysOf a.graph (if here then next * s.q else b + d) | none => []
    let moved := fun (e : ReadyEntry) => { e with due := e.due + d }
    { s with audio := { s.audio with next := some next, relabel := if here then none else some (b, d), runs := runs, outs := outs, delays := delays,
                                     ready := s.audio.ready.map moved, bitmap := s.audio.bitmap.map moved,
                                     slots := s.audio.slots.map fun x => { x with entry := moved x.entry } } }

/-! ### HALTED (R445) -/

/-- Engines let go of all work in flight; samples that completed quanta gave stay for the transmitters. -/
def Audio.stop (a : Audio) : Audio :=
  { a with runs := [], next := none, relabel := none, ready := [], bitmap := [], slots := [], misses := [], lastOut := [] }

/-- HALT: the device can no longer process, for a reason of Table 15-6 (R445). -/
def State.halted (s : State) (reason : Nat) : State :=
  if s.run = .running then
    { s with run := .halted, halt := reason, cfg := { s.cfg with stopRamp := none }, audio := s.audio.stop }.logNow evHalt [reason]
  else s

end Sys2Proof.Machine
end

