-- ==== Sys2Proof/Machine/Apply.lean ====
section
/-! DEFINITION. How each accepted change of the engines takes effect at its index: start and stop, graph replacement, cancellation,
layout, mesh and objects, routes, buses and gains, filters, the output stage (R36 to R38, R53, R54, R60, R62, R80, R86, R87, R97,
R117 to R119, R133 to R156, R159, R179 to R181, R198 to R202, R207, R208, R249, R251, R447, R462, R568). Each answers none when an
earlier change removed its target, so that it is dropped (R60). -/
namespace Sys2Proof.Machine

/-- The graph in force. -/
def State.graphNow (s : State) : Graph := match s.cfg.graph with | some a => a.graph | none => {}

/-- F_max of the object that an OBJECT operation names, as admission counts it (R84, R85). -/
def State.fmaxAt (s : State) (n : Int) (i : Nat) : Nat :=
  if s.cfg.serpent.objAt s.q i n then (AMap.find s.cfg.serpent.objs i).elim 32 fun o => (o.setAt n).fmax else 32

/-- Log a deferred change with its channel, tag and target (R568). -/
def State.deferred (s : State) (p : Packet) (n : Int) (target : Nat) : State := s.logAt evApplyDeferred n [shownChannel p.ch, p.tag.toNat, target]

/-- The index at which a change takes effect (R63). -/
def State.effIndex (s : State) (c : Change) : Int := if c.quantum then s.boundaryFrom c.index else c.index

/-- The graph that will be in force at an index: the last accepted one whose boundary is not later (R53, R147). -/
def State.graphAt (s : State) (n : Int) : Graph :=
  (s.changes.foldl (fun (b : Int × Graph) c =>
    match c.graph with
    | some g => if decide (s.effIndex c ≤ n) && decide (b.1 ≤ s.effIndex c) then (s.effIndex c, g) else b
    | none => b) (min n (s.boundaryFrom n) - s.q * 2 ^ 40, s.graphNow)).2

/-- Graphs accepted and not yet in force. -/
def State.pendingGraphs (s : State) : List Graph := s.changes.filterMap (·.graph)

/-- The first frame that has not begun. -/
def State.nextFrame (s : State) : Int := if s.startOf s.index = s.time then s.index else s.index + 1

/-! ### Start and stop (R37, R38, R150, R180, R201, R447) -/

/-- An object at a start: segments that ended before the first index are discarded, and the object is where they left it (R93, R94). -/
def ObjCfg.atStart (o : ObjCfg) (b : Int) : ObjCfg :=
  { o with base := (o.posAt (b - 1)).1, queue := o.queue.filter fun e => decide (b ≤ e.last) }

/-- A Dike channel at a start: an unmuted one ramps from 0 (R201). -/
def DikeChan.atStart (c : DikeChan) (b : Int) : DikeChan :=
  { c with trim := c.trim.settle, delay := c.delayTarget b, fades := [],
           mute := ⟨0, if c.muted then [] else [⟨b, max 8 (c.setAt b).defRamp, 0, 2 ^ 30⟩]⟩ }

/-- START_PROCESSING at boundary b: processing starts there with cleared state. -/
def applyStart (s : State) (b : Int) : Option State :=
  match s.run, s.cfg.graph with
  | .ready, some a =>
    let serpent := { s.cfg.serpent with objs := AMap.mapVal s.cfg.serpent.objs fun o => o.atStart b,
                                        coming := AMap.mapVal s.cfg.serpent.coming fun o => o.atStart b }
    let cfg := { s.cfg with sluice := s.cfg.sluice.settle, serpent := serpent, conv := AMap.mapVal s.cfg.conv fun c => c.settle,
                            dike := AMap.mapVal s.cfg.dike fun d => d.atStart b, stopRamp := none }
    let lines := (a.graph.edges.filter fun e => !e.direct).map fun e => ({ edge := e, from_ := s.audio.ord } : Line)
    let audio := { s.audio.stop with mem := [], objs := AMap.mapVal s.audio.objs fun m => { m with taps := [], dir := ⟨0, 0, 1⟩, hist := [], op := none },
                                     lines := lines, next := some (fdivI b s.q), delays := s.delaysOf a.graph b, mper := s.mperSet }
    some { s with run := .running, cfg := cfg, audio := audio }.poldersReturned
  | _, _ => none

/-- The index at which the stop ramps that begin at b have ended, a quantum boundary (R201). -/
def State.stopEnd (s : State) (b : Int) : Int :=
  let g := s.graphNow
  let lens := s.cfg.dike.vals.map fun c => max 8 (c.setAt b).defRamp
  let raw := g.ops.any fun x => isTransmitter x.2.kind && (List.range x.2.nin).any fun p =>
    !((g.into x.1 p).any fun e => (g.op e.src).any fun o => decide (o.kind = 0x28))
  s.boundaryFrom (b + (lens.foldl max (if raw then 64 else 0) : Nat))

/-- Open safe-load sets go (R70). -/
def State.dropSets (s : State) : State := { s with chans := AMap.mapVal s.chans fun c => { c with set := none } }

/-- STOP_PROCESSING of index n at boundary b: READY, and every cancellation ends there (R251); the ramps begin after the quantum that
contains n (R38, R201). In HALTED it ends the halt. -/
def applyStop (s : State) (n b : Int) : Option State :=
  match s.run with
  | .running =>
    let from_ := max b ((fdivI n s.q + 1) * s.q)
    let cancels := (s.cfg.cancels.filter fun c => decide (c.from_ < b)).map fun c => { c with until_ := min c.until_ b }
    some ({ s with run := .ready, cfg := { s.cfg with stopRamp := some (from_, s.stopEnd from_), cancels := cancels } }.dropSets)
  | .halted =>
    let cfg := { s.cfg with stopRamp := none, cancels := [], conv := AMap.mapVal s.cfg.conv fun c => c.settle }
    some ({ s with run := .ready, halt := 0, cfg := cfg }.dropSets.poldersRetained)
  | _ => none

/-! ### Graph replacement (R49, R53, R54, R149, R159, R181, R200, R251, R462) -/

/-- An operation keeps its state across a replacement (R54 and the rules it defers to). -/
def opKept (old new : Graph) (i : Nat) : Bool :=
  match old.op i, new.op i with
  | some a, some b =>
    decide (a.kind = b.kind) &&
    (if isReed b.kind then decide (reedSizes a = reedSizes b)
     else if b.kind = 0x20 then convSame a b
     else if b.kind = 0x18 then decide (a.objNo = b.objNo)
     else if b.kind = 0x28 then decide (a.dikeFirst = b.dikeFirst) && decide (a.dikeLa = b.dikeLa) && decide (a.dikeWidth = b.dikeWidth) && decide (a.dikeDly = b.dikeDly)
     else true)
  | _, _ => false

/-- Lines of the new graph's delayed edges: kept with their contents when the edge is unchanged and its source keeps its state (R49).
Behind them stand the lines that only a quantum in flight still reads. -/
def State.linesFor (s : State) (old new : Graph) : List Line :=
  let lines := (new.edges.filter fun e => !e.direct).map fun e =>
    match s.audio.lines.find? fun l => decide (l.edge = e) with
    | some l => if old.edges.contains e && opKept old new e.src then l else ({ edge := e, from_ := s.audio.ord } : Line)
    | none => { edge := e, from_ := s.audio.ord }
  lines ++ s.audio.lines.filter fun l => !lines.contains l && s.audio.runs.any fun r => r.graph.edges.contains l.edge

/-- Delay-list entries of the new graph; a kept CONVOLVE operation keeps its own. -/
def State.delaysFor (s : State) (old new : Graph) (b : Int) : List DelayEntry :=
  (s.delaysOf new b).map fun e =>
    if opKept old new e.op then (s.audio.delays.find? fun d => decide (d.op = e.op) && decide (d.tier = e.tier)).getD e else e

/-- CONVOLVE operations of the new graph that do not keep filter and history (R159). -/
def convChanged (old new : Graph) : List Nat := ((new.ofKind 0x20).map Prod.fst).filter fun i => !opKept old new i

/-- The slots of the swaps not over go back to PREPARED (R181). -/
def State.unswap (s : State) (c : ConvCfg) : State :=
  let back := (c.swap.toList ++ c.after.toList).filterMap (·.slot)
  let slots := AMap.mapVal s.audio.slotsConv fun x => if back.contains x.handle then { x with phase := .prepared } else x
  { s with audio := { s.audio with slotsConv := slots } }

/-- Convolution at a replacement (R159, R181): swaps of removed or changed operations are dropped, also those accepted after the
replacement (DESIGN CHOICE, log entry 67), and slots PREPARED for changed ones discarded; a copy under way goes on to its end (R169). -/
def State.convReplaced (s : State) (old new : Graph) (b : Int) : State :=
  let conv := AMap.mapVal s.cfg.conv fun c => c.fold b
  let gone := conv.filter fun x => !opKept old new x.1
  let s1 := gone.foldl (fun (s : State) x => s.unswap x.2) s
  let kept := conv.filterMap fun x =>
    if opKept old new x.1 then some x else if x.2.copying.isEmpty then none else some (x.1, ({ copying := x.2.copying } : ConvCfg))
  let s2 := { s1 with cfg := { s1.cfg with conv := kept } }
  (convChanged old new).foldl (fun (s : State) i =>
    let here := fun (x : Slot) => decide (x.op = i) && decide (x.phase = SlotPhase.prepared)
    if s.audio.slotsConv.any fun x => here x.2 then
      ({ s with audio := { s.audio with slotsConv := s.audio.slotsConv.filter fun x => !here x.2 } }).logAt evSlotDiscarded b []
    else s) s2

/-- A meter operation (R462). -/
def isMeter (kind : Nat) : Bool := decide (0x41 ≤ kind) && decide (kind ≤ 0x44)

/-- A subscription's source is gone or has other channels in the new graph (R462). -/
def subEnded (old new : Graph) (m : MeterSub) : Bool :=
  if m.source = 0 then (span (rangeFirst m.range) (rangeCount m.range)).any fun c => (new.dikeOp c).isNone
  else
    let i := fld m.range 13 0
    match old.op i, new.op i with
    | some a, some b => decide (a.kind ≠ b.kind) || decide (a.nin ≠ b.nin)
    | _, _ => true

/-- End the subscriptions that a replacement ends (METER_ENDED with the number). -/
def State.endSubs (s : State) (old new : Graph) : State :=
  (s.subs.filter fun x => subEnded old new x.2).foldl (fun (s : State) x =>
    { s with subs := AMap.del s.subs x.1 }.logNow evMeterEnded [x.1]) s

/-- Recorded cancellations, not over, of operations that the new graph lacks are dropped (R251). -/
def State.endCancels (s : State) (new : Graph) (b : Int) : State :=
  let gone := s.cfg.cancels.filter fun c => (new.op c.op).isNone && decide (b < c.until_)
  gone.foldl (fun (s : State) c => s.logAt evApplyDropped b [shownChannel c.ch, c.tag])
    { s with cfg := { s.cfg with cancels := s.cfg.cancels.filter fun c => (new.op c.op).isSome } }

/-- A counter's object is bound in a graph (R466); counters of other objects are left. -/
def counterBound (g : Graph) (key : Nat) : Bool :=
  let cls := key / 2 ^ 21
  let i := key % 2 ^ 21
  match cls with
  | 0x01 => (g.sink i).isSome
  | 0x02 => (g.bus i).isSome
  | 0x03 => (g.op (i / 128)).isSome
  | 0x04 => (g.feedOp i).isSome
  | 0x05 => (g.ofKind 0x20).any fun x => decide (x.2.convChan = i)
  | 0x06 => (g.ofKind 0x20).any fun x => decide (x.2.convChan = i)
  | 0x07 => (g.dikeOp i).isSome
  | 0x08 => (g.dikeOp i).isSome
  | 0x09 => (g.dikeOp i).isSome
  | 0x0A => (g.op (i / 128)).isSome
  | 0x0B => (g.op (i / 128)).isSome
  | 0x0C => (g.op i).isSome
  | 0x0D => (g.op i).isSome
  | 0x0E => (g.op i).isSome
  | _ => true

/-- The configuration and what the scheduler holds in the new graph. -/
def State.putGraph (s : State) (old new : Graph) (b : Int) : State :=
  let a := new.admitted s (s.fmaxAt b)
  let sl := s.cfg.sluice.replaced (s.cfg.graph.map (·.graph)) new b
  let dike := dikeReplaced (s.cfg.graph.map (·.graph)) s.cfg.dike new b
  let cfg := { s.cfg with graph := some a, sluice := sl.1, dike := dike }
  let audio := { s.audio with lines := s.linesFor old new, delays := s.delaysFor old new b,
                                   bufs := s.audio.bufs.filter fun x => opKept old new x.1 }
  let audio := if audio.runs.all QRun.judged then audio.keepSinks old new else audio
  let s1 := { s with cfg := cfg, audio := audio, load := highestLoad a.loads, counters := s.counters.filter fun x => counterBound new x.1 }
  let s2 := s1.setFld rSchDelay 13 0 a.delayEntries
  if sl.2 = 0 then s2 else s2.logAt evRouteLost b [sl.2]

/-- A graph replaces the current one at boundary b (R53, R54). -/
def State.replaceGraph (s : State) (new : Graph) (b : Int) : State :=
  let old := s.graphNow
  ((((s.convReplaced old new b).putGraph old new b).endSubs old new).endCancels new b).poldersReplaced new

/-- GRAPH_COMMIT while RUNNING. -/
def applyGraph (c : Change) (s : State) (b : Int) : Option State := c.graph.map fun g => s.replaceGraph g b

/-- OP_CANCEL (R249, R251). -/
def applyOpCancel (p : Packet) (s : State) (b : Int) : Option State :=
  let i := fld (p.w 4) 29 16
  if (s.graphNow.op i).isNone then none
  else
    let c : Cancel := { op := i, from_ := b, until_ := b + fld (p.w 5) 15 0 * s.q, ch := p.ch, tag := p.tag.toNat }
    some { s with cfg := { s.cfg with cancels := s.cfg.cancels ++ [c] } }

/-! ### Layout, mesh and objects (R80, R86, R87, R97) -/

/-- A signed word as a coordinate. -/
def coord (w : Word) : Int := w.toInt

/-- Loudspeakers given by one packet: number and loudspeaker (Table 03-1). -/
def speakersOf (p : Packet) : List (Nat × Speaker) :=
  (List.range (fld (p.w 5) 25 16)).map fun j =>
    (fld (p.w 5) 9 0 + j, { pos := ⟨coord (p.w (6 + 4 * j)), coord (p.w (7 + 4 * j)), coord (p.w (8 + 4 * j))⟩, zones := p.w (9 + 4 * j) })

/-- Triangles given by one packet. -/
def trisOf (p : Packet) : List (Nat × Tri) :=
  (List.range (fld (p.w 8) 25 16)).map fun j => (fld (p.w 8) 10 0 + j, ⟨fld (p.w (9 + j)) 9 0, fld (p.w (9 + j)) 19 10, fld (p.w (9 + j)) 29 20⟩)

/-- What a chain gives, in order of number, when each from 0 to n − 1 is given exactly once (R81). -/
def chainItems {α : Type} (given : List (Nat × α)) (n : Nat) : Option (List α) :=
  let m : AMap α := given.foldl (fun acc x => AMap.put acc x.1 x.2) []
  if given.length = n && m.keys == List.range n then some m.vals else none

/-- The layout of a chain. -/
def layoutOf (ps : List Packet) : Option (List Speaker) :=
  chainItems (ps.flatMap speakersOf) (match ps with | p :: _ => fld (p.w 4) 10 0 | [] => 0)

/-- The mesh of a chain: C and triangles. -/
def meshOf (ps : List Packet) : Option (Vec × List Tri) :=
  match ps with
  | [] => none
  | p :: _ => (chainItems (ps.flatMap trisOf) (fld (p.w 4) 11 0)).map fun ts => (⟨coord (p.w 5), coord (p.w 6), coord (p.w 7)⟩, ts)

/-- LAYOUT_LOAD (R80). -/
def applyLayout (c : Change) (s : State) (_ : Int) : Option State :=
  (layoutOf c.packets).map fun ls => { s with cfg := { s.cfg with serpent := s.cfg.serpent.withLayout ls } }

/-- MESH_LOAD; dropped when a loudspeaker it names is gone. -/
def applyMesh (c : Change) (s : State) (_ : Int) : Option State :=
  match meshOf c.packets with
  | none => none
  | some m =>
    if m.2.any fun t => t.all.any fun i => decide (s.cfg.serpent.layout.length ≤ i) then none
    else some { s with cfg := { s.cfg with serpent := s.cfg.serpent.withMesh m.1 m.2 } }

/-- Change an object's configuration. -/
def State.putObj (s : State) (i : Nat) (o : ObjCfg) : State :=
  { s with cfg := { s.cfg with serpent := s.cfg.serpent.putObj i o } }

/-- OBJECT_CREATE: an object is created as it came to stand since its acceptance, with its number's counters at 0 (DESIGN CHOICE, log
entry 65); a release begins (R86, R87). -/
def applyObjectCreate (p : Packet) (s : State) (b : Int) : Option State :=
  let c := s.cfg.serpent
  if bitOf (p.w 4) 31 then
    match c.liveAt s.q p.handle b with
    | none => none
    | some (i, o) => if o.release.isSome then none else some (s.putObj i { o with release := some b })
  else
    let i := fld (p.w 4) 8 0
    (AMap.find c.coming i).map fun o =>
      { s with counters := s.counters.filter fun x => decide (x.1 / 8 ≠ counterKey 0x17 (i * 8) / 8),
               cfg := { s.cfg with serpent := { c with coming := AMap.del c.coming i, objs := AMap.put c.objs i o } } }

/-- A settings change reaches an object at index n, deferred when the quantum holds three splits (R97). -/
def State.changeObj (s : State) (p : Packet) (i : Nat) (o : ObjCfg) (n : Int) (c : ObjChange) : State :=
  let m := o.changeIndex n s.q
  let s1 := s.putObj i (o.change m c)
  if m = max n o.created then s1 else (s1.count 0x17 (i * 8 + 6)).deferred p n i

/-- The fields of OBJECT_PARAMS (Table 03-5). -/
def objParams (p : Packet) : ObjSet :=
  { gain := (p.w 4).toInt, spread := (p.w 5).toNat, fmax := fld (p.w 6) 5 0, amplitude := bitOf (p.w 6) 8, delayEn := bitOf (p.w 6) 9,
    distLaw := bitOf (p.w 6) 10, rref := (p.w 7).toNat, doff := (p.w 8).toNat }

/-- OBJECT_PARAMS and ZONE_MASK. -/
def applyObjChange (p : Packet) (c : ObjChange) (s : State) (n : Int) : Option State :=
  (s.cfg.serpent.liveAt s.q p.handle n).map fun x => s.changeObj p x.1 x.2 n c

/-- SOUND_SPEED: one change for every object (R119). -/
def applySoundSpeed (p : Packet) (s : State) (n : Int) : Option State :=
  let c := (p.w 4).toNat
  let s1 := (s.cfg.serpent.objs ++ s.cfg.serpent.coming).foldl (fun (s : State) x => s.changeObj p x.1 x.2 n (.speed c)) s
  some { s1 with cfg := { s1.cfg with serpent := { s1.cfg.serpent with speed := c } } }

/-! ### Sluice -/

/-- Replace the Sluice's configuration. -/
def State.putSluice (s : State) (l : Sluice) : State := { s with cfg := { s.cfg with sluice := l } }

/-- The graph of a state refuses a route (Table 04-2). -/
def routeDeny (g : Graph) (src sink : Nat) : Option Deny :=
  match g.sink sink, g.source src with
  | none, _ => some (badParam 0x10)
  | _, none => some (badParam 0x11)
  | _, _ => denyIf (!g.routeOk src sink) (badParam 0x12)

/-- A range of sinks with one that is not bound. -/
def clearDeny (g : Graph) (first count : Nat) : Option Deny := denyIf ((span first count).any fun x => (g.sink x).isNone) (badParam 0x10)

/-- A crosspoint target that a state refuses. -/
def xpDeny (s : State) (src bus : Nat) (n : Int) : Option Deny :=
  let g := s.graphNow
  if (g.bus bus).isNone then some (badParam 0x17)
  else if (g.source src).isNone then some (badParam 0x11)
  else if !s.cfg.sluice.busAt s.q bus n then some (badParam 0x13)
  else denyIf (!g.xpointOk src bus) (badParam 0x12)

/-- A MATRIX cell that a graph refuses. -/
def cellDeny (g : Graph) (op i j : Nat) : Option Deny :=
  match g.op op with
  | some o => if o.kind ≠ 0x13 then some (badParam 0x14) else denyIf (decide (o.nin ≤ i) || decide (o.nout ≤ j)) (badParam 0x15)
  | none => some (badParam 0x14)

/-- GAIN channels that a graph refuses. -/
def gainDeny (g : Graph) (op first count : Nat) : Option Deny :=
  match g.op op with
  | some o => if o.kind ≠ 0x12 then some (badParam 0x14) else denyIf (decide (o.nin < first + count)) (badParam 0x15)
  | none => some (badParam 0x14)

/-- ROUTE_SET. -/
def applyRouteSet (p : Packet) (s : State) (n : Int) : Option State :=
  let x := fld (p.w 4) 12 0
  if (routeDeny s.graphNow (fld (p.w 5) 12 0) x).isSome then none
  else
    let r := s.cfg.sluice.routeSet x (fld (p.w 5) 12 0) (p.w 6).toInt (p.w 7) n
    some (if r.2 then (s.putSluice r.1).deferred p n x else s.putSluice r.1)

/-- ROUTE_CLEAR. -/
def applyRouteClear (p : Packet) (s : State) (n : Int) : Option State :=
  let first := fld (p.w 4) 12 0
  let count := fld (p.w 5) 13 0
  if (clearDeny s.graphNow first count).isSome then none
  else some ((span first count).foldl (fun (s : State) x =>
    let r := s.cfg.sluice.routeClear x (p.w 6) n
    if r.2 then (s.putSluice r.1).deferred p n x else s.putSluice r.1) s)

/-- The targets of XPOINT_SET and XPOINT_BLOCK: crosspoints as source and bus, cells as operation, input and output. -/
inductive XTarget where
  | xp (src bus : Nat)
  | cell (op i j : Nat)
  deriving DecidableEq, Repr

/-- Targets with their gains (Table 04-3). -/
def xTargets (op : Nat) (p : Packet) : List (XTarget × Int) :=
  let gains := if op = 0x303 then [(p.w 6).toInt] else (p.params.drop 4).map fun w => w.toInt
  gains.zipIdx.map fun g =>
    (if fld (p.w 4) 31 30 = 0 then .xp (fld (p.w 4) 12 0) (fld (p.w 5) 10 0 + g.2)
     else .cell (fld (p.w 4) 13 0) (fld (p.w 5) 13 8) (fld (p.w 5) 5 0 + g.2), g.1)

/-- A target that a state refuses at an index. -/
def XTarget.deny (t : XTarget) (s : State) (n : Int) : Option Deny :=
  match t with
  | .xp src bus => xpDeny s src bus n
  | .cell op i j => cellDeny s.graphNow op i j

/-- XPOINT_SET and XPOINT_BLOCK: one change (R156). -/
def applyXpoints (op : Nat) (p : Packet) (s : State) (n : Int) : Option State :=
  let ts := xTargets op p
  if ts.any fun t => (t.1.deny s n).isSome then none
  else
    let len := s.cfg.sluice.ramp (p.w 7)
    some (s.putSluice (ts.foldl (fun (l : Sluice) t =>
      match t.1 with
      | .xp src bus => l.setXp src bus n len t.2
      | .cell o i j => l.setCell o i j n len t.2) s.cfg.sluice))

/-- BUS_CREATE: a bus is created with no crosspoints, or its release begins (R144, R145). -/
def applyBusCreate (p : Packet) (s : State) (b : Int) : Option State :=
  let n := fld (p.w 4) 10 0
  let l := s.cfg.sluice
  if (s.graphNow.bus n).isNone then none
  else if bitOf (p.w 4) 31 then
    match AMap.find l.buses n with
    | some u => if u.release.isSome then none else some (s.putSluice { l with buses := AMap.put l.buses n { u with release := some b } })
    | none => none
  else if l.busAt s.q n b then none
  else some (s.putSluice { l with buses := AMap.put l.buses n ⟨fld (p.w 5) 3 0, none⟩, xpts := l.xpts.filter fun x => decide (x.1 % 2048 ≠ n) })

/-- GAIN_SET. -/
def applyGainSet (p : Packet) (s : State) (n : Int) : Option State :=
  let op := fld (p.w 4) 13 0
  let first := fld (p.w 5) 6 0
  let count := fld (p.w 5) 23 16
  if (gainDeny s.graphNow op first count).isSome then none
  else some (s.putSluice (s.cfg.sluice.setGains op first count n (s.cfg.sluice.ramp (p.w 7)) (p.w 6).toInt))

/-- FADE_PARAMS (R152, R154): the defaults, also of the changes that wait for their start. -/
def applyFadeParams (p : Packet) (s : State) (n : Int) : Option State :=
  let l := s.cfg.sluice
  let f := l.fade (p.w 4)
  let sinks := l.sinks.mapVal fun k => { k with fades := k.fades.map fun x => x.redefault n f }
  let dike := s.cfg.dike.mapVal fun c => { c with fades := c.fades.map fun x => x.redefault n f }
  let sl := { l with sinks := sinks, fadeLen := f.1, fadeCurve := f.2, rampLen := l.ramp (p.w 5), fadePast := (n, l.fadeLen, l.fadeCurve) :: l.fadePast }
  some { s with cfg := { s.cfg with sluice := sl, dike := dike } }

/-! ### Convolution -/

/-- FILTER_SWAP: the swap has been with its operation since its acceptance; it is dropped when a replacement took it away (R181). -/
def applySwap (c : Change) (p : Packet) (s : State) (_ : Int) : Option State :=
  let i := fld (p.w 4) 13 0
  let there := fun (w : Swap) => decide (w.ch = p.ch) && decide (w.tag = p.tag.toNat) && decide (w.index = c.index)
  let k := s.cfg.convOf i
  if k.swap.any there || k.after.any there || decide (k.lastSwap = c.index) then some s else none

/-! ### Output stage (R198 to R202, R207, R208) -/

/-- An output-stage command that a state refuses (R208). -/
def dikeDeny (s : State) (op : Nat) (p : Packet) : Option Deny :=
  let cs := span (rangeFirst (p.w 4)) (rangeCount (p.w 4))
  if cs.any fun c => (s.graphNow.dikeOp c).isNone then some (badParam 0x18)
  else denyIf (decide (op = 0x504) && cs.any fun c => (AMap.find s.cfg.dike c).all fun d => !d.dly) (badParam 0x19)

/-- Change every channel of a range. -/
def State.eachDike (s : State) (w : Word) (f : DikeChan → DikeChan) : State :=
  let cs := span (rangeFirst w) (rangeCount w)
  { s with cfg := { s.cfg with dike := s.cfg.dike.map fun x => if cs.contains x.1 then (x.1, f x.2) else x } }

/-- DIKE_CONFIG (Table 06-2). -/
def applyDikeConfig (p : Packet) (s : State) (n : Int) : Option State :=
  if (dikeDeny s 0x501 p).isSome then none
  else
    let len := s.cfg.sluice.ramp (p.w 9)
    some (s.eachDike (p.w 4) fun c =>
      { c.change n fun d => { d with ceil := (p.w 6).toInt, release := fld (p.w 7) 15 0, limEn := bitOf (p.w 7) 16, defRamp := fld (p.w 8) 12 0 } with
        trim := c.trim.push n len (p.w 5).toInt })

/-- A mute or unmute of one channel: a ramp while processing goes on and no stop ramp has begun, else only the kept state (R199, R201). -/
def DikeChan.setMute (c : DikeChan) (n : Int) (running m : Bool) (len : Nat) : DikeChan :=
  if running then { c with muted := m, mute := c.mute.push n (if len = 0x1FFF then (c.setAt n).defRamp else len) (if m then 0 else 2 ^ 30) }
  else { c with muted := m }

/-- OUTPUT_MUTE. -/
def applyOutputMute (p : Packet) (s : State) (n : Int) : Option State :=
  if (dikeDeny s 0x502 p).isSome then none
  else some (s.eachDike (p.w 4) fun c => c.setMute n (decide (s.run = .running) || s.cfg.stopRamp.any fun x => decide (n < x.1)) (bitOf (p.w 5) 0) (fld (p.w 6) 12 0))

/-- DITHER_CONFIG. -/
def applyDither (p : Packet) (s : State) (n : Int) : Option State :=
  if (dikeDeny s 0x503 p).isSome then none
  else some (s.eachDike (p.w 4) fun c =>
    c.change n fun d => { d with dithEn := bitOf (p.w 5) 0, muteZero := bitOf (p.w 5) 1, seed := (p.w 6).toNat })

/-- OUTPUT_DELAY; each deferred channel is logged (R198). -/
def applyOutputDelay (p : Packet) (s : State) (n : Int) : Option State :=
  if (dikeDeny s 0x504 p).isSome then none
  else
    let set := fun (c : DikeChan) => c.setDelay n (fld (p.w 5) 17 0) (p.w 6) (s.cfg.sluice.fadeLen, s.cfg.sluice.fadeCurve)
    let late := (span (rangeFirst (p.w 4)) (rangeCount (p.w 4))).filter fun c => (AMap.find s.cfg.dike c).any fun x => (set x).2
    some (late.foldl (fun (s : State) c => s.deferred p n c) (s.eachDike (p.w 4) fun c => (set c).1))

/-! ### One change -/

/-- The effect of an engine command at index n; none when it is dropped. -/
def applyEngine (op : Nat) (p : Packet) (c : Change) (s : State) (n : Int) : Option State :=
  match op with
  | 0x009 => applyStart s n
  | 0x00A => applyStop s c.index n
  | 0x104 => applyGraph c s n
  | 0x107 => applyOpCancel p s n
  | 0x201 => applyLayout c s n
  | 0x202 => applyMesh c s n
  | 0x203 => applyObjectCreate p s n
  | 0x206 => applyObjChange p (.params (objParams p)) s n
  | 0x207 => applyObjChange p (.zones (p.w 4)) s n
  | 0x208 => applySoundSpeed p s n
  | 0x301 => applyRouteSet p s n
  | 0x302 => applyRouteClear p s n
  | 0x303 => applyXpoints 0x303 p s n
  | 0x304 => applyXpoints 0x304 p s n
  | 0x305 => applyBusCreate p s n
  | 0x306 => applyGainSet p s n
  | 0x307 => applyFadeParams p s n
  | 0x404 => applySwap c p s n
  | 0x501 => applyDikeConfig p s n
  | 0x502 => applyOutputMute p s n
  | 0x503 => applyDither p s n
  | 0x504 => applyOutputDelay p s n
  | _ => none

end Sys2Proof.Machine
end

