-- ==== Sys2Proof/Machine/Digest.lean ====
section
/-! DEFINITION. Checks over data: the CRC-32 of R172, the SHA-256 and the ECDSA P-256 of R452, and the CRC-64 of R395. -/
namespace Sys2Proof.Machine

/-! ### CRC-32: IEEE 802.3, initial value and final inversion of ones (R172) -/

/-- One bit, in the reflected form of the IEEE 802.3 polynomial. -/
def crc32Bit (c : Nat) : Nat := if c % 2 = 1 then (c / 2) ^^^ 0xEDB88320 else c / 2

/-- One more octet. -/
def crc32Octet (c b : Nat) : Nat := crc32Bit (crc32Bit (crc32Bit (crc32Bit (crc32Bit (crc32Bit (crc32Bit (crc32Bit (c ^^^ b))))))))

/-- CRC-32 of a run of octets. -/
def crc32 (bs : List Nat) : Nat := (bs.foldl crc32Octet 0xFFFFFFFF) ^^^ 0xFFFFFFFF

/-- CRC-32 of words, four little-endian octets each. -/
def crc32Words (ws : List Word) : Nat := crc32 (ws.flatMap octets)

/-- The octets of a block of 64 bits, bits [7:0] first (R11). -/
def blockOctets (n : Nat) : List Nat := (List.range 8).map fun i => n / 2 ^ (8 * i) % 256

/-- A list two by two; a last one alone is left out. -/
def pairUp {α : Type} : List α → List (α × α)
  | a :: b :: l => (a, b) :: pairUp l
  | _ => []

/-- The first n of a list, filled up with d. -/
def fillTo {α : Type} (n : Nat) (d : α) (l : List α) : List α := l.take n ++ List.replicate (n - l.length) d

/-! ### CRC-64: ECMA-182, initial value 0, no reflection, no inversion (R395) -/

/-- One bit. -/
def crc64Bit (c : Nat) : Nat := if 2 ^ 63 ≤ c then (c * 2 % 2 ^ 64) ^^^ 0x42F0E1EBA9EA3693 else c * 2

/-- One more octet. -/
def crc64Octet (c b : Nat) : Nat := crc64Bit (crc64Bit (crc64Bit (crc64Bit (crc64Bit (crc64Bit (crc64Bit (crc64Bit (c ^^^ (b * 2 ^ 56)))))))))

/-- CRC-64 of a run of octets, from a running value. -/
def crc64 (c : Nat) (bs : List Nat) : Nat := bs.foldl crc64Octet c

/-! ### SHA-256 (R452) -/

/-- The k-th root of n rounded down, by its bits below 2^b from the highest on. -/
def rootBits (k n : Nat) : Nat → Nat → Nat
  | 0, r => r
  | b + 1, r => rootBits k n b (if (r + 2 ^ b) ^ k ≤ n then r + 2 ^ b else r)

/-- The first 32 fraction bits of the k-th root of a prime below 2^9. -/
def rootFraction (k p : Nat) : Word := w32 (rootBits k (p * 2 ^ (32 * k)) 37 0 % 2 ^ 32)

/-- Primes below a bound, rising. -/
def primesBelow (n : Nat) : List Nat := (span 2 (n - 2)).filter fun p => (span 2 (p - 2)).all fun d => decide (p % d ≠ 0)

/-- Round constants: fractions of the cube roots of the first 64 primes. -/
def shaK : List Word := (primesBelow 312).map (rootFraction 3)

/-- Initial hash value: fractions of the square roots of the first 8 primes. -/
def shaH : List Word := (primesBelow 20).map (rootFraction 2)

/-- Rotation right. -/
def rotr (x : Word) (n : Nat) : Word := x.rotateRight n

/-- The next word of the message schedule from the sixteen before it, newest last. -/
def shaNext (w : List Word) : Word :=
  let a := w.getD 14 0
  let b := w.getD 1 0
  (rotr a 17 ^^^ rotr a 19 ^^^ (a >>> 10)) + w.getD 9 0 + (rotr b 7 ^^^ rotr b 18 ^^^ (b >>> 3)) + w.getD 0 0

/-- One round on the eight working words. -/
def shaRound (v : List Word) (k w : Word) : List Word :=
  let e := v.getD 4 0
  let a := v.getD 0 0
  let t1 := v.getD 7 0 + (rotr e 6 ^^^ rotr e 11 ^^^ rotr e 25) + ((e &&& v.getD 5 0) ^^^ (~~~e &&& v.getD 6 0)) + k + w
  let t2 := (rotr a 2 ^^^ rotr a 13 ^^^ rotr a 22) + ((a &&& v.getD 1 0) ^^^ (a &&& v.getD 2 0) ^^^ (v.getD 1 0 &&& v.getD 2 0))
  [t1 + t2, a, v.getD 1 0, v.getD 2 0, v.getD 3 0 + t1, e, v.getD 5 0, v.getD 6 0]

/-- The rounds over the constants, with a sliding window of sixteen schedule words. -/
def shaRounds : List Word → List Word → List Word → List Word
  | [], _, v => v
  | k :: ks, win, v => shaRounds ks (win.drop 1 ++ [shaNext win]) (shaRound v k (win.getD 0 0))

/-- One 64-octet block, as sixteen big-endian words. -/
def shaBlock (h : List Word) (blk : List Word) : List Word := List.zipWith (· + ·) h (shaRounds shaK blk h)

/-- All blocks of a padded message. -/
def shaBlocks : Nat → List Word → List Word → List Word
  | 0, _, h => h
  | n + 1, ws, h => shaBlocks n (ws.drop 16) (shaBlock h (ws.take 16))

/-- Big-endian words of octets. -/
def beWords : Nat → List Nat → List Word
  | 0, _ => []
  | n + 1, bs => w32 (bs.getD 0 0 * 2 ^ 24 + bs.getD 1 0 * 2 ^ 16 + bs.getD 2 0 * 2 ^ 8 + bs.getD 3 0) :: beWords n (bs.drop 4)

/-- SHA-256 of octets, as eight big-endian words. -/
def sha256 (bs : List Nat) : List Word :=
  let n := bs.length
  let blocks := (n + 9 + 63) / 64
  let padded := bs ++ [0x80] ++ List.replicate (blocks * 64 - n - 9) 0 ++
    (span 0 8).map fun i => n * 8 / 2 ^ (8 * (7 - i)) % 256
  shaBlocks blocks (beWords (blocks * 16) padded) shaH

/-- The octets of a word, most significant first. -/
def octetsBE (w : Word) : List Nat := (octets w).reverse

/-! ### ECDSA over the curve P-256 (R3, R452) -/

/-- A power of b modulo m, its exponent below 2^f. -/
def powMod (m : Nat) : Nat → Nat → Nat → Nat
  | 0, _, _ => 1 % m
  | f + 1, b, e => powMod m f (b * b % m) (e / 2) * (if e % 2 = 1 then b else 1) % m

/-- The inverse modulo an odd prime below 2^256. -/
def invMod (m a : Nat) : Nat := powMod m 256 a (m - 2)

/-- The field of P-256, the order of its base point, and the coefficient b of y² = x³ − 3x + b. -/
def p256Field : Nat := 2 ^ 256 - 2 ^ 224 + 2 ^ 192 + 2 ^ 96 - 1
def p256Order : Nat := 0xFFFFFFFF00000000FFFFFFFFFFFFFFFFBCE6FAADA7179E84F3B9CAC2FC632551
def p256B : Nat := 0x5AC635D8AA3A93E7B3EBBD55769886BC651D06B0CC53B0F63BCE3C3E27D2604B

/-- A point of the curve; none is the point at infinity. -/
abbrev CurvePoint := Option (Nat × Nat)

/-- The base point. -/
def p256Base : CurvePoint :=
  some (0x6B17D1F2E12C4247F8BCE6E563A440F277037D812DEB33A0F4A13945D898C296, 0x4FE342E2FE1A7F9B8EE7EB4A7C0F9E162BCE33576B315ECECBB6406837BF51F5)

/-- The third point of a line of slope l through two points, mirrored. -/
def chord (l : Nat) (a b : Nat × Nat) : Nat × Nat :=
  let m := p256Field
  let x := (l * l + (m - a.1) + (m - b.1)) % m
  (x, (l * (a.1 + (m - x)) + (m - a.2)) % m)

/-- Sum of two points. -/
def pointAdd : CurvePoint → CurvePoint → CurvePoint
  | none, b => b
  | a, none => a
  | some a, some b =>
    let m := p256Field
    if a.1 ≠ b.1 then some (chord ((b.2 + (m - a.2)) * invMod m ((b.1 + (m - a.1)) % m) % m) a b)
    else if a.2 ≠ b.2 ∨ a.2 = 0 then none
    else some (chord ((3 * a.1 * a.1 + (m - 3)) * invMod m (2 * a.2 % m) % m) a b)

/-- A multiple of a point, its factor below 2^f. -/
def pointMul : Nat → Nat → CurvePoint → CurvePoint
  | 0, _, _ => none
  | f + 1, k, p => pointAdd (if k % 2 = 1 then p else none) (pointMul f (k / 2) (pointAdd p p))

/-- The signature (r, s) of the digest e verifies against the public key. -/
def ecdsaVerifies (key : Nat × Nat) (e r s : Nat) : Bool :=
  let n := p256Order
  let w := invMod n s
  decide (1 ≤ r) && decide (r < n) && decide (1 ≤ s) && decide (s < n) &&
    (pointAdd (pointMul 256 (e * w % n) p256Base) (pointMul 256 (r * w % n) (some key))).any fun p => decide (p.1 % n = r)

/-- The number that octets spell, most significant first. -/
def beNat (bs : List Nat) : Nat := bs.foldl (fun acc b => acc * 256 + b) 0

end Sys2Proof.Machine
end

