-- ==== Sys2Proof/Machine/System.lean ====
section
/-! DEFINITION. System, firmware, keep-memory and telemetry commands (R442 to R466), and the safe-load set (R65 to R70). -/
namespace Sys2Proof.Machine

/-! ### Keep SRAM (R459 to R461, R533, R534) -/

/-- Octet at an address; an unlisted address reads 0. -/
def keepByte : List Host.Cell → Nat → Byte
  | [], _ => 0
  | (k, v) :: m, a => if k = a then v else keepByte m a

/-- Enter an octet at an address that is not listed, keeping addresses rising. -/
def keepEnter : List Host.Cell → Nat → Byte → List Host.Cell
  | [], a, v => [(a, v)]
  | (k, w) :: m, a, v => if a < k then (a, v) :: (k, w) :: m else (k, w) :: keepEnter m a v

/-- Write an octet, keeping addresses rising and zeros unlisted. -/
def keepPut (m : List Host.Cell) (a : Nat) (v : Byte) : List Host.Cell :=
  let rest := m.filter fun c => !decide (c.1 = a)
  if v = 0 then rest else keepEnter rest a v

/-- The canonical form of the keep SRAM: addresses rise strictly from a first one on, and no octet listed is 0. -/
def keepRises (from_ : Nat) : List Host.Cell → Bool
  | [] => true
  | (k, v) :: m => decide (from_ ≤ k) && decide (v ≠ 0) && keepRises (k + 1) m

/-- The keep SRAM's canonical form. -/
def keepWf (m : List Host.Cell) : Bool := keepRises 0 m

/-- The little-endian word at an address (R11). -/
def keepWord (m : List Host.Cell) (a : Nat) : Word :=
  w32 ((keepByte m a).toNat + (keepByte m (a + 1)).toNat * 2 ^ 8 + (keepByte m (a + 2)).toNat * 2 ^ 16 + (keepByte m (a + 3)).toNat * 2 ^ 24)

/-- Write a little-endian word. -/
def keepPutWord (m : List Host.Cell) (a : Nat) (w : Word) : List Host.Cell :=
  keepPut (keepPut (keepPut (keepPut m a (BitVec.ofNat 8 (fld w 7 0))) (a + 1) (BitVec.ofNat 8 (fld w 15 8)))
    (a + 2) (BitVec.ofNat 8 (fld w 23 16))) (a + 3) (BitVec.ofNat 8 (fld w 31 24))

/-- Write words from an address on. -/
def keepPutWords (m : List Host.Cell) (a : Nat) : List Word → List Host.Cell
  | [] => m
  | w :: ws => keepPutWords (keepPutWord m a w) (a + 4) ws

/-- The CRC-32 of the whole keep SRAM (R459). -/
def keepCrcOf (m : List Host.Cell) : Word := w32 (crc32 ((List.range 65536).map fun a => (keepByte m a).toNat))

/-- A write of the keep SRAM, with the CRC update (R459, R534). -/
def State.keepWrite (s : State) (a : Nat) (ws : List Word) : State :=
  let m := keepPutWords s.keep a ws
  { s with keep := m, keepCrc := keepCrcOf m }

/-- R533: compare the CRC; on a difference clear the memory and say so after the RESET entry. -/
def State.keepCheck (s : State) : State :=
  if s.keepDue then
    if keepCrcOf s.keep = s.keepCrc then { s with keepDue := false, keepOk := true }
    else ({ s with keepDue := false, keepOk := false, keep := [], keepCrc := keepCrcOf [] }).logNow evKeepLost
  else s

/-! ### Board table (R449, R450, R502) -/

/-- The sections of a table: type and words; none when one overruns. -/
def boardSections : Nat → List Word → Option (List (Nat × List Word))
  | 0, ws => if ws = [] then some [] else none
  | _ + 1, [] => some []
  | n + 1, h :: ws =>
    let k := fld h 23 8
    if ws.length < k then none
    else (boardSections n (ws.drop k)).map fun r => (fld h 7 0, ws.take k) :: r

/-- The words of a section of the loaded table. -/
def State.boardSection (s : State) (ty : Nat) : Option (List Word) :=
  match boardSections s.board.length (s.board.drop 2) with
  | none => none
  | some secs => (secs.find? fun x => decide (x.1 = ty)).map Prod.snd

/-- The highest operating point that the sections permit (Table 17-4). -/
def pointLimit (secs : List (Nat × List Word)) : Nat :=
  match secs.find? fun x => decide (x.1 = 1) with | some x => fld (x.2.headD 0) 9 8 | none => 2

/-- The field ranges of section 0x01; the words of operating points above the limit are ignored (R502, Table 17-4). -/
def dramSectionOk (limit : Nat) (ws : List Word) : Bool :=
  decide (ws.length = 4) && decide (limit ≤ 2) && !reservedSet (ws.getD 0 0) (mask 1 0 + mask 9 8 + mask 23 16) &&
  ((ws.drop 1).take (limit + 1)).all fun w => !reservedSet w (mask 29 0)

/-- The field ranges of section 0x02; the words of operating points above the limit are ignored (R502, Table 17-4). -/
def delaySectionOk (limit : Nat) (ws : List Word) : Bool :=
  decide (ws.length = 48) && (ws.take (16 * (limit + 1))).all fun w => !reservedSet w (mask 9 0 + mask 25 16)

/-- Refusal of a table's contents: word 0, section types, lengths, repeats and ranges (R450, R502). -/
def boardDeny (tab : List Word) : Option Deny :=
  if tab.headD 0 != 1 then some fieldDeny
  else match boardSections tab.length (tab.drop 2) with
    | none => some (badParam 0xFFF5)
    | some secs =>
      firstDeny [denyIf (secs.any fun x => !([1, 2, 3, 4].contains x.1)) (badParam 0xFFF5),
        denyIf (hasDup (secs.map Prod.fst)) (badParam 0xFFF5),
        denyIf (secs.any fun x => decide (x.1 = 1) && !dramSectionOk (pointLimit secs) x.2) (badParam 0xFFF5),
        denyIf (secs.any fun x => decide (x.1 = 2) && !delaySectionOk (pointLimit secs) x.2) (badParam 0xFFF5),
        denyIf (secs.any fun x => (decide (x.1 = 3) && decide (x.2.length ≠ 1)) || (decide (x.1 = 4) && decide (x.2.length ≠ 4))) (badParam 0xFFF5),
        denyIf (secs.any fun x => decide (x.1 = 3) &&
          (reservedSet (x.2.headD 0) (mask 5 0 + mask 15 8) || decide (fld (x.2.headD 0) 15 8 < 1) || decide (100 < fld (x.2.headD 0) 15 8))) fieldDeny]

/-- The words given by a chain, with their offsets. -/
def boardGiven (ps : List Packet) : List (Nat × Word) :=
  ps.flatMap fun p => (p.params.drop 2).zipIdx.map fun x => (fld (p.w 5) 13 0 + x.2, x.1)

/-- The table a chain gives, when every word from 0 to N_b − 1 is given exactly once (R449). -/
def boardTable (ps : List Packet) (n : Nat) : Option (List Word) :=
  let g := boardGiven ps
  let m : AMap Word := g.foldl (fun acc x => AMap.put acc x.1 x.2) []
  if g.length = n && m.keys == List.range n then some m.vals else none

/-- Refusal of a complete chain (R449, R450). -/
def boardChainDeny (ps : List Packet) (n : Nat) : Option Deny :=
  match boardTable ps n with
  | none => some (badParam 0xFFFF)
  | some tab => if crc32Words (tab.drop 2) ≠ (tab.getD 1 0).toNat then some (badParam 0xFFFD) else boardDeny tab

/-- Declared REFCLK tolerance in ppm: 50 without section 3 (Table 15-7). -/
def State.refTolerance (s : State) : Nat := (s.boardSection 3).elim 50 fun ws => fld (ws.headD 0) 15 8

/-- Whole milliseconds counted since counting began. -/
def State.refWindows (s : State) : Nat := (s.now - s.tu.refFrom) / ticksOfMs 1

/-- The REFCLK count of the m-th millisecond, nominally 100,000; 0 before the first is over and while REFCLK is lost (R309, R314). -/
def State.refCount (s : State) (m : Nat) : Nat :=
  if decide (m = 0) || s.tu.refLost then 0 else (Config.refCount (s.tu.refFrom + m * ticksOfMs 1)).toNat

/-- A REFCLK count is judged against the declared tolerance (R450). -/
def State.judgeCount (s : State) (m : Nat) : State :=
  let off : Int := (s.refCount m : Int) - 100000
  if s.refTolerance < 10 * off.natAbs then s.logOnce evRefRange 1 else s.endRun evRefRange 1

/-- The counts of n milliseconds, from the m-th on. -/
def State.judgeCounts (s : State) (m : Nat) : Nat → State
  | 0 => s
  | n + 1 => (s.judgeCount m).judgeCounts (m + 1) n

/-- With a board table loaded, every count is judged as its millisecond ends (R4, R450). -/
def State.judgeRefclk (s : State) : State :=
  if s.board.isEmpty || decide (s.refWindows ≤ s.tu.refSeen) then s
  else
    let t := s.judgeCounts (s.tu.refSeen + 1) (s.refWindows - s.tu.refSeen)
    { t with tu := { t.tu with refSeen := s.refWindows } }

/-- A board table is taken; the count that stands is the next to be judged. -/
def State.putBoard (s : State) (ws : List Word) : State :=
  { s with board := ws, tu := { s.tu with refSeen := s.refWindows - 1 } }

/-- BOARD_TABLE_LOAD. A packet that gives a word at or beyond N_b is refused as it comes (log entry 14). -/
def boardTableLoadSpec : CmdSpec where
  op := 0x020
  continued := true
  state := fun _ s => denyIf s.dramOn stateDeny
  layout := fun p _ =>
    let n := fld (p.w 4) 14 0
    firstDeny [denyIf (decide (p.len < 7) || decide (1024 < p.len)) lengthDeny,
      denyIf (reservedSet (p.w 4) (mask 14 0) || reservedSet (p.w 5) (mask 13 0) || decide (n < 4) || decide (16384 < n) ||
        decide (n < fld (p.w 5) 13 0 + (p.params.length - 2))) fieldDeny]
  own := fun p s _ => boardChainDeny (chainOf 0x020 p s) (fld (p.w 4) 14 0)
  act := fun p s _ _ => { s := s.putBoard ((boardTable (chainOf 0x020 p s) (fld (p.w 4) 14 0)).getD []) }

/-- DRAM size in MiB from section 0x01 (Table 17-4); 0 without it. -/
def State.dramMiB (s : State) : Nat := match s.boardSection 1 with | some ws => 2048 * 2 ^ fld (ws.headD 0) 1 0 | none => 0

/-! ### PING, GET_INFO, GET_STATUS -/

/-- PING returns its words (R442). -/
def pingSpec : CmdSpec where
  op := 0x001
  act := fun p s _ _ => { s := s, words := p.params }

/-- Text as four words, first character in [7:0] (Table 15-5). -/
def asciiWords (cs : List Nat) : List Word :=
  (span 0 4).map fun i => w32 (cs.getD (4 * i) 0 + cs.getD (4 * i + 1) 0 * 2 ^ 8 + cs.getD (4 * i + 2) 0 * 2 ^ 16 + cs.getD (4 * i + 3) 0 * 2 ^ 24)

/-- The temperature grade's letter. -/
def gradeLetter : Nat := if Config.gradeE then 0x45 else 0x41

/-- The fuse-map letter: A, or the suffix of a custom map (Table 00-3). -/
def fuseLetter : Nat := Config.fuseSuffix.elim 0x41 fun x => 0x41 + x.val

/-- "AXK-8192-BA" or "AXK-8192-BE", with a hyphen and the suffix letter for a custom fuse map (R5, Table 00-3). -/
def orderingCode : List Nat :=
  [0x41, 0x58, 0x4B, 0x2D, 0x38, 0x31, 0x39, 0x32, 0x2D, 0x42, gradeLetter] ++ Config.fuseSuffix.elim [] fun x => [0x2D, 0x41 + x.val]

/-- The running firmware version (R452): the patch's, else the ROM's. -/
def State.fwVersion (s : State) : Word := match s.fw.patch with | some im => im.getD 2 0 | none => Config.romVersion

/-- Silicon revision B1 as GET_INFO w8 [23:8] gives it (R443): the letter B and the number 1. -/
def siliconRevision : Nat := 0x142

/-- The words of Table 15-5. -/
def State.infoWords (s : State) : List Word :=
  asciiWords orderingCode ++
  [w32 (fuseLetter + siliconRevision * 2 ^ 8), s.fwVersion, Config.romVersion, w32 (Config.serial.toNat % 2 ^ 32), w32 (Config.serial.toNat / 2 ^ 32),
   w32 (0xF + 6 * 2 ^ 8 + 32 * 2 ^ 16), w32 s.dramMiB] ++ ((s.boardSection 4).getD [0, 0, 0, 0])

/-- GET_INFO (R443). -/
def getInfoSpec : CmdSpec where
  op := 0x002
  layout := fun p _ => lenIs p 4
  act := fun _ s _ _ => { s := s, words := s.infoWords }

/-- Run state codes of Table 15-6. -/
def RunState.code : RunState → Nat
  | .off => 0 | .loading => 1 | .boot => 2 | .ready => 3 | .running => 4 | .halted => 5

/-- Twin state codes of Table 13-2. -/
def TwinState.code : TwinState → Nat
  | .detached => 0 | .fenced => 1 | .joining => 2 | .inStep => 3 | .active => 4 | .suspect => 5

/-- Pending timed commands as GET_STATUS counts them. -/
def State.statusWord4 (s : State) : Nat :=
  s.run.code + s.twin.state.code * 2 ^ 4 + flagBit s.dramOn 7 + s.rate * 2 ^ 8 + s.logQ * 2 ^ 10 + flagBit s.cfg.graph.isSome 13 +
  flagBit (!s.board.isEmpty) 14 + flagBit s.fw.session.isSome 15 + flagBit s.keepOk 16 + s.halt * 2 ^ 17

/-- The words of Table 15-6; temperature and supply are measurements, free values. -/
def State.statusWords (s : State) : List Word :=
  [w32 s.statusWord4, s.reg rRpcLastcause, lo32 s.curFirst, hi32 s.curFirst, w32 s.timedCount,
   w32 (s.load.1 % 1024 + s.load.2 * 2 ^ 16), w32 (Config.dieTemp s.free).toNat,
   w32 ((Config.vddCore s.free).toNat + s.pd * 2 ^ 16), w32 s.newest]

/-- GET_STATUS (R444). -/
def getStatusSpec : CmdSpec where
  op := 0x003
  layout := fun p _ => lenIs p 4
  act := fun _ s _ _ => { s := { s with free := s.free + 1 }, words := s.statusWords }

/-! ### Firmware update (R452 to R455) -/

/-- FW_UPDATE_BEGIN (R453). -/
def fwUpdateBeginSpec : CmdSpec where
  op := 0x010
  layout := fun p _ =>
    let n := (p.w 4).toNat
    firstDeny [lenIs p 5, denyIf (decide (n < 132) || decide (1048704 < n) || decide (n % 4 ≠ 0)) fieldDeny]
  own := fun _ s _ => denyIf s.fw.session.isSome busyDeny
  act := fun p s _ _ => { s := { s with fw := { s.fw with session := some { ch := p.ch, size := (p.w 4).toNat } } } }

/-- The session open on a channel. -/
def State.fwSessionOn (s : State) (ch : Nat) : Option FwSession := s.fw.session.filter fun f => decide (f.ch = ch)

/-- FW_UPDATE_DATA (R454). -/
def fwUpdateDataSpec : CmdSpec where
  op := 0x011
  state := fun p s => denyIf (decide (s.fwSessionOn p.ch = none)) stateDeny
  layout := fun p s =>
    let off := (p.w 4).toNat
    firstDeny [denyIf (decide (p.len < 6) || decide (1024 < p.len)) lengthDeny,
      denyIf (decide (off % 4 ≠ 0) || decide (((s.fwSessionOn p.ch).elim 0 (·.size)) < off + 4 * (p.params.length - 1))) fieldDeny]
  act := fun p s _ _ =>
    let put := fun (f : FwSession) =>
      { f with image := (p.params.drop 1).zipIdx.foldl (fun m x => AMap.put m ((p.w 4).toNat / 4 + x.2) x.1) f.image }
    { s := { s with fw := { s.fw with session := s.fw.session.map put } } }

/-- The SHA-256 digest of an image's body, as the header's words 8 to 15 give it (Table 15-8). -/
def digestMatches (im : List Word) : Bool :=
  decide ((sha256 ((im.drop 32).flatMap octets)).flatMap octetsBE = ((im.drop 8).take 8).flatMap octets)

/-- The header's signature verifies: over the digest of its octets 0 to 63, with r and s in words 16 to 31 (R3, R452). -/
def signatureValid (im : List Word) : Bool :=
  let number := fun (i : Nat) => beNat (((im.drop i).take 8).flatMap octets)
  ecdsaVerifies Config.romKey (beNat ((sha256 ((im.take 16).flatMap octets)).flatMap octetsBE)) (number 16) (number 24)

/-- The checks of FW_UPDATE_COMMIT in order (R455). -/
def imageDeny (f : FwSession) : Option Deny :=
  let im := f.image.vals
  let h := fun i => im.getD i 0
  firstDeny [denyIf (decide (f.image.length ≠ f.size / 4)) (badParam 0xFFFF),
    denyIf (decide (h 0 ≠ 0x414C5846) || decide (fld (h 1) 15 0 ≠ 1) || decide ((h 4).toNat + 128 ≠ f.size)) (badParam 0xFFF8),
    denyIf (!signatureValid im || !digestMatches im) (badParam 0xFFF7),
    denyIf (decide (Config.romVersion.toNat < (h 3).toNat) || (decide (fld (h 5) 15 0 ≠ 0) && decide (fld (h 5) 15 0 ≠ siliconRevision))) (badParam 0xFFF6)]

/-- FW_UPDATE_COMMIT (R455). -/
def fwUpdateCommitSpec : CmdSpec where
  op := 0x012
  state := fun p s => denyIf (decide (s.fwSessionOn p.ch = none)) stateDeny
  layout := fun p _ => firstDeny [lenIs p 5, denyIf (reservedSet (p.w 4) 1) fieldDeny]
  own := fun p s _ => if bitOf (p.w 4) 0 then none else (s.fwSessionOn p.ch).bind imageDeny
  act := fun p s _ _ =>
    if bitOf (p.w 4) 0 then { s := { s with fw := { s.fw with session := none }, free := s.free + 1 }, words := [Config.unstated s.free] }
    else
      let im := (s.fw.session.elim [] fun f => f.image.vals)
      { s := ({ s with fw := { patch := some im, session := none } }).logNow evFwCommitted, words := [im.getD 2 0] }
  onDeny := fun _ d s =>
    if [badParam 0xFFF8, badParam 0xFFF7, badParam 0xFFF6].contains d then { s with fw := { s.fw with session := none } } else s

/-! ### KEEP_WRITE and KEEP_READ -/

/-- KEEP_WRITE (R460). -/
def keepWriteSpec : CmdSpec where
  op := 0xB05
  layout := fun p _ =>
    let a := fld (p.w 4) 15 0
    let k := fld (p.w 5) 9 0
    firstDeny [denyIf (decide (p.len ≠ 6 + k)) lengthDeny,
      denyIf (reservedSet (p.w 4) (mask 15 0) || reservedSet (p.w 5) (mask 9 0) || decide (a % 4 ≠ 0) || decide (k < 1) || decide (1018 < k) ||
        decide (0xF000 < a + 4 * k)) fieldDeny]
  act := fun p s _ _ => { s := s.keepWrite (fld (p.w 4) 15 0) (p.params.drop 2) }

/-- KEEP_READ (R461). -/
def keepReadSpec : CmdSpec where
  op := 0xB06
  layout := fun p _ =>
    let a := fld (p.w 4) 15 0
    let k := fld (p.w 5) 9 0
    firstDeny [lenIs p 6,
      denyIf (reservedSet (p.w 4) (mask 15 0) || reservedSet (p.w 5) (mask 9 0) || decide (a % 4 ≠ 0) || decide (k < 1) || decide (1020 < k) ||
        decide (0x10000 < a + 4 * k)) fieldDeny]
  act := fun p s _ _ => { s := s, words := (List.range (fld (p.w 5) 9 0)).map fun i => keepWord s.keep (fld (p.w 4) 15 0 + 4 * i) }

/-! ### EVENT_READ and COUNTER_READ -/

/-- Words of a log entry (R465). -/
def LogEntry.words (e : LogEntry) : List Word :=
  [w32 e.code, w32 e.seq, lo32 e.ns, hi32 e.ns, e.index, e.values.getD 0 0, e.values.getD 1 0, e.values.getD 2 0]

/-- The entries from a wanted sequence number on, oldest first, at most n (R464). -/
def State.eventsFrom (s : State) (wanted n : Nat) : List LogEntry :=
  if seqLater wanted s.newest then []
  else ((s.log.reverse.filter fun e => !seqLater wanted e.seq).take n)

/-- Reply words of EVENT_READ (R464); with no entry returned, no rule states w4. -/
def State.eventWords (s : State) (wanted n : Nat) : List Word :=
  let es := s.eventsFrom wanted n
  let gap := seqLater s.oldest wanted && decide (s.oldest ≠ 1)
  [es.head?.elim (Config.unstated s.free) fun e => w32 e.seq, w32 (es.length + flagBit gap 16), w32 s.oldest, w32 s.newest] ++ es.flatMap LogEntry.words

/-- EVENT_READ (R464). -/
def eventReadSpec : CmdSpec where
  op := 0xC02
  layout := fun p _ => firstDeny [lenIs p 6, denyIf (reservedSet (p.w 5) (mask 6 0) || decide (fld (p.w 5) 6 0 < 1)) fieldDeny]
  act := fun p s _ _ => { s := { s with free := s.free + 1 }, words := s.eventWords (p.w 4).toNat (fld (p.w 5) 6 0) }

/-- How many counters a class has (Table 15-10); none for a class that the table does not list. -/
def classSize (cls : Nat) : Option Nat :=
  match cls with
  | 0x01 => some 8192 | 0x02 => some 2048 | 0x03 => some (2 ^ 21) | 0x04 => some 1024 | 0x05 => some 1024 | 0x06 => some 1024
  | 0x07 => some 2048 | 0x08 => some 2048 | 0x09 => some 2048 | 0x0A => some (2 ^ 21) | 0x0B => some (2 ^ 21)
  | 0x0C => some 16384 | 0x0D => some 16384 | 0x0E => some 16384 | 0x10 => some 48 | 0x11 => some 512 | 0x12 => some 2048
  | 0x13 => some 512 | 0x14 => some 4096 | 0x15 => some 4096 | 0x16 => some 256 | 0x17 => some 4096
  | _ => none

/-- The object of a counter that the graph does not bind is there: tap stream, stream, object (R466). -/
def State.counterThere (s : State) (cls idx : Nat) : Bool :=
  match cls with
  | 0x11 => AMap.has s.sap.taps idx
  | 0x12 => AMap.has s.net.rx (idx / 8)
  | 0x13 => AMap.has s.net.tx (idx / 2)
  | 0x17 => (AMap.find s.cfg.serpent.objs (idx / 8)).any fun o => o.release.all fun r => decide (s.index < r + s.q)
  | _ => true

/-- A counter as COUNTER_READ shows it. -/
def State.counterShown (s : State) (cls idx : Nat) : Nat := if s.counterThere cls idx then s.counter cls idx else 0

/-- COUNTER_READ (R466). -/
def counterReadSpec : CmdSpec where
  op := 0xC03
  layout := fun p _ =>
    let k := fld (p.w 6) 9 0
    firstDeny [lenIs p 7, denyIf (reservedSet (p.w 4) (mask 8 0) || reservedSet (p.w 5) (mask 20 0) || reservedSet (p.w 6) (mask 9 0) ||
      decide (k < 1) || decide (1020 < k) || decide ((classSize (fld (p.w 4) 7 0)).getD 0 < fld (p.w 5) 20 0 + k)) fieldDeny]
  act := fun p s _ _ =>
    let cls := fld (p.w 4) 7 0
    let idx := span (fld (p.w 5) 20 0) (fld (p.w 6) 9 0)
    { s := if bitOf (p.w 4) 8 then idx.foldl (fun s i => s.zeroCounter cls i) s else s, words := idx.map fun i => w32 (s.counterShown cls i) }

/-! ### Safe-load sets -/

/-- SAFE_SET_BEGIN (R65). -/
def safeSetBeginSpec : CmdSpec where
  op := 0x110
  pair := true
  layout := fun p _ => lenIs p 4
  own := fun p s _ => denyIf (s.chan p.ch).set.isSome busyDeny
  act := fun p s _ _ => { s := s.updChan p.ch fun c => { c with set := some {} } }

/-! ### CHANNEL_CONFIG (R451) -/

/-- Words of CHANNEL_CONFIG that do not apply to the channel are not 0. -/
def channelWordsBad (n : Nat) (p : Packet) : Bool :=
  if n < 8 then
    (if bitOf (p.w 4) 10 then reservedSet (p.w 5) (mask 12 0) || decide (fld (p.w 5) 11 0 = 0) else decide (p.w 5 ≠ 0)) ||
      decide (p.w 6 ≠ 0) || decide (p.w 7 ≠ 0)
  else if n = 8 then decide (p.w 5 ≠ 0) || decide (p.w 6 ≠ 0) || decide (p.w 7 ≠ 0)
  else if n ≤ 12 then reservedSet (p.w 7) (mask 15 0)
  else reservedSet (p.w 5) (mask 11 0) || decide (p.w 6 ≠ 0) || decide (p.w 7 ≠ 0)

/-- The node and in-band channel that a REMOTE configuration names (R420). -/
def remoteOf (p : Packet) : Nat × Nat := (fld (p.w 5) 11 0, if bitOf (p.w 5) 12 then 14 else 13)

/-- The configuration that CHANNEL_CONFIG sets, before any reset. -/
def channelConfigured (n : Nat) (p : Packet) (s : State) : State :=
  if n < 8 then
    let r := if bitOf (p.w 4) 10 then some (remoteOf p) else none
    (s.updChan n fun c => { c with remote := r }).setFld (rCmdCfg + 32 * n) 8 8 (b2n r.isSome)
  else if n = 8 then s
  else if n ≤ 12 then s.updChan n fun c => { c with filter := (p.w 5).toNat, noteAddr := (p.w 6).toNat, notePort := fld (p.w 7) 15 0 }
  else s.updChan n fun c => { c with filter := fld (p.w 5) 11 0, enabled := bitOf (p.w 4) 8 }

/-- CHANNEL_CONFIG resets the channel: RESET, or a disabled in-band channel (R432, R451). -/
def channelResets (n : Nat) (p : Packet) : Bool := bitOf (p.w 4) 9 || (decide (13 ≤ n) && !bitOf (p.w 4) 8)

/-- The refusals of CHANNEL_CONFIG's fields. -/
def channelConfigBad (p : Packet) : Bool :=
  let n := fld (p.w 4) 3 0
  reservedSet (p.w 4) (mask 3 0 + mask 10 8) || decide (n = 15) || (decide (n = 8) && !bitOf (p.w 4) 8) ||
    (bitOf (p.w 4) 10 && decide (8 ≤ n)) || channelWordsBad n p

/-- CHANNEL_CONFIG: a channel that resets itself is answered first (R451). -/
def channelConfigSpec : CmdSpec where
  op := 0x030
  layout := fun p _ => firstDeny [lenIs p 8, denyIf (channelConfigBad p) fieldDeny]
  own := fun p s _ =>
    let n := fld (p.w 4) 3 0
    denyIf (decide (n < 8) && bitOf (p.w 4) 10 && (List.range 8).any fun m => decide (m ≠ n) && decide ((s.chan m).remote = some (remoteOf p))) busyDeny
  act := fun p s _ _ =>
    let n := fld (p.w 4) 3 0
    let s1 := channelConfigured n p s
    if channelResets n p then
      if n = p.ch then { s := s1, after := fun t => t.resetChannel n } else { s := s1.resetChannel n }
    else { s := s1 }

end Sys2Proof.Machine
end

