-- ==== Sys2Proof/Machine/Time.lean ====
section
/-! DEFINITION. Time, clocks and synchronisation: the time model, its sources, the servo, the PTP port, and the clocks
that leave the device (chapter 10). -/
namespace Sys2Proof.Machine

/-! ### The time model (R289 to R292) -/

/-- The bounds of the rate (R291). -/
def rateMin : Nat := 0x3FFBE76C8B44
def rateMax : Nat := 0x4004189374BC

/-- Take a new rate at the present raw count, keeping device time continuous (R290). -/
def TimeUnit.withRate (u : TimeUnit) (r : Nat) : TimeUnit :=
  { u with offset := u.offset + scaledCount u.raw u.rate - scaledCount u.raw r, rate := r }

/-- Hold a demanded rate within its bounds; RLIM rises with REF_RANGE (R291). -/
def State.demandRate (s : State) (r : Int) : State :=
  let lim := decide (r < rateMin) || decide ((rateMax : Int) < r)
  let u := s.tu.withRate (clampI rateMin rateMax r).toNat
  let s1 := { s with tu := { u with servo := { u.servo with rlim := lim } } }
  if lim && !s.tu.servo.rlim then (s1.setEvt rTimEvt 5).logNow evRefRange else s1

/-- Change the servo. -/
def State.updServo (s : State) (f : Servo → Servo) : State := { s with tu := { s.tu with servo := f s.tu.servo } }

/-- Change the PTP port. -/
def State.updPtp (s : State) (f : PtpPort → PtpPort) : State := { s with tu := { s.tu with ptp := f s.tu.ptp } }

/-- Step device time at once (R299). The next whole second that PPS_OUT marks is the first one not before the new time, and a pulse
under way keeps its width (R308). -/
def State.stepNow (s : State) (delta : Int) : State :=
  let u := { s.tu with offset := s.tu.offset + delta, ppsRose := s.tu.ppsRose.map fun t => t + Int.fdiv delta nsUnit }
  let sec := cdivI (Int.fdiv u.time nsUnit) (10 ^ 9) - 1
  (({ s with tu := { u with ppsSecond := sec } }.bump rTimStepcnt).setEvt rTimEvt 2).logNow evTimeStep

/-! ### The servo (R296 to R300) -/

/-- Entry into HOLDOVER (R298). -/
def State.enterHoldover (s : State) : State :=
  let s1 := s.updServo fun v => { v with state := .holdover, fresh := true, good := 0, bad := 0 }
  if s.tu.servo.state = .holdover then s1 else ((s1.bump rTimHoldcnt).setEvt rTimEvt 1).logNow evTimeHoldover

/-- π as the servo takes it. -/
def servoPi : Rat := 3141592653589793 / 10 ^ 15

/-- Loop bandwidth B in Hz of a code of R311. -/
def bandwidthHz (code : Nat) : Rat :=
  if code = 0 then 1 / 100 else if code = 1 then 3 / 100 else if code = 2 then 1 / 10 else if code = 3 then 3 / 10 else 1

/-- Clip a rational. -/
def clampRat (lo hi x : Rat) : Rat := if x < lo then lo else if hi < x then hi else x

/-- Round a rational to the nearest integer, halves away from zero. -/
def roundRat (x : Rat) : Int := rhaz x.num x.den

/-- A phase in units of 2^-32 ns as seconds. -/
def phaseSeconds (t : Int) : Rat := (t : Rat) / (10 ^ 9 * 2 ^ 32)

/-- R296: the integral, the proportional term with its slew limit, and the rate. ρ_ref is a measurement, a free value. -/
def State.servoSteer (s : State) (theta : Int) (ts : Rat) : State :=
  let w := 2 * servoPi * bandwidthHz s.tu.bandwidth
  let th := phaseSeconds theta
  let i := s.tu.servo.integral + w * w * ts * th
  let p := clampRat (-20 / 10 ^ 6) (20 / 10 ^ 6) ((1414 / 1000 : Rat) * w * th)
  let rho : Rat := ((Config.rhoRef s.free : Nat) : Rat)
  let s1 := { s with free := s.free + 1 }.updServo fun v => { v with integral := i, prop := p }
  let r := roundRat (rho * (1 - i - p))
  (s1.demandRate r).updServo fun v => { v with baseRate := (clampI rateMin rateMax (roundRat (rho * (1 - i)))).toNat }

/-- FAR: the servo rate ± exactly 20 ppm towards θ = 0, by which the phase is then predicted to move (R297, R298). -/
def State.farRate (s : State) (theta : Int) : State :=
  let b : Int := s.tu.servo.baseRate
  let d := rhaz (b * 20) (10 ^ 6)
  let s1 := s.updServo fun v => { v with prop := if 0 < theta then 20 / 10 ^ 6 else -20 / 10 ^ 6 }
  s1.demandRate (if 0 < theta then b - d else b + d)

/-- 250 ns, 1 µs in units of 2^-32 ns. -/
def lockBand : Int := 250 * nsUnit
def nearBand : Int := 1000 * nsUnit

/-- Whole quanta nearest to a duration, halves away from zero (R36). -/
def State.quantaOf (s : State) (d : Int) : Int := rhaz (d * s.fs) (s.q * (10 ^ 9 * nsUnit))

/-- The duration of n quanta, units of 2^-32 ns. -/
def State.quantaTime (s : State) (n : Int) : Int := rhaz (n * s.q * (10 ^ 9 * nsUnit)) s.fs

/-- Accept a step for the next quantum boundary (R36, R299). -/
def State.stepLater (s : State) (d : Int) : State :=
  s.updServo fun v => { v with step := some { delta := s.quantaTime (s.quantaOf d), boundary := (s.curQuantum + 1) * s.q } }

/-- Take a phase as accepted: last phase and its time; the host may find it in TIM_THETA. -/
def State.acceptTheta (s : State) (theta : Int) : State :=
  s.updServo fun v => { v with theta := theta, lastAt := some s.time, fresh := false, bad := 0, everAccepted := true }

/-- Entry into LOCKED after eight small phases in a row (R298). -/
def State.countGood (s : State) (theta : Int) : State :=
  let n := if theta.natAbs < lockBand.toNat then s.tu.servo.good + 1 else 0
  let s1 := s.updServo fun v => { v with good := n }
  if 8 ≤ n && decide (s.tu.servo.state = .acquire) then
    ((s1.updServo fun v => { v with state := .locked }).setEvt rTimEvt 0).logNow evTimeLock
  else s1

/-- ACQUIRE with a measurement, which is the first of the eight when it is small (R298). -/
def State.acquire (s : State) (theta : Int) (ts : Rat) : State :=
  ((s.servoSteer theta ts).updServo fun v => { v with state := .acquire, good := 0 }).countGood theta

/-- R299: the first accepted measurement of a new master, a regained source or a phase jump. -/
def State.firstPhase (s : State) (theta : Int) (ts : Rat) : State :=
  let s1 := (s.acceptTheta theta).updServo fun v => { v with good := 0 }
  if theta.natAbs < nearBand.toNat then s1.acquire theta ts
  else if s.run ≠ .running then
    ((s1.stepNow (-theta)).updServo fun v => { v with state := .acquire, lastAt := none })
  else if s.tu.stepRun then (s1.stepLater (-theta)).updServo fun v => { v with state := .acquire }
  else (((s1.updServo fun v => { v with state := .far }).farRate theta).setEvt rTimEvt 3).logNow evTimeFar

/-- θ̂: the phase predicted from the last accepted measurement, which the proportional term has moved since (R297). -/
def State.predictTheta (s : State) : Option Int :=
  match s.tu.servo.lastAt with
  | none => none
  | some t => some (s.tu.servo.theta - roundRat (s.tu.servo.prop * ((s.time - t : Int) : Rat)))

/-- The measurement lies beyond the outlier limit (R297). -/
def State.isOutlier (s : State) (theta : Int) : Bool :=
  match s.predictTheta with
  | none => false
  | some h => decide ((s.tu.outlier * 1000 * 2 ^ 32 : Nat) < (theta - h).natAbs) && !s.tu.servo.fresh

/-- Count a discarded measurement (R297, R304). -/
def State.countOutlier (s : State) : State := (s.bump rTimOutlier).logOnce evPtpOutlier 0

/-- A source phase measurement θ reaches the servo (R296 to R300). -/
def State.measure (s : State) (theta : Int) (ts : Rat) : State :=
  if s.tu.servo.step.isSome then s
  else if s.isOutlier theta then
    let s1 := s.countOutlier.updServo fun v => { v with bad := v.bad + 1 }
    if s1.tu.servo.bad = 4 then s1.firstPhase theta ts else s1
  else
    let s1 := s.endRun evPtpOutlier 0
    if s.tu.servo.fresh || decide (s.tu.servo.state = .holdover) then s1.firstPhase theta ts
    else if s.tu.servo.state = .far then
      if theta.natAbs < nearBand.toNat then (s1.acceptTheta theta).acquire theta ts
      else (s1.acceptTheta theta).farRate theta
    else ((s1.acceptTheta theta).servoSteer theta ts).countGood theta

/-! ### Source inputs (R294, R295) -/

/-- Key of the selected clock input in `edges`: WCLK_IN 1, MCLK_INn 2 + n. -/
def TimeUnit.clockKey (u : TimeUnit) : Nat := if u.source = .wclk then 1 else 2 + u.mclkIn

/-- The media period nearest to a device time: its index, and how far the time lies after its start (R263, Table 10-1). -/
def State.nearestPeriod (s : State) (t : Int) : Int × Int :=
  let n := Int.fdiv (2 * (t - s.tu.origin * nsUnit) * s.fs + 10 ^ 9 * nsUnit) (2 * (10 ^ 9 * nsUnit))
  (n, t - s.startOf n)

/-- Record an edge of a source input. -/
def State.sawEdge (s : State) (key : Nat) : State :=
  { s with tu := { s.tu with edges := s.tu.edges.put key ((s.time :: s.tu.edges.getD key []).take 5) } }

/-- The multiple M of a code of TIME_CONFIG (R311). -/
def mclkMultiple (code : Nat) : Nat := 256 * 2 ^ code

/-- The deviation from nominal of what took the device time `took` and should have taken `due`, in parts per billion. -/
def deviation (took due : Int) : Int := rhaz (took * 10 ^ 9) due - 10 ^ 9

/-- The measured deviation of a source from its nominal rate: of PPS from its last two pulses, of PTP from the parent's last two Sync
exchanges, of a clock input from its last 4 blocks of 64 periods (R294, R295). A block of MCLK_INn has 64 M cycles for the M in force, which
are another number of periods for the M that is asked for. None before enough of them; none of FREE. -/
def State.sourceDev (s : State) (src : TimeSource) (mclk mul : Nat) : Option Int :=
  let blocks := fun (key : Nat) (periods : Rat) =>
    match s.tu.edges.getD key [] with
    | [a, _, _, _, b] => some (deviation ((a - b) * s.fs * periods.den) (periods.num * (10 ^ 9 * nsUnit)))
    | _ => none
  match src with
  | .free => none
  | .ptp => match s.tu.ptp.syncs with | [a, b] => if b.1 < a.1 then some (deviation (a.2 - b.2) (a.1 - b.1)) else none | _ => none
  | .pps => match s.tu.edges.getD 0 [] with | a :: b :: _ => some (deviation (a - b) (10 ^ 9 * nsUnit)) | _ => none
  | .wclk => blocks 1 256
  | .mclk => blocks (2 + mclk) (256 * (mclkMultiple s.tu.mclkMul : Rat) / (mclkMultiple mul : Rat))

/-- The measured rate of a source lies more than 500 ppm off (R295). -/
def State.sourceOff (s : State) (src : TimeSource) (mclk mul : Nat) : Bool := (s.sourceDev src mclk mul).any fun d => decide (500000 < d.natAbs)

/-- Source codes of Table 10-1. -/
def TimeSource.code : TimeSource → Nat
  | .free => 0 | .ptp => 1 | .pps => 2 | .wclk => 3 | .mclk => 4

/-- The source of a code. -/
def sourceOfCode (c : Nat) : TimeSource := if c = 1 then .ptp else if c = 2 then .pps else if c = 3 then .wclk else if c = 4 then .mclk else .free

/-- Servo state codes of Table 10-2. -/
def ServoState.code : ServoState → Nat
  | .free => 0 | .acquire => 1 | .locked => 2 | .holdover => 3 | .far => 4

/-- PTP port state codes, in the order of Table 10-3. -/
def PtpState.code : PtpState → Nat
  | .initializing => 0 | .listening => 1 | .uncalibrated => 2 | .slave => 3 | .passive => 4 | .master => 5 | .preMaster => 6
  | .faulty => 7 | .disabled => 8

/-- PPS_IN_EDGE: time stamp, count, and a phase at the nearest whole second (R24, R294). -/
def ppsInEdge (s : State) : State :=
  let t := s.time
  let sec := Int.fdiv (2 * t + 10 ^ 9 * nsUnit) (2 * (10 ^ 9 * nsUnit))
  let s1 := { s with tu := { s.tu with ppsTime := t, ppsCount := (s.tu.ppsCount + 1) % 2 ^ 32 } }.sawEdge 0
  if s.tu.source = .pps then
    { s1 with tu := { s1.tu with sourceSeen := s1.now } }.measure (t - sec * (10 ^ 9 * nsUnit)) 1
  else s1

/-- CLOCK_BLOCK_MEASURE: a block of 64 periods of input `key` closes with an edge now (R294, R296). -/
def clockBlock (key : Nat) (s : State) : State :=
  let s1 := s.sawEdge key
  if (decide (s.tu.source = .wclk) || decide (s.tu.source = .mclk)) && decide (s.tu.clockKey = key) then
    { s1 with tu := { s1.tu with sourceSeen := s1.now } }.measure (s.nearestPeriod s.time).2 ((64 : Rat) / (s.fs : Rat))
  else s1

/-- The selected source counts as lost: PPS after 1.1 s without an edge; a word or master clock as the event reports it
(Table 10-1). -/
def State.sourceLostDue (s : State) : Bool :=
  match s.tu.source with
  | .pps => decide (s.tu.sourceSeen + ticksOfMs 1100 ≤ s.now)
  | .wclk => true
  | .mclk => true
  | _ => false

/-- The next measurement is the first of a new source or master (R299). -/
def State.freshSource (s : State) : State := s.updServo fun v => { v with fresh := true, lastAt := none }

/-- Select a source (R294, R295, R298). The blocks of the MCLK inputs count anew under another multiple. -/
def State.selectSource (s : State) (src : TimeSource) (mclk mul : Nat) : State :=
  if src = .free then
    { s with tu := { s.tu with source := src, mclkIn := mclk, mclkMul := mul, rejected := none } }.updServo fun v =>
      { v with state := .free, fresh := true, lastAt := none, good := 0, bad := 0 }
  else if decide (src = s.tu.source) && decide (mclk = s.tu.mclkIn) && decide (mul = s.tu.mclkMul) then { s with tu := { s.tu with rejected := none } }
  else if s.sourceOff src mclk mul then { s with tu := { s.tu with rejected := some src } }.logNow evSrcReject [src.code]
  else
    let edges := if mul = s.tu.mclkMul then s.tu.edges else s.tu.edges.filter fun x => decide (x.1 < 2)
    let s1 := { s with tu := { s.tu with source := src, mclkIn := mclk, mclkMul := mul, rejected := none, sourceSeen := s.now, edges := edges } }
    s1.freshSource.updServo fun v => { v with good := 0, bad := 0, state := if v.state = .holdover then .holdover else .acquire }

/-- A time set by the host: a step at once, or while RUNNING at the next quantum boundary (R293, R299). -/
def State.setTime (s : State) (delta : Int) : State := if s.run = .running then s.stepLater delta else s.stepNow delta

/-- What a source event does. -/
def State.sourceAct (s : State) : SourceEvent → State
  | .lost => s.enterHoldover
  | .newMaster => s.freshSource
  | .select src mclk mul => s.selectSource src mclk mul
  | .set delta => s.setTime delta

/-- A source event: while a step waits for its boundary, it waits too (R300). -/
def State.sourceEvent (s : State) (e : SourceEvent) : State :=
  if s.tu.servo.step.isSome then s.updServo fun v => { v with waiting := v.waiting ++ [e] } else s.sourceAct e

/-- A waiting event once a step has been applied: a time set is reached by so much less (R300). -/
def SourceEvent.after (delta : Int) : SourceEvent → SourceEvent
  | .set d => .set (d - delta)
  | e => e

/-- TIME_SOURCE_LOST (R294, R298). -/
def timeSourceLost (s : State) : State := if s.sourceLostDue then s.sourceEvent .lost else s

/-- TIME_STEP_APPLY: the step takes effect at its boundary (R36), and then the source events that waited for it (R300). -/
def timeStepApply (s : State) : State :=
  match s.tu.servo.step with
  | none => s
  | some st =>
    if st.boundary ≤ s.index then
      (s.tu.servo.waiting.map (SourceEvent.after st.delta)).foldl State.sourceEvent
        ((s.updServo fun v => { v with step := none, waiting := [], lastAt := none }).stepNow st.delta)
    else s

/-- REFCLK_LOST (R309). -/
def refclkLost (s : State) : State :=
  if s.tu.refLost then s
  else ((({ s with tu := { s.tu with refLost := true } }.setEvt rClkEvt 0).bump rClkLosscnt).logNow evRefLost)

/-- REFCLK_RETURN: the counter resumes, the servo is in HOLDOVER (R309). -/
def refclkReturn (s : State) : State :=
  if s.tu.refLost then { s with tu := { s.tu with refLost := false, refFrom := s.now, refSeen := 0 } }.enterHoldover else s

/-! ### PTP (R301 to R305) -/

/-- An interval of 2^log seconds in ticks. -/
def intervalTicks (log : Int) : Nat := 400000000 * 2 ^ (log + 8).toNat / 2 ^ 8

/-- The MAC address that MAC_CONFIG gave, byte 0 first. -/
def State.macAddr (s : State) (m : Nat) : List Nat :=
  let cfg := (AMap.getD s.net.macs m {}).cfg
  octets (wd cfg 5) ++ (octets (wd cfg 6)).take 2

/-- The clockIdentity: EUI-64 with 0xFF 0xFE after the third byte of the MAC address. -/
def State.clockId (s : State) : Nat :=
  let a := s.macAddr s.tu.ptp.mac
  beNat (a.take 3 ++ [0xFF, 0xFE] ++ a.drop 3)

/-- The clockClass announced: CLASS_LOCK while LOCKED or on source FREE, else CLASS_HOLD (R303). -/
def State.ownClass (s : State) : Nat :=
  if s.tu.servo.state = .locked || decide (s.tu.source = .free) then s.tu.ptp.classLock else s.tu.ptp.classHold

/-- The data set the port announces as grandmaster (R303). -/
def State.ownAnnounce (s : State) : PtpAnnounce :=
  { prio1 := s.tu.ptp.prio1, cls := s.ownClass, accuracy := s.tu.ptp.accuracy, variance := s.tu.ptp.variance,
    prio2 := s.tu.ptp.prio2, gm := s.clockId, steps := 0 }

/-- The data set comparison of IEEE 1588-2008: whether a, sent by clock ca, is better than b, sent by clock cb (R301). -/
def announceBetter (a : PtpAnnounce) (ca : Nat) (b : PtpAnnounce) (cb : Nat) : Bool :=
  if a.gm = b.gm then
    if a.steps ≠ b.steps then decide (a.steps < b.steps) else decide (ca < cb)
  else
    let ka := [a.prio1, a.cls, a.accuracy, a.variance, a.prio2, a.gm]
    let kb := [b.prio1, b.cls, b.accuracy, b.variance, b.prio2, b.gm]
    decide (ka < kb)

/-- A foreign master is qualified: two Announces within four announce intervals (Table 10-3). -/
def State.qualified (s : State) (f : PtpForeign) : Bool :=
  decide (2 ≤ (f.heard.filter fun t => decide (s.now < t + 4 * intervalTicks s.tu.ptp.logAnnounce)).length)

/-- The best qualified foreign master. -/
def State.bestForeign (s : State) : Option PtpForeign :=
  (s.tu.ptp.foreign.filter s.qualified).foldl (fun b f =>
    match b with
    | none => some f
    | some g => if announceBetter f.data f.clock g.data g.clock then some f else some g) none

/-- Move the port to a state. -/
def State.ptpTo (s : State) (st : PtpState) : State := if s.tu.ptp.state = st then s else s.updPtp fun p => { p with state := st, since := s.now }

/-- The port takes a foreign master as its parent: a new master under R299 when PTP is the source (R303). -/
def State.takeParent (s : State) (f : PtpForeign) : State :=
  if s.tu.ptp.parent = some (f.clock, f.port) then s.updPtp fun p => { p with parentData := f.data }
  else
    let s1 := (s.updPtp fun p =>
      { p with parent := some (f.clock, f.port), parentData := f.data, lastSyncSeq := none, pending := none, delayReq := none,
               lastOffset := none, syncs := [], delays := [], lastSyncAt := s.now, lastAnnAt := s.now }).setEvt rTimEvt 4
    let s2 := s1.ptpTo .uncalibrated
    if s.tu.source = .ptp then s2.sourceEvent .newMaster else s2

/-- State decision of the best master clock algorithm (R301): a better qualified master is followed (or, with an own class
below 128, yielded to in PASSIVE); otherwise the port goes for MASTER unless it is SLAVE_ONLY. -/
def State.bmca (s : State) : State :=
  match s.bestForeign with
  | none => s
  | some f =>
    if s.tu.ptp.slaveOnly then s.takeParent f
    else if announceBetter f.data f.clock s.ownAnnounce s.clockId then
      if s.ownClass < 128 then (s.ptpTo .passive).updPtp fun p => { p with parent := none } else s.takeParent f
    else if s.tu.ptp.state = .master then s
    else (s.ptpTo .preMaster).updPtp fun p => { p with parent := none }

/-- A message that the port discards for its version, domain or source (Table 10-5). -/
def State.ptpForeign (s : State) (h : PtpHeader) : Bool :=
  decide (h.version ≠ 2) || decide (h.domain ≠ s.tu.ptp.domain) || decide (h.clock = s.clockId)

/-- The runs of PTP_SEQ: mismatched Follow_Ups, Syncs without Follow_Up, and Syncs and Announces out of sequence each run by themselves
(Table 10-5; DESIGN CHOICE, log entry 69). -/
def runFollowUp : Nat := 0
def runNoFollowUp : Nat := 1
def runSync : Nat := 2
def runAnnounce : Nat := 3

/-- Count a sequence violation of a run (Table 10-5). -/
def State.ptpSeqErr (s : State) (run : Nat) : State := (s.bump rTimSeqerr).logOnce evPtpSeq run

/-- A sequence number is later than the last accepted one, modulo 2^16 within half the range (Table 10-5). -/
def seq16Later (a : Nat) (last : Option Nat) : Bool :=
  match last with | none => true | some b => let d := (a + 65536 - b) % 65536; decide (0 < d) && decide (d < 32768)

/-- The message comes from the port's parent. -/
def State.fromParent (s : State) (h : PtpHeader) : Bool := decide (s.tu.ptp.parent = some (h.clock, h.port))

/-- The port follows a parent. -/
def State.ptpSlave (s : State) : Bool := decide (s.tu.ptp.state = .slave) || decide (s.tu.ptp.state = .uncalibrated)

/-- A complete Sync exchange: θ = t2 − t1 − d − A reaches the servo when PTP is the source (R303, R305). -/
def State.syncDone (s : State) (t1 t2 : Int) : State :=
  let s1 := s.updPtp fun p => { p with lastSyncAt := s.now, lastOffset := some (t2 - t1), pending := none, syncs := ((t1, t2) :: p.syncs).take 2 }
  let theta := t2 - t1 - s.tu.ptp.meanDelay - s.tu.ptp.asymmetry * nsUnit
  if s.tu.source = .ptp then
    (s1.measure theta ((intervalTicks s.tu.ptp.logSync : Nat) / (400000000 : Rat))).ptpTo .slave
  else s1.ptpTo .slave

/-- A Sync that was to have a Follow_Up and can have none any more: discarded and counted (Table 10-5). -/
def State.syncAlone (s : State) : State :=
  if s.tu.ptp.pending.isSome then (s.updPtp fun p => { p with pending := none }).ptpSeqErr runNoFollowUp else s

/-- PTP_SYNC_RECEIVED with the two-step flag and t1: the origin time with its correction or, of a two-step Sync, the correction alone (R305). A Sync that still
waits for its Follow_Up when the next one comes is missed (DEDUCED, log entry 69). -/
def ptpSyncReceived (h : PtpHeader) (twoStep : Bool) (t1 : Int) (s : State) : State :=
  if !s.tu.ptp.enabled then s
  else if s.ptpForeign h then s.bump rTimBadmsg
  else if !(s.ptpSlave && s.fromParent h) then s
  else if !seq16Later h.seq s.tu.ptp.lastSyncSeq then s.ptpSeqErr runSync
  else
    let s1 := (s.endRun evPtpSeq runSync).syncAlone.updPtp fun p => { p with lastSyncSeq := some h.seq }
    if twoStep then s1.updPtp fun p => { p with pending := some ⟨h.clock, h.port, h.seq, s.time, t1, s.now⟩ }
    else s1.syncDone t1 s.time

/-- PTP_FOLLOW_UP_RECEIVED: t1 is its origin time with its correction, to which that of the Sync is added (R305). -/
def ptpFollowUpReceived (h : PtpHeader) (t1 : Int) (s : State) : State :=
  if !s.tu.ptp.enabled then s
  else if s.ptpForeign h then s.bump rTimBadmsg
  else match s.tu.ptp.pending with
    | none => s.ptpSeqErr runFollowUp
    | some q =>
      if q.clock = h.clock && q.port = h.port && q.seq = h.seq then
        ((s.endRun evPtpSeq runFollowUp).endRun evPtpSeq runNoFollowUp).syncDone (t1 + q.correction) q.t2
      else s.ptpSeqErr runFollowUp

/-- PTP_FOLLOW_UP_TIMEOUT: one sync interval without the Follow_Up (Table 10-5). -/
def ptpFollowUpTimeout (s : State) : State :=
  match s.tu.ptp.pending with
  | none => s
  | some q => if q.at_ + intervalTicks s.tu.ptp.logSync ≤ s.now then s.syncAlone else s

/-- One more measured path delay: it counts when it lies within the outlier limit of the mean in force, and the mean is that of the last 8
which count (R304; DEDUCED, log entry 69). -/
def State.takeDelay (s : State) (d : Int) : State :=
  if s.tu.ptp.delays = [] || decide ((d - s.tu.ptp.meanDelay).natAbs ≤ s.tu.outlier * 1000 * 2 ^ 32) then
    let ds := (d :: s.tu.ptp.delays).take 8
    s.updPtp fun p => { p with delays := ds, meanDelay := Int.fdiv (isum ds) ds.length }
  else s

/-- PTP_DELAY_RESP_RECEIVED: t4, and the requesting port it names (R304, R305). One for another clock's request is no concern of the
port (DEDUCED, log entry 69); one for its own that matches no request of which the frame has started counts. -/
def ptpDelayRespReceived (h : PtpHeader) (forClock : Nat) (t4 : Int) (s : State) : State :=
  if !s.tu.ptp.enabled then s
  else if s.ptpForeign h then s.bump rTimBadmsg
  else if forClock ≠ s.clockId then s
  else match s.tu.ptp.delayReq with
    | some (q, some t3) =>
      if !(s.ptpSlave && s.fromParent h) || decide (q ≠ h.seq) then s.bump rTimSeqerr
      else
        let s1 := s.updPtp fun p => { p with delayReq := none }
        match s.tu.ptp.lastOffset with
        | none => s1
        | some o =>
          let d := Int.fdiv (o + (t4 - t3)) 2
          if d < 0 then s1.countOutlier else s1.takeDelay d
    | _ => s.bump rTimSeqerr

/-- Add a message to what the port has sent. -/
def State.ptpSend (s : State) (ms : List PtpSent) : State := { s with tu := { s.tu with ptpOut := s.tu.ptpOut ++ ms } }

/-- PTP_DELAY_REQ_RECEIVED as master: answered up to 512 times a second (Table 10-3). -/
def ptpDelayReqReceived (h : PtpHeader) (s : State) : State :=
  if !s.tu.ptp.enabled then s
  else if s.ptpForeign h then s.bump rTimBadmsg
  else if s.tu.ptp.state ≠ .master then s
  else
    let roll := decide (s.tu.ptp.answerFrom + 400000000 ≤ s.now)
    let n := if roll then 0 else s.tu.ptp.answered
    if 512 ≤ n then s.bump rTimBadmsg
    else (s.updPtp fun p => { p with answered := n + 1, answerFrom := if roll then s.now else p.answerFrom }).ptpSend
      [.delayResp h.seq h.clock h.port s.time]

/-- Record an Announce of a foreign master. -/
def State.hearForeign (s : State) (h : PtpHeader) (a : PtpAnnounce) : State :=
  let old := (s.tu.ptp.foreign.find? fun f => decide (f.clock = h.clock) && decide (f.port = h.port))
  let f : PtpForeign := ⟨h.clock, h.port, a, (s.now :: old.elim [] (·.heard)).take 4⟩
  s.updPtp fun p => { p with foreign := f :: (p.foreign.filter fun f => !(decide (f.clock = h.clock) && decide (f.port = h.port))) }

/-- PTP_ANNOUNCE_RECEIVED (R301, R305). -/
def ptpAnnounceReceived (h : PtpHeader) (a : PtpAnnounce) (s : State) : State :=
  if !s.tu.ptp.enabled then s
  else if s.ptpForeign h then s.bump rTimBadmsg
  else if s.fromParent h && !seq16Later h.seq s.tu.ptp.lastAnnSeq then s.ptpSeqErr runAnnounce
  else
    let s1 := if s.fromParent h then (s.endRun evPtpSeq runAnnounce).updPtp fun p => { p with lastAnnSeq := some h.seq, lastAnnAt := s.now } else s
    let s2 := (s1.hearForeign h a).bmca
    if s2.tu.ptp.parent = s.tu.ptp.parent then s2
    else s2.updPtp fun p => { p with lastAnnSeq := if s2.fromParent h then some h.seq else none }

/-- A message interval has passed since the last message. -/
def due (now : Nat) (last : Option Nat) (ticks : Nat) : Bool := match last with | none => true | some t => decide (t + ticks ≤ now)

/-- PTP_SYNC_SEND as master: a two-step Sync (R302). Its Follow_Up is made when the Sync's frame starts, with the time of that start
(State.ptpStart). -/
def ptpSyncSend (s : State) : State :=
  if s.tu.ptp.enabled && decide (s.tu.ptp.state = .master) && due s.now s.tu.ptp.syncSentAt (intervalTicks s.tu.ptp.logSync) then
    (s.updPtp fun p => { p with syncSeq := (p.syncSeq + 1) % 65536, syncSentAt := some s.now }).ptpSend
      [.sync s.tu.ptp.syncSeq]
  else s

/-- The frame of a message of the port starts on its MAC: t1 of a Sync and t3 of a Delay_Req are the time of that start (R24). -/
def State.ptpStart (s : State) : PtpSent → State
  | .sync n => s.ptpSend [.followUp n s.time]
  | .delayReq n _ => s.updPtp fun p => { p with delayReq := if p.delayReq = some (n, none) then some (n, some s.time) else p.delayReq }
  | _ => s

/-- PTP_ANNOUNCE_SEND as master (R303). -/
def ptpAnnounceSend (s : State) : State :=
  if s.tu.ptp.enabled && decide (s.tu.ptp.state = .master) && due s.now s.tu.ptp.annSentAt (intervalTicks s.tu.ptp.logAnnounce) then
    (s.updPtp fun p => { p with annSeq := (p.annSeq + 1) % 65536, annSentAt := some s.now }).ptpSend [.announce s.tu.ptp.annSeq s.ownAnnounce]
  else s

/-- PTP_DELAY_REQ_SEND as slave; an unanswered request counts (R302, Table 10-5). -/
def ptpDelayReqSend (s : State) : State :=
  if s.tu.ptp.enabled && s.ptpSlave && due s.now s.tu.ptp.reqSentAt (intervalTicks s.tu.ptp.logDelayReq) then
    let s1 := if s.tu.ptp.delayReq.isSome then s.bump rTimSeqerr else s
    (s1.updPtp fun p => { p with reqSeq := (p.reqSeq + 1) % 65536, reqSentAt := some s.now, delayReq := some (p.reqSeq, none) }).ptpSend
      [.delayReq s.tu.ptp.reqSeq s.tu.ptp.unicast]
  else s

/-- R303: no Announce for the receipt timeout, or no Sync exchange for 8 sync intervals. -/
def State.masterLostDue (s : State) : Bool :=
  s.tu.ptp.enabled && s.ptpSlave &&
  (decide (s.tu.ptp.lastAnnAt + s.tu.ptp.timeout * intervalTicks s.tu.ptp.logAnnounce ≤ s.now) ||
   decide (s.tu.ptp.lastSyncAt + 8 * intervalTicks s.tu.ptp.logSync ≤ s.now))

/-- A servo on PTP whose port follows no master any more (it is disabled, was configured anew, or has left SLAVE): no Sync exchange has
completed for 8 sync intervals, nor since PTP was selected (R303). -/
def State.masterless (s : State) : Bool :=
  decide (s.tu.source = .ptp) && decide (s.tu.servo.state ≠ .holdover) && !(s.tu.ptp.enabled && s.ptpSlave) &&
  decide (max s.tu.ptp.lastSyncAt s.tu.sourceSeen + 8 * intervalTicks s.tu.ptp.logSync ≤ s.now)

/-- PTP_MASTER_LOST (R303). -/
def ptpMasterLost (s : State) : State :=
  if s.masterLostDue then
    let gone := s.tu.ptp.parent
    let s1 := (s.ptpTo .listening).updPtp fun p =>
      { p with parent := none, pending := none, delayReq := none,
               foreign := p.foreign.filter fun f => !decide (some (f.clock, f.port) = gone) }
    if s.tu.source = .ptp then s1.sourceEvent .lost else s1
  else if s.masterless then s.sourceEvent .lost
  else s

/-- No Announce has come for the receipt timeout since the port entered its state: in LISTENING from a parent, in PASSIVE from anyone
(R301, from the state machine of IEEE 1588-2008). -/
def State.announceTimeout (s : State) : Bool :=
  let old := fun (t : Nat) => decide (t + s.tu.ptp.timeout * intervalTicks s.tu.ptp.logAnnounce ≤ s.now)
  (decide (s.tu.ptp.state = .listening) || (decide (s.tu.ptp.state = .passive) && s.tu.ptp.foreign.all fun f => f.heard.all old)) && old s.tu.ptp.since

/-- PTP_QUALIFICATION_TIMEOUT: a port in PRE_MASTER, or in LISTENING or PASSIVE after the receipt timeout, goes to MASTER (R301). -/
def ptpQualificationTimeout (s : State) : State :=
  if !s.tu.ptp.enabled || s.tu.ptp.slaveOnly then s
  else if decide (s.tu.ptp.state = .preMaster) || s.announceTimeout then s.ptpTo .master
  else s

/-! ### Commands (R311) -/

/-- Whether the board declares an input fitted: bit i of section 0x03 (R450). -/
def State.fitted (s : State) (i : Nat) : Bool := match s.boardSection 3 with | some ws => bitOf (ws.headD 0) i | none => false

/-- The source that TIME_CONFIG names is not fitted (R450). -/
def timeSourceUnfitted (p : Packet) (s : State) : Bool :=
  let c := fld (p.w 4) 2 0
  (decide (c = 2) && !s.fitted 1) || (decide (c = 3) && !s.fitted 0) || (decide (c = 4) && !s.fitted (2 + fld (p.w 4) 5 4))

/-- TIME_CONFIG (R293, R294, R299, R311). -/
def timeConfigSpec : CmdSpec where
  op := 0x701
  state := fun p s => firstDeny [
    denyIf (bitOf (p.w 4) 18 && decide (s.run = .running)) stateDeny,
    denyIf (bitOf (p.w 4) 17 && decide (s.run = .running) && !bitOf (p.w 4) 16) stateDeny,
    denyIf (timeSourceUnfitted p s) ⟨.wrongState, 0x0020⟩]
  layout := fun p _ => firstDeny [lenIs p 10,
    denyIf (reservedSet (p.w 4) (mask 2 0 + mask 5 4 + mask 9 8 + mask 18 16) || decide (4 < fld (p.w 4) 2 0) || decide (fld (p.w 4) 9 8 = 3) ||
      reservedSet (p.w 9) (mask 2 0 + mask 15 8) || decide (4 < fld (p.w 9) 2 0) || decide (fld (p.w 9) 15 8 < 1)) fieldDeny]
  act := fun p s _ _ =>
    let s1 := { s with tu := { s.tu with stepRun := bitOf (p.w 4) 16, bandwidth := fld (p.w 9) 2 0, outlier := fld (p.w 9) 15 8,
                                         origin := if bitOf (p.w 4) 18 then (u64 (p.w 7) (p.w 8) : Int) else s.tu.origin } }
    let s2 := s1.sourceEvent (.select (sourceOfCode (fld (p.w 4) 2 0)) (fld (p.w 4) 5 4) (fld (p.w 4) 9 8))
    { s := if bitOf (p.w 4) 17 then s2.sourceEvent (.set ((u64 (p.w 5) (p.w 6) : Int) * nsUnit - s.time)) else s2 }

/-- A signed interval byte of PTP_CONFIG, 0x7F standing for the profile's default. -/
def ptpInterval (b : Nat) (dflt : Int) : Int := if b = 0x7F then dflt else asSigned 8 b

/-- An interval byte lies outside the device range of Table 10-4. -/
def intervalBad (b : Nat) (lo hi : Int) : Bool := decide (b ≠ 0x7F) && (decide (asSigned 8 b < lo) || decide (hi < asSigned 8 b))

/-- PTP_CONFIG (R302, R311). -/
def ptpConfigSpec : CmdSpec where
  op := 0x702
  state := fun p s => denyIf (decide ((AMap.getD s.net.macs (fld (p.w 4) 1 0) {}).cfg = [])) stateDeny
  layout := fun p _ => firstDeny [lenIs p 9,
    denyIf (reservedSet (p.w 4) (mask 6 0 + mask 15 8) || decide (1 < fld (p.w 4) 3 2) || decide (127 < fld (p.w 4) 15 8) ||
      reservedSet (p.w 6) (mask 7 0 + mask 31 16) || intervalBad (fld (p.w 7) 7 0) (-7) 1 || intervalBad (fld (p.w 7) 15 8) (-3) 4 ||
      intervalBad (fld (p.w 7) 23 16) (-7) 5 ||
      (decide (fld (p.w 7) 31 24 ≠ 0) && (decide (fld (p.w 7) 31 24 < 2) || decide (10 < fld (p.w 7) 31 24)))) fieldDeny]
  act := fun p s _ _ =>
    let st := decide (fld (p.w 4) 3 2 = 1)
    let on := bitOf (p.w 4) 5
    { s := s.updPtp fun _ =>
      { enabled := on, named := true, mac := fld (p.w 4) 1 0, profile := fld (p.w 4) 3 2, slaveOnly := bitOf (p.w 4) 4, unicast := bitOf (p.w 4) 6,
        domain := fld (p.w 4) 15 8, prio1 := fld (p.w 5) 7 0, prio2 := fld (p.w 5) 15 8, classLock := fld (p.w 5) 23 16,
        classHold := fld (p.w 5) 31 24, accuracy := fld (p.w 6) 7 0, variance := fld (p.w 6) 31 16,
        logSync := ptpInterval (fld (p.w 7) 7 0) (-3), logAnnounce := ptpInterval (fld (p.w 7) 15 8) (if st then -2 else 1),
        logDelayReq := ptpInterval (fld (p.w 7) 23 16) (if st then -3 else 0),
        timeout := if fld (p.w 7) 31 24 = 0 then 3 else fld (p.w 7) 31 24, asymmetry := sfld (p.w 8) 31 0,
        state := if on then .listening else .disabled, since := s.now, lastAnnAt := s.now, lastSyncAt := s.now } }

/-- A phase in ns, signed and saturating at 32 bits (Table 10-7). -/
def thetaWord (t : Int) : Word := lo32 (satBits 32 (Int.fdiv t nsUnit))

/-- A clock identity as two words, first octet in [7:0] of the low word (Table 10-7). -/
def identityWords (g : Nat) : List Word :=
  let bs := (span 0 8).map fun i => g / 2 ^ (8 * (7 - i)) % 256
  [w32 (bs.getD 0 0 + bs.getD 1 0 * 2 ^ 8 + bs.getD 2 0 * 2 ^ 16 + bs.getD 3 0 * 2 ^ 24),
   w32 (bs.getD 4 0 + bs.getD 5 0 * 2 ^ 8 + bs.getD 6 0 * 2 ^ 16 + bs.getD 7 0 * 2 ^ 24)]

/-- The grandmaster's data as the port knows it: its parent's, or its own. -/
def State.gmData (s : State) : PtpAnnounce := if s.tu.ptp.parent.isSome then s.tu.ptp.parentData else s.ownAnnounce

/-- The port state that TIME_QUERY shows: an enabled port is INITIALIZING while its MAC is not enabled and FAULTY while its MAC has no
link, which is where IEEE 1588-2008 lets a port carry no message (R301; PRESUMED, log entry 69). -/
def State.ptpShown (s : State) : PtpState :=
  let x := AMap.getD s.net.macs s.tu.ptp.mac {}
  if !s.tu.ptp.enabled then s.tu.ptp.state else if !x.enabled then .initializing else if !x.link then .faulty else s.tu.ptp.state

/-- The words of Table 10-7. -/
def State.timeWords (s : State) : List Word :=
  [lo32 s.ns, hi32 s.ns, lo32 (s.time - s.ns * nsUnit), lo32 s.index, hi32 s.index,
   w32 (s.tu.servo.state.code + ((s.tu.rejected.getD s.tu.source).code) * 2 ^ 4 + s.ptpShown.code * 2 ^ 8 + flagBit s.tu.runs 12),
   thetaWord s.tu.servo.theta, lo32 (Int.fdiv s.tu.ptp.meanDelay nsUnit), w32 s.tu.rate, w32 (s.tu.rate / 2 ^ 32)] ++
  identityWords s.gmData.gm ++ [w32 (s.gmData.cls % 256 + min 255 s.gmData.steps * 2 ^ 8), lo32 s.tu.origin, hi32 s.tu.origin]

/-- TIME_QUERY (R313). -/
def timeQuerySpec : CmdSpec where
  op := 0x703
  layout := fun p _ => lenIs p 4
  act := fun _ s _ _ => { s := s, words := s.timeWords }

/-- MEDIA_CLOCK: WCLK_OUT changes at the next period whose index is a multiple of 64, PPS_OUT at the next whole second
(R307, R308). -/
def mediaClockSpec : CmdSpec where
  op := 0x704
  layout := fun p _ => firstDeny [lenIs p 6,
    denyIf (reservedSet (p.w 4) (mask 1 0 + mask 4 4) || reservedSet (p.w 5) (mask 18 0) || decide (fld (p.w 5) 18 0 < 1) ||
      decide (500000 < fld (p.w 5) 18 0)) fieldDeny]
  act := fun p s _ _ =>
    { s := { s with tu := { s.tu with wclkNext := some (fld (p.w 4) 1 0, (Int.fdiv s.index 64 + 1) * 64),
                                      ppsNext := some (bitOf (p.w 4) 4, fld (p.w 5) 18 0) } } }

/-! ### Outputs -/

/-- WCLK_OUT_MODE_SWITCH (R307); MCG12 runs while WCLK_OUT is in use. -/
def wclkOutModeSwitch (s : State) : State :=
  match s.tu.wclkNext with
  | none => s
  | some (m, i) =>
    if i ≤ s.index then
      { s with tu := { s.tu with wclkMode := m, wclkNext := none,
                                 mcg := if m = 0 then s.tu.mcg &&& ~~~(w32 4096) else s.tu.mcg ||| w32 4096 } }
    else s

/-- PPS_OUT_SECOND: at a whole second the pending settings apply, and PPS_OUT rises when enabled, unless the servo is FREE
and no source was ever accepted (R308). -/
def ppsOutSecond (s : State) : State :=
  let sec := Int.fdiv s.ns (10 ^ 9)
  if sec ≤ s.tu.ppsSecond then s
  else
    let on := s.tu.ppsNext.elim s.tu.ppsEnable Prod.fst
    let width := s.tu.ppsNext.elim s.tu.ppsWidth Prod.snd
    let quiet := decide (s.tu.servo.state = .free) && !s.tu.servo.everAccepted
    { s with tu := { s.tu with ppsSecond := sec, ppsEnable := on, ppsWidth := width, ppsNext := none,
                               ppsRose := if on && !quiet then some (sec * 10 ^ 9) else s.tu.ppsRose } }

/-- The mode of WCLK_OUT in force at the period of index n: a change waits for its period (R307). -/
def TimeUnit.wclkModeAt (u : TimeUnit) (n : Int) : Nat := u.wclkNext.elim u.wclkMode fun x => if x.2 ≤ n then x.1 else u.wclkMode

/-- Cycles of WCLK_OUT in a media period (R307). -/
def wclkCycles (mode : Nat) : Nat := if mode = 0 then 0 else if mode = 1 then 1 else if mode = 2 then 256 else 512

/-- The level of WCLK_OUT: a rising edge at the start of every media period, whole cycles in it, and each cycle high in its first half (R307). -/
def State.wclkOut (s : State) : Bool :=
  let n := wclkCycles (s.tu.wclkModeAt s.index)
  decide (n ≠ 0) && decide (Int.fdiv (2 * n * ((s.time - s.tu.origin * nsUnit) * s.fs)) (10 ^ 9 * nsUnit) % 2 = 0)

/-- The level of PPS_OUT (R308). -/
def State.ppsOut (s : State) : Bool :=
  match s.tu.ppsRose with
  | none => false
  | some t => decide (t ≤ s.ns) && decide (s.ns < t + s.tu.ppsWidth * 1000)

/-- TIM_SNAP: one cycle's raw count, device time and media index (R315). -/
def timSnap (s : State) : State :=
  { s with tu := { s.tu with snapValid := true, snapRaw := s.tu.raw, snapTime := s.time, snapIndex := s.index } }

/-- R312: after WARM reset the settings of TIME_CONFIG but T0, of PTP_CONFIG and of MEDIA_CLOCK are their defaults, and
the servo is in HOLDOVER. -/
def State.timeWarm (s : State) : State :=
  { s with tu := { s.tu with source := .free, mclkIn := 0, mclkMul := 0, stepRun := false, bandwidth := 2, outlier := 10, rejected := none,
                             ptp := {}, ptpOut := [], wclkMode := 0, wclkNext := none, ppsEnable := false, ppsWidth := 100000, ppsNext := none,
                             ppsRose := none, snapValid := false,
                             servo := { s.tu.servo with state := .holdover, fresh := true, good := 0, bad := 0, step := none, waiting := [] } } }

end Sys2Proof.Machine
end

