-- ==== Sys2Proof/Machine/Sap.lean ====
section
/-! DEFINITION. Serial audio ports and host audio taps (R254 to R288, R487): configuration, alignment sets, the life of a group,
frames in both directions, clock conditions, witness units and tap blocks. -/
namespace Sys2Proof.Machine

/-! ### Configuration words (Table 09-1) -/

/-- Fields of CFG0 and CFG1. -/
def SapGroup.slots (g : SapGroup) : Nat := fld g.cfg0 5 0
def SapGroup.sw (g : SapGroup) : Nat := 16 + 8 * fld g.cfg0 7 6
def SapGroup.dw (g : SapGroup) : Nat := 16 + 8 * fld g.cfg0 9 8
def SapGroup.master (g : SapGroup) : Bool := bitOf g.cfg0 18
def SapGroup.offset (g : SapGroup) : Nat := fld g.cfg0 17 10
def SapGroup.cycles (g : SapGroup) : Nat := g.slots * g.sw
def SapGroup.quiet (g : SapGroup) : Nat := fld g.cfg1 15 8
def SapGroup.autorej (g : SapGroup) : Bool := bitOf g.cfg1 16
/-- Port i of the group is enabled and transmits, or receives. -/
def SapGroup.transmits (g : SapGroup) (i : Nat) : Bool := bitOf g.cfg1 i && bitOf g.cfg1 (4 + i)
def SapGroup.receives (g : SapGroup) (i : Nat) : Bool := bitOf g.cfg1 i && !bitOf g.cfg1 (4 + i)
/-- The idle state of transmit balls. -/
def SapGroup.idle (g : SapGroup) : Drive := if bitOf g.cfg1 17 then .hiZ else .low

/-- The fence state with which a unit of output at index n begins (R372). -/
def State.fencedAt (s : State) (n : Int) : Bool := match s.twin.fenceFrom with | some h => s.twin.fenced != decide (h ≤ n) | none => s.twin.fenced

/-- Balls of a group at rest: transmit balls in the idle state, hi-Z while fenced; the others receive (R272, R276). -/
def State.idleBalls (s : State) (x : SapGroup) : List Drive :=
  (List.range 4).map fun i => if x.transmits i && !s.fencedAt s.index then x.idle else .hiZ

/-- Group g. -/
def State.sapGroup (s : State) (g : Nat) : SapGroup := AMap.getD s.sap.groups g {}

/-- Replace group g. -/
def State.putGroup (s : State) (g : Nat) (x : SapGroup) : State := { s with sap := { s.sap with groups := AMap.put s.sap.groups g x } }

/-- R256 for a configured group at a rate code. -/
def sapRateOk (cfg0 : Word) (code : Nat) : Bool :=
  let f := fld cfg0 5 0 * (16 + 8 * fld cfg0 7 6)
  decide (fsOf code * f ≤ 49152000) && (decide (code < 2) || decide (fld cfg0 5 0 ≤ 16)) && (decide (fld cfg0 22 21 ≠ 2) || decide (f % 2 = 0))

/-- Configuration words with a value out of range or a reserved bit (R255); with SLOTS = 0 the offset is 0. -/
def sapWordsBad (c0 c1 : Word) : Bool :=
  let slots := fld c0 5 0
  reservedSet c0 (mask 22 0) || reservedSet c1 (mask 17 0) || decide (32 < slots) || decide (fld c0 7 6 = 3) || decide (fld c0 9 8 = 3) ||
  decide (fld c0 7 6 < fld c0 9 8) || decide (fld c0 22 21 = 3) || decide (max 1 (slots * (16 + 8 * fld c0 7 6)) ≤ fld c0 17 10)

/-- SAP operations of a graph on a group agree with configuration words (R282). -/
def sapGraphOk (gr : Graph) (g : Nat) (x : SapGroup) : Bool :=
  gr.sapOps.all fun o => decide (o.2.sapPort / 4 ≠ g) || ({ groups := [(g, x)] } : Sap).opOk o.2

/-- SAP_CONFIG (R255, R256, R282). -/
def sapConfigSpec : CmdSpec where
  op := 0x601
  pair := true
  layout := fun p s => firstDeny [lenIs p 7,
    denyIf (reservedSet (p.w 4) (mask 3 0) || decide (11 < fld (p.w 4) 3 0) || sapWordsBad (p.w 5) (p.w 6) || !sapRateOk (p.w 5) s.rate) fieldDeny]
  own := fun p s _ =>
    let g := fld (p.w 4) 3 0
    let x := { s.sapGroup g with cfg0 := p.w 5, cfg1 := p.w 6 }
    firstDeny [denyIf (decide ((s.sapGroup g).state ≠ .off)) stateDeny,
      denyIf ((s.graphNow :: s.pendingGraphs).any fun gr => !sapGraphOk gr g x) (badParam 0x1A)]
  act := fun p s _ _ =>
    let g := fld (p.w 4) 3 0
    let x := { s.sapGroup g with cfg0 := p.w 5, cfg1 := p.w 6 }
    let s1 := s.putGroup g { x with balls := s.idleBalls x, tails := s.idleBalls x }
    { s := if x.master then s1.setFld (rSapgPhase + 0x400 * g) 15 0 0 else s1 }

/-! ### Alignment sets (R265 to R269) -/

/-- Groups named in a mask. -/
def maskGroups (w : Word) : List Nat := (List.range 12).filter fun g => bitOf w g

/-- A set that starts its clocks at n_c: n_d is the first multiple of Q not less than n_c + QS_max (R266). -/
def SapSet.place (x : SapSet) (s : State) (nc : Int) : SapSet := { x with waiting := false, nc := nc, nd := s.boundaryFrom (nc + x.qsMax) }

/-- The lowest free set number. -/
def State.freeSet (s : State) : Nat := ((List.range 12).find? fun n => !AMap.has s.sap.sets n).getD 0

/-- Groups of a set. -/
def State.setGroups (s : State) (n : Nat) : List Nat := (s.sap.groups.filter fun x => decide (x.2.set = some n)).map Prod.fst

/-- SAP_ARM (R265 to R268, R287). -/
def sapArmSpec : CmdSpec where
  op := 0x602
  timing := .quantum
  pair := true
  layout := fun p _ => firstDeny [lenIs p 5, denyIf (reservedSet (p.w 4) (mask 11 0 + mask 17 16) || decide (fld (p.w 4) 11 0 = 0)) fieldDeny,
    denyIf (bitOf (p.w 4) 16 && decide (p.apply ≠ 0)) fieldDeny]
  own := fun p s _ =>
    let gs := maskGroups (p.w 4)
    firstDeny [denyIf (gs.any fun g => decide ((s.sapGroup g).state ≠ .off)) busyDeny,
      denyIf (gs.any fun g => decide ((s.sapGroup g).slots = 0) || decide (fld (s.sapGroup g).cfg1 3 0 = 0)) stateDeny,
      denyIf (bitOf (p.w 4) 17 && s.sap.sets.any fun x => x.2.startOut && (x.2.waiting || decide (s.index < x.2.nd))) busyDeny]
  act := fun p s i forced =>
    let gs := maskGroups (p.w 4)
    let n := match forced with | some ws => fld (ws.headD 0) 3 0 | none => s.freeSet
    let x : SapSet := { waiting := true, startOut := bitOf (p.w 4) 17, qsMax := (gs.map fun g => (s.sapGroup g).quiet).foldl max 0, arm := some p }
    let y := if bitOf (p.w 4) 16 then x else x.place s (max i s.nextFrame)
    let s1 := gs.foldl (fun (s : State) g => s.putGroup g { s.sapGroup g with state := .armed, set := some n, label := none, from_ := none }) s
    let s2 := { s1 with sap := { s1.sap with sets := AMap.put s1.sap.sets n y } }
    let d := enqueueAct 0x602 true p s2 i
    { d with words := [w32 n], s := if p.apply = 0 then s2 else d.s, time := if bitOf (p.w 4) 16 then some s.index else none }

/-- SAP_STOP (R269): n_s is fixed at acceptance; a named group that is OFF then is left alone. -/
def sapStopSpec : CmdSpec where
  op := 0x603
  timing := .quantum
  pair := true
  layout := fun p _ => firstDeny [lenIs p 5, denyIf (reservedSet (p.w 4) (mask 11 0) || decide (fld (p.w 4) 11 0 = 0)) fieldDeny]
  act := fun p s i _ =>
    let gs := (maskGroups (p.w 4)).filter fun g => decide ((s.sapGroup g).state ≠ .off)
    { enqueueAct 0x603 true p s (max i s.nextFrame) (gs.map fun (g : Nat) => ((g : Nat) : Int)) with time := some i }

/-- A group leaves its set and is OFF; an empty set's number is free (R269, R287). -/
def State.sapOff (s : State) (g : Nat) : State :=
  let x := s.sapGroup g
  let s1 := s.putGroup g { x with state := .off, set := none, label := none, good := [], enableAt := none, from_ := none, glitched := false,
                                  repeated := false, inFrame := false, xrun := 0, balls := s.idleBalls x, tails := s.idleBalls x }
  { s1 with sap := { s1.sap with sets := s1.sap.sets.filter fun y => !(s1.setGroups y.1).isEmpty } }

/-- SAP_STOP takes effect at n_s (R269, R271). -/
def applySapStop (groups : List Int) (s : State) (n : Int) : Option State :=
  some ((groups.map Int.toNat).foldl (fun (s : State) g =>
    let x := s.sapGroup g
    match x.state with
    | .off => s
    | .closing => s
    | .armed => s.sapOff g
    | _ => s.putGroup g { x with state := .closing, was := x.state, closeAt := n, enableAt := none, xrun := 0 }) s)

/-- SAP_CLOCK_START: frame n_c of an armed group (R266, R271). -/
def sapClockStart (g : Nat) (s : State) : State :=
  let x := s.sapGroup g
  match x.set.bind fun n => AMap.find s.sap.sets n with
  | some y => if decide (x.state = .armed) && !y.waiting && decide (y.nc ≤ s.index) then s.putGroup g { x with state := .quiet, fenced := s.fencedAt y.nc } else s
  | none => s

/-- SAP_DATA_ENABLE: frame n_d of an alignment set; START_OUT rises with it (R266, R268). -/
def sapDataEnable (n : Nat) (s : State) : State :=
  match AMap.find s.sap.sets n with
  | none => s
  | some y =>
    let gs := s.setGroups n
    if y.waiting || y.enabled || decide (s.index < y.nd) || gs.any fun g => decide ((s.sapGroup g).state = .armed) then s
    else
      let s1 := gs.foldl (fun (s : State) g =>
        let x := s.sapGroup g
        if x.state = .quiet then s.putGroup g { x with state := .run } else s) s
      { s1 with sap := { s1.sap with sets := AMap.put s1.sap.sets n { y with enabled := true },
                                     startOut := if y.startOut then some y.nd else s1.sap.startOut } }

/-- START_OUT now (R268). -/
def State.startOutHigh (s : State) : Bool := decide (s.sap.startOut = some s.index)

/-- Fix n_c of every set that waits for START_IN (R267). -/
def State.startSets (s : State) (nc : Int) : State :=
  { s with sap := { s.sap with sets := AMap.mapVal s.sap.sets fun x => if x.waiting then x.place s nc else x } }

/-- The holder relays the START_IN index of each waiting SAP_ARM in a second entry (R392). -/
def State.relayStart (s : State) : State :=
  let arms := (s.sap.sets.filter fun x => x.2.waiting).filterMap fun x => x.2.arm
  if s.twin.enabled && s.twin.lock then
    { s with twin := { s.twin with relayOut := s.twin.relayOut ++ arms.map fun p => (⟨1, p.atOrigin.ch, s.index + 1, 0x602, p.atOrigin, none⟩ : RelayEntry) } }
  else s

/-- START_IN_EDGE (R267); a partner ignores its own ball while twin is enabled (R392). -/
def startInEdge (s : State) : State :=
  if s.twin.enabled && decide (s.twin.state ≠ .active) then s else s.relayStart.startSets (s.index + 1)

/-- SAP_CLOSE_DONE: QS frames after n_s (R269). -/
def sapCloseDone (g : Nat) (s : State) : State :=
  let x := s.sapGroup g
  if decide (x.state = .closing) && decide (x.closeAt + x.quiet ≤ s.index) then s.sapOff g else s

/-! ### Labels (R262 to R264) -/

/-- A register of a group's block. -/
def State.sapReg (_ : State) (g base : Nat) : Nat := base + 0x400 * g

/-- Device time at an environment tick not later than now. -/
def State.timeAtTick (s : State) (t : Nat) : Int := ({ s.tu with raw := s.tu.raw - (s.now - t) } : TimeUnit).time

/-- The group's state shows a running clock that the monitor watches (R275). -/
def SapState.watched (x : SapState) : Bool := decide (x = .quiet) || decide (x = .run) || decide (x = .rejoin)

/-- Phase of a frame whose edge falls at t against index n, in units of 1/(2^32 · 10^9) sample. -/
def State.phaseOf (s : State) (t n : Int) : Int := (t - s.startOf n) * s.fs

/-- One sample in that unit. -/
def onePhase : Int := 10 ^ 9 * nsUnit

/-- Index n of a receive channel carries zeros. -/
def State.zeroPort (s : State) (g i : Nat) (n : Int) : State :=
  let x := s.sapGroup g
  if x.receives i then (List.range x.slots).foldl (fun (s : State) k => s.ringPut (sapKey (4 * g + i) k) n 0) s else s

/-- Every receive channel of the group carries zeros at index n. -/
def State.zeroGroup (s : State) (g : Nat) (n : Int) : State := (List.range 4).foldl (fun (s : State) i => s.zeroPort g i n) s

/-- Every receive channel of the group is substituted at index n. -/
def State.substGroup (s : State) (g : Nat) (n : Int) : State :=
  let x := s.sapGroup g
  (List.range 4).foldl (fun (s : State) i => (List.range x.slots).foldl (fun (s : State) k => s.ringDel (sapKey (4 * g + i) k) n) s) s

/-- A slip: the frame takes index m in place of n (R264). -/
def State.sapSlip (s : State) (g : Nat) (n m : Int) : State :=
  let s1 := ((s.bump (rSapgSlipcnt + 0x400 * g)).setEvt (rSapgEvt + 0x400 * g) 4).logAt evSapSlip m []
  if n < m then (List.range (m - n).toNat).foldl (fun (s : State) (j : Nat) => s.zeroGroup g (n + j)) s1 else s1

/-- Give a slave group's frame its label (R263, R264). -/
def State.labelSlave (s : State) (g : Nat) (x : SapGroup) (f : SapFrame) : State :=
  let t := s.timeAtTick f.edge
  let near := (s.nearestPeriod t).1
  let put := fun (s : State) (n : Int) (rep : Bool) =>
    (s.putGroup g { x with label := some n, edge := f.edge, repeated := rep, glitched := false }).setFld (rSapgPhase + 0x400 * g) 15 0
      (BitVec.ofInt 16 (fdivI (s.phaseOf t n * 1024) onePhase)).toNat
  match x.label with
  | none => put s near false
  | some l =>
    let n := l + 1
    let ph := s.phaseOf t n
    if !f.had then s.putGroup g { x with label := some n, edge := f.edge, repeated := false, glitched := false }
    else if decide (4 * ph < -(3 * onePhase)) || decide (3 * onePhase < 4 * ph) then put (s.sapSlip g n near) near (decide (near ≤ l))
    else put s n false

/-- A witness unit records a frame of a group, which its FS edge tells from the others (R273, R274). -/
def WitnessUnit.record (u : WitnessUnit) (frame : Nat × Nat) (n ns : Int) : WitnessUnit :=
  if u.last = some frame then u
  else if 64 ≤ u.fifo.length then { u with lost := true, last := some frame }
  else { fifo := u.fifo ++ [⟨n, ns, u.lost⟩], lost := false, last := some frame }

/-- Source group of witness unit w. -/
def State.witnessSource (s : State) (w : Nat) : Nat :=
  let v := s.regFld rSapgWitctl (4 * w + 3) (4 * w)
  if 12 ≤ v then 0 else v

/-- The witness units that watch group g record its frame n with its FS edge (R273). -/
def State.witnessFrame (s : State) (g : Nat) (n : Int) (f : SapFrame) : State :=
  if (s.sapGroup g).state.watched && decide (n % 64 = 0) then
    (List.range 4).foldl (fun (s : State) w =>
      if bitOf (s.reg rSapgWitctl) (16 + w) && decide (s.witnessSource w = g) then
        let u := s.sap.witness.getD w {}
        let full := decide (64 ≤ u.fifo.length) && decide (u.last ≠ some (g, f.edge))
        let s1 := { s with sap := { s.sap with witness := s.sap.witness.set w (u.record (g, f.edge) n (Int.fdiv (s.timeAtTick f.edge) nsUnit)) } }
        if full then s1.setEvt rSapgEvt 7 else s1
      else s) s
  else s

/-- A frame of a group is in progress, with its fence state, or is over (R372). -/
def State.frameOn (s : State) (g : Nat) (on : Bool) : State :=
  let x := s.sapGroup g
  s.putGroup g { x with inFrame := on, fenced := if on then s.fencedAt (x.label.getD 0) else x.fenced }

/-- The frame with an FS edge at a tick has its label; a second report of one frame changes nothing (R262, R263). A run of glitches ends
with a frame that had none (R275). -/
def State.labelFrame (s : State) (g : Nat) (f : SapFrame) : State :=
  let x := s.sapGroup g
  if decide (x.label ≠ none) && decide (x.edge = f.edge) then s
  else
    let s0 := if x.glitched then s else s.endRun evSapGlitch g
    let s1 := if x.master then
        s0.putGroup g { x with label := some (s.nearestPeriod (s.timeAtTick f.edge)).1, edge := f.edge, repeated := false, glitched := false }
      else s0.labelSlave g x f
    s1.frameOn g true

/-! ### The state in which a frame stands (R266, R269, R271, R277) -/

/-- The boundary at which an accepted SAP_STOP that has not taken effect disables a group's data. -/
def State.stopAt (s : State) (g : Nat) : Option Int :=
  ((s.changes.filter fun c => decide (c.op = 0x603) && c.data.contains ((g : Nat) : Int)).map s.effIndex).foldl
    (fun (b : Option Int) n => some (b.elim n (min n))) none

/-- A group that its start or rejoin has reached, or not yet, in frame n. -/
def State.startedAs (s : State) (x : SapGroup) (st : SapState) (n : Int) : SapState :=
  match st with
  | .rejoin => if x.enableAt.any fun b => decide (b ≤ n) then .run else .rejoin
  | .armed | .quiet | .run =>
    match x.from_, x.set.bind fun k => AMap.find s.sap.sets k with
    | some b, _ => if b ≤ n then .run else .rejoin
    | none, some y => if y.waiting || decide (n < y.nc) then .armed else if n < y.nd then .quiet else .run
    | none, none => st
  | st => st

/-- The state in which frame n of a group stands, by its label: a slave's frames begin before or after the media periods at which the group
itself changes state (R263). -/
def State.frameState (s : State) (g : Nat) (n : Int) : SapState :=
  let x := s.sapGroup g
  match x.state with
  | .off => .off
  | .closing => if x.closeAt ≤ n then .closing else s.startedAs x x.was n
  | st => if decide (st ≠ .armed) && (s.stopAt g).any (fun b => decide (b ≤ n)) then .closing else s.startedAs x st n

/-- Glitch periods of a frame (R275). -/
def State.sapGlitch (s : State) (g n : Nat) (label : Int) : State :=
  let x := s.sapGroup g
  if decide (n = 0) || !x.state.watched then s
  else
    let s1 := s.putGroup g { x with glitched := true, balls := (List.range 4).map fun i => if x.transmits i && !s.fencedAt label then x.idle else x.balls.getD i .low }
    ((s1.bump (rSapgGlitchcnt + 0x400 * g) n).setEvt (rSapgEvt + 0x400 * g) 1).logOnceAt evSapGlitch g label []

/-! ### Bits (R257, R258) -/

/-- The word of slot k in what a port's data line carried from cycle 0 of a frame on: its bits, MSB first, from cycle OFFSET + k × SW; cycle F
and those after it lie in the following frame (R257). -/
def SapGroup.rxWord (x : SapGroup) (bits : List Bool) (k : Nat) : Nat :=
  (List.range x.dw).foldl (fun v i => 2 * v + b2n (bits.getD (x.offset + k * x.sw + i) false)) 0

/-- What a ball carries at bit p of a frame's slots: bits from DW to SW − 1 of a slot are zero (R257). -/
def SapGroup.slotBit (x : SapGroup) (d : Drive) (p : Nat) : Option Bool :=
  match d with
  | .hiZ => none
  | .low => some false
  | .words ws => some (decide (p % x.sw < x.dw) && ((ws.getD (p / x.sw) 0) % (2 ^ x.dw : Int)).toNat.testBit (x.dw - 1 - p % x.sw))

/-- States in which no frame drives the balls: the idle state stands on them (R271, R276). -/
def SapState.rests (x : SapState) : Bool := decide (x = .off) || decide (x = .armed) || decide (x = .stopped) || decide (x = .ratehold)

/-- The level of data ball i in cycle c of the last frame, none in hi-Z: the bits of the frame before reach into its first OFFSET cycles, each
frame with its own fence state (R257, R272, R384). -/
def State.dataLevel (s : State) (g i c : Nat) : Option Bool :=
  let x := s.sapGroup g
  if !x.transmits i then none
  else if x.state.rests then (if s.fencedAt s.index then none else x.slotBit x.idle 0)
  else if c < x.offset then x.slotBit (x.tails.getD i .low) (c + x.cycles - x.offset)
  else x.slotBit (x.balls.getD i .low) (c - x.offset)

/-- Cycles for which a master's FS is active (Table 09-1, FSW). -/
def SapGroup.fsWidth (x : SapGroup) : Nat := if fld x.cfg0 22 21 = 0 then 1 else if fld x.cfg0 22 21 = 1 then x.sw else x.cycles / 2

/-- A master group's clock balls: none in hi-Z; at rest the idle state; while its clocks run, the level given (R258, R266, R269, R272,
R276). A slave receives both. -/
def State.clockLevel (s : State) (g : Nat) (v : SapGroup → Bool) : Option Bool :=
  let x := s.sapGroup g
  if !x.master then none
  else if decide (x.state = .off) || decide (x.state = .armed) then (if s.fencedAt s.index then none else x.slotBit x.idle 0)
  else if x.fenced then none else some (v x)

/-- FS in cycle c: active from cycle 0 for its width (R258). -/
def State.fsLevel (s : State) (g c : Nat) : Option Bool := s.clockLevel g fun x => decide (c < x.fsWidth) != bitOf x.cfg0 20

/-- BCLK in a half of a cycle, which begins with the launching edge (Table 09-1, BEDGE). -/
def State.bclkLevel (s : State) (g : Nat) (second : Bool) : Option Bool := s.clockLevel g fun x => second != bitOf x.cfg0 19

/-! ### Frames -/

/-- A received word at scale 2^31 (R260). -/
def rxValue (dw : Nat) (w : Word) : Int := asSigned dw w.toNat * 2 ^ (32 - dw)

/-- A transmitted sample and whether it was clipped (R261). -/
def txValue (dw : Nat) (v : Int) : Int × Bool := (fdivI (satBits 32 v) (2 ^ (32 - dw)), overBits 32 v)

/-- Port p underruns or overruns in a frame, or not (R279, R280). -/
def State.portXrun (s : State) (p ev : Nat) (n : Int) (bad : Bool) : State :=
  let g := p / 4
  let i := p % 4
  let x := s.sapGroup g
  let had := x.xrun.testBit i
  let s1 := s.putGroup g { x with xrun := if had = bad then x.xrun else if bad then x.xrun + 2 ^ i else x.xrun - 2 ^ i }
  if bad then ((s1.bump (rSapgXrun + 0x400 * g + 4 * i)).setEvt (rSapgEvt + 0x400 * g) 5).logOnceAt ev p n [] else s1.endRun ev p

/-- Port i of a group takes what its line carried from cycle 0 of frame n on into its input ring (R257, R260, R266, R270). -/
def State.takePort (s : State) (g i : Nat) (n : Int) (bits : List Bool) (full : Bool) : State :=
  let x := s.sapGroup g
  if !x.receives i || !s.processing then s
  else if full then (List.range x.slots).foldl (fun (s : State) k => s.ringDel (sapKey (4 * g + i) k) n) (s.portXrun (4 * g + i) evSapOverrun n true)
  else (List.range x.slots).foldl (fun (s : State) k => s.ringPut (sapKey (4 * g + i) k) n (rxValue x.dw (w32 (x.rxWord bits k))))
    (s.portXrun (4 * g + i) evSapOverrun n false)

/-- The mean of 64 periods lies within 500 ppm of 1/fs (R277): periods are in units of 0.125 ns. -/
def State.meanGood (s : State) (ps : List Nat) : Bool :=
  let d : Int := (nsum ps * s.fs : Nat) - (ps.length * 8 * 10 ^ 9 : Nat)
  decide (d.natAbs * 1000000 ≤ 500 * (ps.length * 8 * 10 ^ 9))

/-- A frame in REJOIN counts when it has F cycles and no glitch; with the count met the group is relabelled and data waits for
the next quantum boundary (R277). -/
def State.rejoinFrame (s : State) (g : Nat) (f : SapFrame) : State :=
  let x := s.sapGroup g
  if decide (x.state ≠ .rejoin) || decide (x.enableAt ≠ none) then s
  else if decide (f.cycles ≠ x.cycles) || !f.had || decide (f.glitches ≠ 0) || x.glitched then s.putGroup g { x with good := [] }
  else
    let good := (f.period :: x.good).take 64
    if good.length = 64 && s.meanGood good then
      let n := (s.nearestPeriod (s.timeAtTick f.edge)).1
      s.putGroup g { x with good := good, label := some n, enableAt := some (s.boundaryFrom (n + 1)) }
    else s.putGroup g { x with good := good }

/-- Framing errors of a frame: an FS edge away from cycle F, or none (R278). -/
def State.framing (s : State) (g : Nat) (f : SapFrame) (n : Int) : State × Bool :=
  let x := s.sapGroup g
  if x.master || decide (x.state = .off) || decide (f.glitches ≠ 0) || x.glitched then (s, false)
  else if f.had && decide (f.cycles = x.cycles) then (s.endRun evSapFraming g, false)
  else (((s.bump (rSapgFramecnt + 0x400 * g)).setEvt (rSapgEvt + 0x400 * g) 3).logOnceAt evSapFraming g n [], true)

/-- SAP_RECEIVE_FRAME: a frame of a group has ended (R257, R260 to R264, R270, R273 to R278, R280). `bits` are the levels of data lines 4g to
4g + 3, sampled cycle by cycle from cycle 0 of the frame to the last bit of its last slot; bit i of `full` says that port 4g + i found its
FIFO full. -/
def sapReceiveFrame (g : Nat) (f : SapFrame) (bits : List (List Bool)) (full : Nat) (s : State) : State :=
  if decide ((s.sapGroup g).state = .off) || decide (12 ≤ g) then s
  else
    let s1 := s.labelFrame g f
    let n := (s1.sapGroup g).label.getD 0
    let s2 := (s1.witnessFrame g n f).sapGlitch g f.glitches n
    let fr := s2.framing g f n
    let x := fr.1.sapGroup g
    let s3 := (if x.glitched then fr.1 else fr.1.endRun evSapGlitch g).frameOn g false
    if x.repeated then s3
    else match s3.frameState g n with
      | .run =>
        if x.glitched then s3.substGroup g n
        else if fr.2 then s3.zeroGroup g n
        else (List.range 4).foldl (fun (s : State) i => s.takePort g i n (bits.getD i []) (full.testBit i)) s3
      | .quiet => if x.glitched then s3.substGroup g n else s3.zeroGroup g n
      | .closing => s3.zeroGroup g n
      | .rejoin => s3.rejoinFrame g f
      | _ => s3

/-- The words that a transmit port sends in frame n: its sink values 2Q + 3 samples back (R31, R72, R261); clips are counted. -/
def State.sendWords (s : State) (p : Nat) (n : Int) : State × Drive :=
  let x := s.sapGroup (p / 4)
  let vs := (List.range x.slots).map fun k => txValue x.dw ((s.outAt (sapKey p k) (n - (2 * s.q + 3 : Nat))).getD 0)
  (s.count 0x10 p (vs.countP fun v => v.2), .words (vs.map Prod.fst))

/-- One transmit port at a frame start (R266, R269, R270, R272, R276, R279). -/
def State.sendPort (s : State) (g : Nat) (n : Int) (starved : Nat) (i : Nat) : State :=
  let x := s.sapGroup g
  let zeros := Drive.words (List.replicate x.slots 0)
  let put := fun (s : State) (d : Drive) =>
    let y := s.sapGroup g
    s.putGroup g { y with tails := y.tails.set i (y.balls.getD i .low), balls := y.balls.set i (if s.fencedAt n then .hiZ else d) }
  if !x.transmits i then s
  else match s.frameState g n with
    | .run =>
      if x.glitched then put s x.idle
      else if x.repeated then put s zeros
      else if starved.testBit i then put (s.portXrun (4 * g + i) evSapUnderrun n true) zeros
      else
        let r := (s.portXrun (4 * g + i) evSapUnderrun n false).sendWords (4 * g + i) n
        put r.1 r.2
    | .quiet => put s (if x.glitched then x.idle else zeros)
    | .closing => put s zeros
    | _ => put s x.idle

/-- SAP_TRANSMIT_FRAME: a frame of a group begins (R262 to R264, R272, R276, R279). -/
def sapTransmitFrame (g : Nat) (f : SapFrame) (starved : Nat) (s : State) : State :=
  if decide ((s.sapGroup g).state = .off) || decide (12 ≤ g) then s
  else
    let s1 := s.labelFrame g f
    let n := (s1.sapGroup g).label.getD 0
    let s2 := (s1.witnessFrame g n f).sapGlitch g f.glitches n
    (List.range 4).foldl (fun (s : State) i => s.sendPort g n starved i) s2

/-! ### Clock conditions (R275 to R277) -/

/-- A group loses its clock: the frame in progress is substituted and the balls idle (R276). Once the clock is back, its frames are
labelled anew (R263). -/
def State.sapHold (s : State) (g : Nat) (st : SapState) (n : Int) : State :=
  let x := s.sapGroup g
  (s.putGroup g { x with state := st, good := [], enableAt := none, label := if st = .stopped then none else x.label,
                         balls := (List.range 4).map fun i => if x.transmits i && !s.fencedAt n then x.idle else x.balls.getD i .low }).substGroup g n

/-- SAP_CLOCK_STOPPED. -/
def sapClockStopped (g : Nat) (s : State) : State :=
  let x := s.sapGroup g
  if x.state.watched then
    let n := (x.label.map fun l => if x.inFrame then l else l + 1).getD s.index
    (((s.sapHold g .stopped n).bump (rSapgStopcnt + 0x400 * g)).setEvt (rSapgEvt + 0x400 * g) 0).logAt evSapStopped n []
  else s

/-- Deviation of a block of 256 frame periods, in units of 0.125 ns, from 1/fs (R275). -/
def State.blockDev (s : State) (sum : Nat) : Int := ((sum * s.fs : Nat) : Int) - 2048 * 10 ^ 9

/-- SAP_RATE_CHECK: a block of 256 frames closes (R275, SAPG_RATE). -/
def sapRateCheck (g sum : Nat) (s : State) : State :=
  let x := s.sapGroup g
  match x.label with
  | none => s
  | some n =>
    if !x.state.watched || decide (n % 256 ≠ 255) then s
    else
      let d := s.blockDev sum
      let s1 := s.setFld (rSapgRate + 0x400 * g) 15 0 (BitVec.ofInt 16 (satBits 16 (rhe (d * 1000000) (2048 * 10 ^ 9)))).toNat
      if 500 * (2048 * 10 ^ 9) < d.natAbs * 1000000 then
        (((s1.sapHold g .ratehold n).bump (rSapgRatecnt + 0x400 * g)).setEvt (rSapgEvt + 0x400 * g) 2).logAt evSapRate n []
      else s1

/-- SAP_REJOIN_START: the first BCLK edge in STOPPED or RATEHOLD with AUTOREJ (R277). -/
def sapRejoinStart (g : Nat) (s : State) : State :=
  let x := s.sapGroup g
  if (decide (x.state = .stopped) || decide (x.state = .ratehold)) && x.autorej then
    s.putGroup g { x with state := .rejoin, good := [], enableAt := none, label := none }
  else s

/-- SAP_REJOIN_DONE: the quantum boundary at which a rejoined group enables data (R277). -/
def sapRejoinDone (g : Nat) (s : State) : State :=
  let x := s.sapGroup g
  match x.enableAt with
  | some b =>
    if decide (x.state = .rejoin) && decide (b ≤ s.index) then
      ((s.putGroup g { x with state := .run, from_ := some b, good := [], enableAt := none }).setEvt (rSapgEvt + 0x400 * g) 6).logAt evSapRejoin b []
    else s
  | none => s

/-- SAPG_WTPOP (Table 09-7). -/
def sapgWtpop (v : Word) (s : State) : State :=
  if bitOf v 0 then
    let u := s.regFld rSapgWtsel 1 0
    let x := s.sap.witness.getD u {}
    { s with sap := { s.sap with witness := s.sap.witness.set u { x with fifo := x.fifo.drop 1 } } }
  else s

/-! ### Host audio taps (R283 to R286) -/

/-- The tap stream key of a direction and first channel. -/
def tapStreamKey (dir t0 : Nat) : Nat := dir * 256 + t0

/-- A graph has a tap operation with exactly this range (R283): direction 0 is TAP_RX. -/
def tapOpOf (gr : Graph) (dir t0 n : Nat) : Bool :=
  (gr.ofKind (if dir = 0 then 0x04 else 0x0B)).any fun x => decide (x.2.tapFirst = t0) && decide (x.2.tapCount = n)

/-- Direction and release of TAP_CONFIG. -/
def tapDir (p : Packet) : Nat := b2n (bitOf (p.w 4) 24)

/-- TAP_CONFIG (R283, R287, R436): its range is judged against the current graph, also for a release. -/
def tapConfigSpec : CmdSpec where
  op := 0x604
  timing := .quantum
  layout := fun p s =>
    let k := fld (p.w 8) 15 0
    firstDeny [lenIs p 9, denyIf (reservedSet (p.w 4) (mask 7 0 + mask 16 8 + mask 24 24 + mask 31 31) || reservedSet (p.w 5) (mask 2 0) ||
        reservedSet (p.w 8) (mask 15 0)) fieldDeny,
      denyIf (decide (4 < fld (p.w 5) 2 0) || decide (k < 2) || decide (u64 (p.w 6) (p.w 7) % 64 ≠ 0) ||
        decide (2 ^ 47 ≤ u64 (p.w 6) (p.w 7))) fieldDeny,
      denyIf (!bitOf (p.w 4) 31 && !s.pcie) stateDeny]
  own := fun p s _ => denyIf (!tapOpOf s.graphNow (tapDir p) (fld (p.w 4) 7 0) (fld (p.w 4) 16 8)) (badParam 0x14)
  act := fun p s i _ => enqueueAct 0x604 true p s i

/-- TAP_CONFIG takes effect; dropped when its tap operation is gone. -/
def applyTapConfig (p : Packet) (s : State) (_ : Int) : Option State :=
  let key := tapStreamKey (tapDir p) (fld (p.w 4) 7 0)
  if !tapOpOf s.graphNow (tapDir p) (fld (p.w 4) 7 0) (fld (p.w 4) 16 8) then none
  else
    let st : TapStream := { count := fld (p.w 4) 16 8, pack := fld (p.w 5) 2 0, base := u64 (p.w 6) (p.w 7), blocks := fld (p.w 8) 15 0 }
    some { s with sap := { s.sap with taps := if bitOf (p.w 4) 31 then AMap.del s.sap.taps key else AMap.put s.sap.taps key st } }

/-- Data width and bytes of a packing (Table 09-5). -/
def packDw (k : Nat) : Nat := if k ≤ 2 then 24 else if k = 3 then 32 else 16
def packBytes (k : Nat) : Nat := if k = 0 then 3 else if k = 4 then 2 else 4

/-- The low n octets of an integer, least significant first. -/
def intOctets (v : Int) (n : Nat) : List Nat := (List.range n).map fun i => (Int.fdiv v (2 ^ (8 * i)) % 256).toNat

/-- The octets of a DW-bit word in a packing. -/
def packSample (k : Nat) (p : Int) : List Nat := if k = 1 then intOctets (p * 256) 4 else intOctets p (packBytes k)

/-- The word that octets spell in a packing. -/
def unpackSample (k : Nat) (bs : List Nat) : Int :=
  let v := fun (l : List Nat) => l.foldr (fun b a => b + 256 * a) 0
  asSigned (packDw k) (if k = 1 then v (bs.drop 1) else v bs)

/-- Octets as words, the last filled with 0. -/
def wordsOfOctets (bs : List Nat) : List Word :=
  (List.range (cdivN bs.length 4)).map fun i =>
    w32 (bs.getD (4 * i) 0 + bs.getD (4 * i + 1) 0 * 2 ^ 8 + bs.getD (4 * i + 2) 0 * 2 ^ 16 + bs.getD (4 * i + 3) 0 * 2 ^ 24)

/-- Length of a block in bytes (R284). -/
def TapStream.blockLen (x : TapStream) (q : Nat) : Nat := cdivN (16 + q * x.count * packBytes x.pack) 64 * 64

/-- The samples of a block from the host: channel j at sample i (R284, R285). -/
def TapStream.sample (x : TapStream) (block : List Word) (i j : Nat) : Int :=
  let b := packBytes x.pack
  let bs := block.flatMap octets
  unpackSample x.pack ((bs.drop (16 + (i * x.count + j) * b)).take b) * 2 ^ (32 - packDw x.pack)

/-- TAP_BLOCK_READ: the device reads block k of a stream from the host (R286). -/
def tapBlockRead (t0 : Nat) (k : Int) (block : List Word) (s : State) : State :=
  match AMap.find s.sap.taps (tapStreamKey 0 t0) with
  | none => s
  | some x =>
    let first := k * s.q
    if s.index < first + s.q - 1 then s
    else if s.pcie && decide (block.getD 0 0 = lo32 first) && decide (block.getD 1 0 = hi32 first) then
      let s1 := (List.range x.count).foldl (fun (s : State) j =>
        (List.range s.q).foldl (fun (s : State) (i : Nat) => s.ringPut (tapKey (t0 + j)) (first + i) (x.sample block i j)) s) s
      s1.endRun evTapMissing t0
    else
      let s1 := (List.range x.count).foldl (fun (s : State) j =>
        (List.range s.q).foldl (fun (s : State) (i : Nat) => s.ringDel (tapKey (t0 + j)) (first + i)) s) s
      (((s1.count 0x11 (tapStreamKey 0 t0)).bump rTapMisscnt).setEvt rTapEvt 1).logOnceAt evTapMissing t0 first []

/-- The words of block k towards the host. -/
def State.tapWords (s : State) (t0 : Nat) (x : TapStream) (first : Int) : List Word :=
  let at_ := fun (i j : Nat) => s.outAt (tapKey (t0 + j)) (first + i)
  let subst := (List.range x.count).any fun j => (List.range s.q).any fun i => (at_ i j).isNone
  let body := (List.range s.q).flatMap fun i => (List.range x.count).flatMap fun j =>
    packSample x.pack (txValue (packDw x.pack) ((at_ i j).getD 0)).1
  [lo32 first, hi32 first, w32 (b2n subst), 0] ++ wordsOfOctets body

/-- A stream's block of a quantum is dealt with; with the last one OUTDONE sets (R487). -/
def State.tapHandled (s : State) (t0 : Nat) (k : Int) (written : Bool) : State :=
  let l := if s.sap.tapDone.1 = k then t0 :: s.sap.tapDone.2.filter (· != t0) else [t0]
  let all := s.sap.taps.all fun x => decide (x.1 < 256) || l.contains (x.1 - 256)
  let s1 := { s with sap := { s.sap with tapDone := (k, l) } }
  if all && written then s1.setEvt rTapEvt 0 else s1

/-- TAP_BLOCK_WRITE: the device writes block k of a stream, samples then header (R72, R286, R487). -/
def tapBlockWrite (t0 : Nat) (k : Int) (s : State) : State :=
  match AMap.find s.sap.taps (tapStreamKey 1 t0) with
  | none => s
  | some x =>
    let first := k * s.q
    if decide (s.index < s.deadlineIndex k) || (decide (s.sap.tapDone.1 = k) && s.sap.tapDone.2.contains t0) then s
    else if s.pcie then
      let b : TapBlock := { addr := x.base + (k % (x.blocks : Int)).toNat * x.blockLen s.q, words := s.tapWords t0 x first }
      { s with sap := { s.sap with tapOut := s.sap.tapOut ++ [b] } }.tapHandled t0 k true
    else ((s.bump rTapLostcnt).setEvt rTapEvt 2).tapHandled t0 k false

end Sys2Proof.Machine
end

