-- ==== Sys2Proof/Machine/Net.lean ====
section
/-! DEFINITION. The media network (R316 to R345): MAC configuration, classification of received frames, flow control, queues and
shapers, auxiliary rings, and the stream engine with its jitter buffers. -/
namespace Sys2Proof.Machine

/-! ### MACs -/

/-- MAC m. -/
def State.mac (s : State) (m : Nat) : Mac := AMap.getD s.net.macs m {}

/-- Replace MAC m. -/
def State.putMac (s : State) (m : Nat) (x : Mac) : State := { s with net := { s.net with macs := AMap.put s.net.macs m x } }

/-- Words of the last MAC_CONFIG, w4 on. -/
def Mac.w (x : Mac) (i : Nat) : Word := wd x.cfg i

/-- Speed in Mbit/s. -/
def Mac.speed (x : Mac) : Nat := if fld (x.w 4) 5 4 = 1 then 2500 else if fld (x.w 4) 5 4 = 2 then 1000 else 10000
/-- MTU; own MAC and IPv4 address; control port; log2 of the ring size. -/
def Mac.mtu (x : Mac) : Nat := fld (x.w 8) 31 16
def Mac.addr (x : Mac) : Nat := (x.w 5).toNat + 2 ^ 32 * fld (x.w 6) 15 0
def Mac.ip (x : Mac) : Nat := (x.w 7).toNat
def Mac.port (x : Mac) : Nat := fld (x.w 8) 15 0
def Mac.ringSize (x : Mac) : Nat := 2 ^ fld (x.w 11) 3 0

/-- Count statistic i of MAC m (R326): the count wraps, and its half range shows. -/
def State.macStat (s : State) (m i : Nat) (n : Nat := 1) : State :=
  let a := rMacStat + 0x400 * m + 4 * i
  let v := (s.reg a).toNat
  let s1 := s.setReg a (w32 (v + n))
  if decide (v < 2 ^ 31) && decide (2 ^ 31 ≤ v + n) then (s1.setEvt (rMacSthalf + 0x400 * m) i).setEvt (rMacEvt + 0x400 * m) 5 else s1

/-- Ticks of 2.5 ns in n units of 512 bit times at a speed in Mbit/s, rounded up. -/
def pauseTicks (n speed : Nat) : Nat := cdivN (n * 512 * 400) speed

/-- Whole units of 512 bit times in a number of ticks. -/
def pauseUnits (ticks speed : Nat) : Nat := ticks * speed / (512 * 400)

/-! ### Shapers (R323) -/

/-- One byte in units of 1/400,000 bit. -/
def creditByte : Int := 3200000

/-- The shaper of queue q (6 or 7) brought up to now. -/
def Mac.credited (x : Mac) (now q : Nat) : Shaper :=
  let h := x.shapers.getD (q - 6) {}
  let dt : Int := (now - h.at_ : Nat)
  if x.heldUntil.isSome then { h with at_ := now }
  else if x.sending.any fun y => decide (y.1 = q) then
    { h with credit := max (h.lo * creditByte) (h.credit + ((h.slope : Int) - 1000 * (x.speed : Int)) * dt), at_ := now }
  else if (AMap.getD x.queues q []).isEmpty then { h with credit := min 0 h.credit, at_ := now }
  else { h with credit := min (h.hi * creditByte) (h.credit + (h.slope : Int) * dt), at_ := now }

/-- Both shapers brought up to now. -/
def Mac.creditedAll (x : Mac) (now : Nat) : Mac := { x with shapers := [x.credited now 6, x.credited now 7] }

/-- A frame enters queue q. -/
def State.enqueueFrame (s : State) (m q : Nat) (body : FrameBody) (octets : Nat) (tag : Option (Nat × Nat) := none) : State :=
  let x := (s.mac m).creditedAll s.now
  s.putMac m { x with queues := AMap.put x.queues q (AMap.getD x.queues q [] ++ [⟨body, octets, s.now, tag⟩]) }

/-- PCP and VLAN ID of the frames the device originates, with VLAN_EN (Table 11-7). -/
def Mac.tag (x : Mac) : Option (Nat × Nat) := if bitOf (x.w 4) 9 then some (fld (x.w 4) 30 28, fld (x.w 4) 27 16) else none

/-- A frame that the device originates enters queue q, with the MAC's tag; `octets` is its length without the tag, and a frame has at least
64 octets. -/
def State.originate (s : State) (m q : Nat) (body : FrameBody) (octets : Nat) : State :=
  let tag := (s.mac m).tag
  s.enqueueFrame m q body (max 64 (if tag.isSome then octets + 4 else octets)) tag

/-- The UDP channel of MAC m is enabled: the MAC is, with a nonzero Damuri port (Table 14-3). -/
def State.udpOn (s : State) (m : Nat) : Bool := (s.mac m).enabled && decide ((s.mac m).port ≠ 0)

/-! ### Configuration commands (R341) -/

/-- MAC_CONFIG. -/
def macConfigSpec : CmdSpec where
  op := 0x801
  layout := fun p s =>
    firstDeny [lenIs p 18,
      denyIf (reservedSet (p.w 4) (mask 1 0 + mask 5 4 + mask 9 8 + mask 30 16) || decide (fld (p.w 4) 5 4 = 3) || reservedSet (p.w 6) (mask 15 0) ||
        decide (fld (p.w 8) 31 16 < 1500) || decide (9000 < fld (p.w 8) 31 16) || decide (fld (p.w 9) 5 0 ≠ 0) || decide (2 ^ 47 ≤ u64 (p.w 9) (p.w 10)) || reservedSet (p.w 11) (mask 3 0) ||
        decide (fld (p.w 11) 3 0 < 4) || decide (12 < fld (p.w 11) 3 0) || reservedSet (p.w 17) (mask 15 0)) fieldDeny,
      denyIf (!s.pcie) stateDeny]
  act := fun p s _ _ =>
    let m := fld (p.w 4) 1 0
    let t := s.putMac m { (s.mac m).creditedAll s.now with enabled := bitOf (p.w 4) 8, cfg := p.params }
    if s.udpOn m && !t.udpOn m then
      (if p.ch = 9 + m then { s := t, after := fun u => u.resetChannel (9 + m) } else { s := t.resetChannel (9 + m) })
    else { s := t }

/-- SHAPER_SET (R323). -/
def shaperSetSpec : CmdSpec where
  op := 0x805
  layout := fun p s => firstDeny [lenIs p 8,
    denyIf (reservedSet (p.w 4) (mask 1 0 + mask 8 8) || decide (1000 * (s.mac (fld (p.w 4) 1 0)).speed < (p.w 5).toNat) || decide (0 < (p.w 7).toInt)) fieldDeny]
  act := fun p s _ _ =>
    let m := fld (p.w 4) 1 0
    let x := (s.mac m).creditedAll s.now
    let i := fld (p.w 4) 8 8
    let h := x.shapers.getD i {}
    let lo := (p.w 7).toInt
    let hi := (p.w 6).toNat
    let h1 := { h with slope := (p.w 5).toNat, hi := hi, lo := lo, credit := clampI (lo * creditByte) (hi * creditByte) h.credit }
    { s := s.putMac m { x with shapers := x.shapers.set i h1 } }

/-! ### Flow control (R318 to R321) -/

/-- The time held and the time pausing are counted up to now (Table 11-3). -/
def State.pauseCount (s : State) (m : Nat) : State :=
  let x := s.mac m
  let held := if x.heldUntil.isSome then pauseUnits (s.now - x.heldFrom) x.speed else x.heldUnits
  let pausing := if x.pausing then pauseUnits (s.now - x.pauseFrom) x.speed else x.pauseUnits
  ((s.putMac m { x with heldUnits := held, pauseUnits := pausing }).macStat m 26 (held - x.heldUnits)).macStat m 27 (pausing - x.pauseUnits)

/-- The pause generator looks at the receive FIFO's fill (R319). -/
def State.pauseGen (s0 : State) (m : Nat) : State :=
  let s := s0.pauseCount m
  let x := s.mac m
  if x.gen && !x.pausing && decide (x.high ≤ x.fill) then
    s.putMac m { x with pausing := true, pauseSent := s.now, pauseFrom := s.now, pauseUnits := 0, pauseDue := some x.tp }
  else if x.pausing && (decide (x.fill ≤ x.low) || !x.gen) then s.putMac m { x with pausing := false, pauseDue := some 0 }
  else s

/-- PAUSE_CONFIG. -/
def pauseConfigSpec : CmdSpec where
  op := 0x806
  layout := fun p _ => firstDeny [lenIs p 8,
    denyIf (reservedSet (p.w 4) (mask 1 0 + mask 5 4) || reservedSet (p.w 5) (mask 15 0) || reservedSet (p.w 6) (mask 17 0) || reservedSet (p.w 7) (mask 17 0) ||
      decide (245760 < fld (p.w 6) 17 0) || decide (fld (p.w 6) 17 0 ≤ fld (p.w 7) 17 0)) fieldDeny]
  act := fun p s _ _ =>
    let m := fld (p.w 4) 1 0
    { s := (s.putMac m { s.mac m with honor := bitOf (p.w 4) 4, gen := bitOf (p.w 4) 5, tp := fld (p.w 5) 15 0,
                                      high := fld (p.w 6) 17 0, low := fld (p.w 7) 17 0 }).pauseGen m }

/-- The hold of a received pause ends: the time held is counted (Table 11-3). -/
def State.endHold (s0 : State) (m : Nat) : State :=
  let s := s0.pauseCount m
  s.putMac m { (s.mac m).creditedAll s.now with heldUntil := none }

/-- A received pause time takes effect now: it replaces the remaining time (R318). -/
def State.holdFor (s0 : State) (m n : Nat) : State :=
  if n = 0 then s0.endHold m
  else
    let s := s0.pauseCount m
    let x := (s.mac m).creditedAll s.now
    let y := { x with heldUntil := some (s.now + pauseTicks n x.speed) }
    s.putMac m (if x.heldUntil.isSome then y else { y with heldFrom := s.now, heldUnits := 0 })

/-- PAUSE_FRAME_RECEIVED (R318). -/
def pauseFrameReceived (m n : Nat) (s : State) : State :=
  if (s.mac m).enabled then
    let s1 := (s.macStat m 7).setEvt (rMacEvt + 0x400 * m) 6
    let x := s1.mac m
    if !x.honor then s1
    else if n = 0 then (s1.putMac m { x with pendingPause := none }).endHold m
    else if x.sending.isSome then s1.putMac m { x with pendingPause := some n }
    else s1.holdFor m n
  else s

/-- PAUSE_HOLD_EXPIRY (R318). -/
def pauseHoldExpiry (m : Nat) (s : State) : State :=
  if (s.mac m).heldUntil.any fun t => decide (t ≤ s.now) then s.endHold m else s

/-- PAUSE_REPEAT (R319): the fill now, and half of t_p elapsed. -/
def pauseRepeat (m fill : Nat) (s : State) : State :=
  let s1 := (s.putMac m { s.mac m with fill := fill }).pauseGen m
  let x := s1.mac m
  if x.pausing && decide (pauseTicks x.tp x.speed ≤ 2 * (s.now - x.pauseSent)) then
    s1.putMac m { x with pauseDue := some x.tp, pauseSent := s.now }
  else s1

/-! ### Receive (R316, R317, R321, R326, R327) -/

/-- Broadcast, and the multicast bit of a MAC address. -/
def macBroadcast : Nat := 2 ^ 48 - 1
def macMulticast (a : Nat) : Bool := a.testBit 0

/-- The MAC address of an IPv4 multicast group, first octet in [7:0] as MAC_CONFIG gives addresses. -/
def groupMac (g : Word) : Nat := 0x01 + 0x5E * 2 ^ 16 + fld g 22 16 * 2 ^ 24 + fld g 15 8 * 2 ^ 32 + fld g 7 0 * 2 ^ 40

/-- A frame's destination is the MAC's own, broadcast, or a group of MAC_CONFIG's filter. -/
def Mac.forMe (x : Mac) (f : RxFrame) : Bool :=
  decide (f.dest = x.addr) || decide (f.dest = macBroadcast) || [12, 13, 14, 15].any fun i => decide (x.w i ≠ 0) && decide (f.dest = groupMac (x.w i))

/-- R316: a frame's VLAN is not the MAC's. -/
def Mac.otherVlan (x : Mac) (f : RxFrame) : Bool :=
  match f.tag with
  | none => false
  | some t => if bitOf (x.w 4) 9 then decide (t.2.1 ≠ fld (x.w 4) 27 16) else decide (t.2.1 ≠ 0)

/-- The receive stream on a MAC that a datagram matches, lowest number first (Table 11-1). -/
def State.streamFor (s : State) (m : Nat) (src dst : Word) (port : Nat) : Option (Nat × RxStream) :=
  s.net.rx.find? fun x => (decide (x.2.mac = m) || (x.2.dual && decide (x.2.mac2 = m))) && decide (x.2.dst = dst) && decide (x.2.port = port) &&
    (decide (x.2.filter = 0) || decide (x.2.filter = src))

/-- Consumers of Table 11-1. -/
inductive Consumer where
  | flow | ptp | control | stream | aux (ring : Nat) | dropped
  deriving DecidableEq, Repr

/-- The consumer of an intact frame (R317). -/
def State.consumer (s : State) (m : Nat) (f : RxFrame) : Consumer :=
  let x := s.mac m
  let udp := fun (p : Nat) => f.ip.any fun h => h.udp.any fun u => decide (u.2 = p)
  let mine := f.ip.any fun h => decide (h.dst.toNat = x.ip)
  let ptpDst := f.ip.any fun h => decide (h.dst = 0xE0000181) || decide (h.dst.toNat = x.ip)
  if f.etherType = 0x8808 then .flow
  else if s.tu.ptp.named && decide (s.tu.ptp.mac = m) && (udp 319 || udp 320) && ptpDst then .ptp
  else if mine && udp x.port then .control
  else if f.ip.any fun h => h.udp.any fun u => (s.streamFor m h.src h.dst u.2).isSome then .stream
  else if f.tag.any fun t => decide (4 ≤ t.1) then .aux 1
  else if x.forMe f then .aux 0
  else .dropped

/-- Words as they lie in memory: each low octet first (R11). -/
def memoryOctets (ws : List Word) : List (BitVec 8) := ws.flatMap fun w => (octets w).map (BitVec.ofNat 8)

/-- What the device writes back into descriptor `index` of ring `ring` (0 RX0, 1 RX1, 2 TX0, 3 TX1) of a MAC: every field first, with OWN
still set, and then word 3 with OWN clear (R338). -/
def Mac.descWrites (x : Mac) (ring index : Nat) (ws : List Word) : List HostWrite :=
  let a := u64 (x.w 9) (x.w 10) + 32 * (ring * x.ringSize + index)
  [⟨a, memoryOctets (ws.set 3 (wd ws 3 ||| 1))⟩, ⟨a + 12, memoryOctets [wd ws 3 &&& ~~~1]⟩]

/-- A descriptor given by the host, and whether it is the device's: its OWN bit (Table 11-6). -/
def GivenDesc.desc (g : GivenDesc) : AuxDesc :=
  { addr := u64 (wd g.words 0) (wd g.words 1), len := fld (wd g.words 2) 15 0, sof := bitOf (wd g.words 3) 1, eof := bitOf (wd g.words 3) 2,
    tsreq := bitOf (wd g.words 3) 5, data := g.data }
def GivenDesc.own (g : GivenDesc) : Bool := bitOf (wd g.words 3) 0

/-- The descriptors that a write of a tail register gives: none when it equals the head, else those from the old tail up to the new one; the
device uses them in order, and only while it owns them (R338, R340). -/
def Mac.given (x : Mac) (head old tail : Nat) (ds : List GivenDesc) : List AuxDesc :=
  let n := if tail = head then 0 else (tail + x.ringSize - old) % x.ringSize
  ((ds.take n).takeWhile GivenDesc.own).map GivenDesc.desc

/-- The buffers that a frame of n octets fills, of owned descriptors: each descriptor with the octets in it, whether the frame fits, and what
is left. -/
def fillBuffers : Nat → List AuxDesc → List (AuxDesc × Nat) × Bool × List AuxDesc
  | _, [] => ([], false, [])
  | n, b :: bs =>
    if n ≤ b.len then ([(b, n)], true, bs)
    else
      let r := fillBuffers (n - b.len) bs
      ((b, b.len) :: r.1, r.2.1, r.2.2)

/-- The words written back into the receive descriptor that takes `octets` octets of a frame started at device time `ns`: the tag and the
time on the first one, the frame's length on the last (Table 11-6). -/
def AuxDesc.received (d : AuxDesc) (octets tci len : Nat) (ns : Int) (first last nobuf : Bool) : List Word :=
  [w32 d.addr, w32 (d.addr / 2 ^ 32), w32 (d.len + octets * 2 ^ 16), w32 (flagBit first 1 + flagBit last 2 + flagBit nobuf 3 + flagBit first 6),
   if first then lo32 ns else 0, if first then hi32 ns else 0, w32 ((if first then tci else 0) + (if last then len else 0) * 2 ^ 16), 0]

/-- A frame goes to auxiliary ring r of a MAC, without its FCS: buffer after buffer, each with its descriptor (R338, R340). -/
def State.auxReceive (s : State) (m r : Nat) (f : RxFrame) : State :=
  let x := s.mac m
  let owned := x.rxDescs.getD r []
  if owned.isEmpty then (s.macStat m 6).setEvt (rMacEvt + 0x400 * m) (1 + r)
  else
    let b := fillBuffers (f.octets - 4) owned
    let head := (s.reg (rMacRxhead + 0x400 * m + 4 * r)).toNat
    let last := b.1.length - 1
    let ns := Int.fdiv (s.timeAtTick f.start) nsUnit
    let backs := b.1.zipIdx.flatMap fun (y : (AuxDesc × Nat) × Nat) =>
      let before := nsum ((b.1.take y.2).map Prod.snd)
      let ws := y.1.1.received y.1.2 (f.tag.elim 0 (·.2.2)) (f.octets - 4) ns (decide (y.2 = 0)) (decide (y.2 = last)) (decide (y.2 = last) && !b.2.1)
      ⟨y.1.1.addr, (f.data.drop before).take y.1.2⟩ :: x.descWrites r ((head + y.2) % x.ringSize) ws
    let s1 := (s.putMac m { x with rxDescs := x.rxDescs.set r b.2.2 }).setReg (rMacRxhead + 0x400 * m + 4 * r) (w32 ((head + b.1.length) % x.ringSize))
    let s2 := ({ s1 with net := { s1.net with backs := s1.net.backs ++ backs } }.setEvt (rMacEvt + 0x400 * m) 3).macStat m 17
    if b.2.1 then s2 else (s2.macStat m 6).setEvt (rMacEvt + 0x400 * m) (1 + r)

/-- What is wrong with a frame that is not intact: the statistics that count it (Table 11-3). -/
def Mac.notIntact (x : Mac) (f : RxFrame) (fill : Nat) : List Nat :=
  [(!f.crcOk, 2), (decide (f.octets < 64), 3), (decide (x.mtu + (if f.tag.isSome then 22 else 18) < f.octets), 4), (decide (262144 < fill), 5)].filterMap
    fun y => if y.1 then some y.2 else none

/-- CHANNEL_CONFIG limits the UDP channel of MAC m to another source (R417). -/
def State.sourceForeign (s : State) (m src : Nat) : Bool := let f := (s.chan (9 + m)).filter; decide (f ≠ 0) && decide (f ≠ src)

/-- A Damuri datagram of a foreign source: its own row counts it in rx_unmatched. -/
def State.controlForeign (s : State) (m : Nat) (f : RxFrame) : Bool := f.ip.any fun h => s.sourceForeign m h.src.toNat

/-- MAC_FRAME_RECEIVED: a frame arrives and the receive FIFO then holds `fill` octets. Its consumer's own row follows. -/
def macFrameReceived (m : Nat) (f : RxFrame) (fill : Nat) (s : State) : State :=
  let x := s.mac m
  if !x.enabled || decide (4 ≤ m) then s
  else
    let s0 := (s.putMac m { x with fill := min fill 262144 }).pauseGen m
    match x.notIntact f fill with
    | i :: is => (i :: is).foldl (fun (s : State) i => s.macStat m i) s0
    | [] =>
      let s1 := (s0.macStat m 0).macStat m 1 f.octets
      let s2 := if f.dest = macBroadcast then s1.macStat m 13 else if macMulticast f.dest then s1.macStat m 12 else s1
      if x.otherVlan f then s2.macStat m 9
      else if f.ip.any fun h => !h.ok then s2.macStat m 10
      else match s2.consumer m f with
        | .flow => if f.control = 1 then s2 else s2.macStat m 8
        | .ptp => s2.macStat m 15
        | .control => if s2.controlForeign m f then s2 else s2.macStat m 16
        | .stream => s2.macStat m 14
        | .aux r => s2.auxReceive m r f
        | .dropped => s2.macStat m 11

/-- MAC_RXTAIL_WRITE: the host gives receive descriptors, which stand in the ring as `ds` (R340). -/
def macRxtailWrite (m r tail : Nat) (ds : List GivenDesc) (s : State) : State :=
  let x := s.mac m
  let a := 0x400 * m + 4 * r
  let owned := x.rxDescs.getD r [] ++ x.given (s.reg (rMacRxhead + a)).toNat (s.reg (rMacRxtail + a)).toNat tail ds
  (s.putMac m { x with rxDescs := x.rxDescs.set r owned }).setReg (rMacRxtail + a) (w32 (tail % 4096))

/-! ### Transmit (R320, R322 to R324, R338, R339) -/

/-- A media packet that has waited for 1 ms (R324). -/
def NetFrame.expired (f : NetFrame) (now : Nat) : Bool :=
  match f.body with | .media _ => decide (f.queued + 400000 ≤ now) | _ => false

/-- Stream of a media packet. -/
def FrameBody.stream : FrameBody → Nat
  | .media x => x.stream
  | _ => 0

/-- Count a media packet discarded on MAC m (R324, R325). -/
def State.lateDrop (s : State) (m stream : Nat) : State :=
  ((s.macStat m 24).count 0x13 (stream * 2 + 1)).setEvt rSteEvt 5

/-- Discard the media packets of MAC m that a test names. -/
def State.dropMedia (s : State) (m : Nat) (bad : NetFrame → Bool) : State :=
  let x := (s.mac m).creditedAll s.now
  let gone := [6, 7].flatMap fun q => (AMap.getD x.queues q []).filter bad
  let keep := x.queues.map fun y => if decide (y.1 = 6) || decide (y.1 = 7) then (y.1, y.2.filter fun f => !bad f) else y
  gone.foldl (fun (s : State) f => s.lateDrop m f.body.stream) (s.putMac m { x with queues := keep })

/-- MEDIA_PACKET_LATE_DROP (R324). -/
def mediaPacketLateDrop (m : Nat) (s : State) : State := s.dropMedia m fun f => f.expired s.now

/-- Whether queue q may start a frame: a shaped one needs a slope and credit at least 0 (R323). -/
def Mac.mayStart (x : Mac) (q : Nat) : Bool :=
  !(AMap.getD x.queues q []).isEmpty &&
  (decide (q < 6) || (decide (0 < (x.shapers.getD (q - 6) {}).slope) && decide (0 ≤ (x.shapers.getD (q - 6) {}).credit)))

/-- A frame starts on the line: a message of the PTP port is stamped (R24). -/
def State.frameStarted (s : State) : FrameBody → State
  | .ptp msg => s.ptpStart msg
  | _ => s

/-- MAC_FRAME_TRANSMIT: the next frame starts (R320, R322, R323). -/
def macFrameTransmit (m : Nat) (s : State) : State :=
  let s0 := s.dropMedia m fun f => f.expired s.now
  let x := s0.mac m
  if x.sending.isSome || !x.link || !x.enabled then s
  else match x.pauseDue with
    | some n => s0.putMac m { x with pauseDue := none, sending := some (8, ⟨.pause n, 64, s.now, none⟩, s.now) }
    | none =>
      if x.heldUntil.isSome then s0
      else match [7, 6, 5, 4, 3, 2, 1, 0].find? x.mayStart with
        | none => s0
        | some q => match AMap.getD x.queues q [] with
          | [] => s0
          | f :: rest => (s0.putMac m { x with queues := AMap.put x.queues q rest, sending := some (q, f, s.now) }).frameStarted f.body

/-- Statistic that counts a sent frame, if any. -/
def FrameBody.stat : FrameBody → Option Nat
  | .media _ => some 21
  | .ptp _ => some 22
  | .control _ _ _ _ => none
  | .aux _ _ => some 23
  | .pause _ => some 20

/-- The words written back into a transmit descriptor: what the host set, ERR of a refused chain, and on the EOF descriptor that asked for
it the device time of the start of transmission (Table 11-6). -/
def AuxDesc.sent (d : AuxDesc) (err : Bool) (ns : Int) : List Word :=
  let stamped := d.eof && d.tsreq && !err
  [w32 d.addr, w32 (d.addr / 2 ^ 32), w32 d.len,
   w32 (flagBit d.sof 1 + flagBit d.eof 2 + flagBit err 4 + flagBit d.tsreq 5 + flagBit stamped 6),
   if stamped then lo32 ns else 0, if stamped then hi32 ns else 0, 0, 0]

/-- Descriptors of a transmit ring go back to the host (R338, R339): the head passes them. -/
def State.auxReturn (s : State) (m r : Nat) (ds : List AuxDesc) (err : Bool) (start : Nat) : State :=
  let x := s.mac m
  let head := (s.reg (rMacTxhead + 0x400 * m + 4 * r)).toNat
  let ns := Int.fdiv (s.timeAtTick start) nsUnit
  let backs := ds.zipIdx.flatMap fun (d : AuxDesc × Nat) => x.descWrites (2 + r) ((head + d.2) % x.ringSize) (d.1.sent err ns)
  let s1 := s.setReg (rMacTxhead + 0x400 * m + 4 * r) (w32 ((head + ds.length) % x.ringSize))
  { s1 with net := { s1.net with backs := s1.net.backs ++ backs } }.setEvt (rMacEvt + 0x400 * m) 4

/-- The first chain of a ring, when it is whole: the first descriptor is taken as its SOF, and it ends with its EOF (R339). -/
def firstChain : List AuxDesc → Option (List AuxDesc × List AuxDesc)
  | [] => none
  | d :: ds => if d.eof then some ([d], ds) else (firstChain ds).map fun r => (d :: r.1, r.2)

/-- The frame of a chain starts with a VLAN tag. -/
def chainTagged (c : List AuxDesc) : Bool := ((c.flatMap (·.data)).drop 12).take 2 = [0x81, 0x00]

/-- A frame of transmit ring r waits or is on the line: the ring's next chain comes after it, so that descriptors go back in order. -/
def Mac.ringBusy (x : Mac) (r : Nat) : Bool :=
  !(AMap.getD x.queues r []).isEmpty || x.sending.any fun y => match y.2.1.body with | .aux k _ => decide (k = r) | _ => false

/-- Take the next whole chain from a transmit ring into its queue; a refused chain goes back with ERR, and the next is looked at (R339). -/
def State.auxTransmit (s : State) (m r : Nat) : Nat → State
  | 0 => s
  | fuel + 1 =>
    let x := s.mac m
    if x.ringBusy r then s
    else match firstChain (x.txDescs.getD r []) with
      | none => s
      | some c =>
        let octets := nsum (c.1.map (·.len)) + 4
        let s1 := s.putMac m { x with txDescs := x.txDescs.set r c.2 }
        if decide (16 < c.1.length) || decide (x.mtu + (if chainTagged c.1 then 22 else 18) < octets) then
          State.auxTransmit ((s1.auxReturn m r c.1 true s.now).macStat m 30) m r fuel
        else s1.enqueueFrame m r (.aux r c.1) (max 64 octets)

/-- The ring's next chain. -/
def State.auxNext (s : State) (m r : Nat) : State := s.auxTransmit m r (((s.mac m).txDescs.getD r []).length)

/-- MAC_TXTAIL_WRITE: the host gives transmit descriptors, which stand in the ring as `ds` (R339). -/
def macTxtailWrite (m r tail : Nat) (ds : List GivenDesc) (s : State) : State :=
  let x := s.mac m
  let a := 0x400 * m + 4 * r
  let owned := x.txDescs.getD r [] ++ x.given (s.reg (rMacTxhead + a)).toNat (s.reg (rMacTxtail + a)).toNat tail ds
  ((s.putMac m { x with txDescs := x.txDescs.set r owned }).setReg (rMacTxtail + a) (w32 (tail % 4096))).auxNext m r

/-- A frame has left MAC m whole (R326, R338). -/
def State.frameLeft (s : State) (m start : Nat) (f : NetFrame) : State :=
  let s1 := (s.macStat m 18).macStat m 19 f.octets
  let s2 := match f.body.stat with | some i => s1.macStat m i | none => s1
  let s3 := match f.body with
    | .media x => s2.count 0x13 (x.stream * 2)
    | .aux r ds => (s2.auxReturn m r ds false start).auxNext m r
    | _ => s2
  { s3 with net := { s3.net with sent := s3.net.sent ++ [(m, f)] } }

/-- A frame that did not leave whole: the descriptors of an auxiliary frame go back, without a transmit time. -/
def State.frameCut (s : State) (m start : Nat) (f : NetFrame) : State :=
  match f.body with
  | .aux r ds => (s.auxReturn m r (ds.map fun d => { d with tsreq := false }) false start).auxNext m r
  | _ => s

/-- MAC_FRAME_SENT: the frame on the line completes (R318, R326, R338), or is aborted because its data arrived late (Table 11-3). -/
def macFrameSent (m : Nat) (aborted : Bool) (s : State) : State :=
  let x := (s.mac m).creditedAll s.now
  match x.sending with
  | none => s
  | some (_, f, start) =>
    let s1 := s.putMac m { x with sending := none, pendingPause := none }
    let s2 := if aborted then (s1.macStat m 25).frameCut m start f else s1.frameLeft m start f
    match x.pendingPause with
    | some n => s2.holdFor m n
    | none => s2

/-- MAC_LINK_CHANGE (R325): a fall is a loss of block lock, or a high bit-error-rate indication of the PCS (Table 11-3). -/
def macLinkChange (m : Nat) (up hiber : Bool) (s : State) : State :=
  let x := (s.mac m).creditedAll s.now
  if x.link = up then s
  else
    let s1 := (s.putMac m { x with link := up, sending := if up then x.sending else none, pendingPause := none }).setEvt (rMacEvt + 0x400 * m) 0
    if up then s1
    else
      let s2 := match x.sending with | some y => s1.frameCut m y.2.2 y.2.1 | none => s1
      (s2.macStat m (if hiber then 29 else 28)).dropMedia m fun f => match f.body with | .media _ => true | _ => false

/-- PTP messages that the port has made go to queue 5 of its MAC (Table 11-2): UDP over IPv4 with the message's length. -/
def PtpSent.octets : PtpSent → Nat
  | .sync _ => 90
  | .followUp _ _ => 90
  | .announce _ _ => 110
  | .delayReq _ _ => 90
  | .delayResp _ _ _ _ => 100

/-- Queue what the PTP port has made. -/
def State.ptpFlush (s : State) : State :=
  s.tu.ptpOut.foldl (fun (s : State) x => s.originate s.tu.ptp.mac 5 (.ptp x) x.octets) { s with tu := { s.tu with ptpOut := [] } }

/-! ### Streams (R328 to R331, R341 to R343) -/

/-- A receive stream of STREAM_RX_ADD. -/
def rxStreamOf (p : Packet) (b : Int) (now : Nat) : RxStream :=
  { mac := fld (p.w 4) 9 8, mac2 := fld (p.w 4) 11 10, dual := bitOf (p.w 4) 12, l24 := bitOf (p.w 4) 13, chans := fld (p.w 4) 21 16 + 1,
    ptCheck := bitOf (p.w 4) 24, pt := fld (p.w 4) 31 25, dst := p.w 5, port := fld (p.w 6) 15 0, filter := p.w 7, p := fld (p.w 8) 6 0,
    l := fld (p.w 8) 20 8, ortp := p.w 9, from_ := b, heard := now }

/-- A transmit stream of STREAM_TX_ADD with its SSRC. -/
def txStreamOf (p : Packet) (b : Int) (ssrc : Word) : TxStream :=
  { mac := fld (p.w 4) 9 8, mac2 := fld (p.w 4) 11 10, dual := bitOf (p.w 4) 12, l24 := bitOf (p.w 4) 13, chans := fld (p.w 4) 21 16 + 1,
    classB := bitOf (p.w 4) 24, dst := p.w 5, port := fld (p.w 6) 15 0, srcPort := fld (p.w 6) 31 16, dscp := fld (p.w 7) 5 0, ttl := fld (p.w 7) 15 8,
    pt := fld (p.w 7) 22 16, ssrc := ssrc, p := fld (p.w 9) 6 0, ortp := p.w 10, dstMac := (p.w 11).toNat + 2 ^ 32 * fld (p.w 12) 15 0, from_ := b }

/-- Octets of a sample. -/
def sampleOctets (l24 : Bool) : Nat := if l24 then 3 else 2

/-- Word w4 of a stream command is out of range: P, and the payload's size on each of its MACs (Table 11-4). -/
def streamFieldsBad (s : State) (p : Packet) (n : Nat) : Bool :=
  let small := fun (m : Nat) =>
    (s.mac m).enabled && decide ((s.mac m).mtu < 40 + n * (fld (p.w 4) 21 16 + 1) * sampleOctets (bitOf (p.w 4) 13))
  decide (n < 1) || decide (96 < n) || small (fld (p.w 4) 9 8) || (bitOf (p.w 4) 12 && small (fld (p.w 4) 11 10))

/-- A stream change on the network's configuration at boundary b: none when it cannot be made. -/
def Net.streamChange (n : Net) (op : Nat) (p : Packet) (data : List Int) (b : Int) (now : Nat) : Option Net :=
  let i := fld (p.w 4) 7 0
  if op = 0x802 then (if AMap.has n.rx i then none else some { n with rx := AMap.put n.rx i (rxStreamOf p b now) })
  else if op = 0x803 then
    (if AMap.has n.tx i then none else some { n with tx := AMap.put n.tx i (txStreamOf p b (w32 (data.headD 0).toNat)) })
  else if bitOf (p.w 4) 8 then
    (AMap.find n.tx i).map fun x => { n with tx := AMap.del n.tx i, txOld := n.txOld ++ [(i, { x with until_ := some b })] }
  else if AMap.has n.rx i then some { n with rx := AMap.del n.rx i } else none

/-- The streams as they will stand at boundary b: accepted changes that take effect not later are made. -/
def State.netAt (s : State) (b : Int) : Net :=
  let cs := s.changes.filter fun c => (decide (c.op = 0x802) || decide (c.op = 0x803) || decide (c.op = 0x804)) && decide (s.effIndex c ≤ b)
  (sortBy (fun (x y : Change) => decide (s.effIndex x ≤ s.effIndex y)) cs).foldl (fun (n : Net) c =>
    (n.streamChange c.op (c.packets.headD { ch := 0 }) c.data (s.effIndex c) s.now).getD n) s.net

/-- Streams and channels of a direction. -/
def Net.rxChans (n : Net) : Nat := nsum (n.rx.vals.map (·.chans))
def Net.txChans (n : Net) : Nat := nsum (n.tx.vals.map (·.chans))

/-- Limits of Table 11-4 with one more stream. -/
def streamRoomDeny (high : Bool) (streams chans more : Nat) : Option Deny :=
  firstDeny [denyIf (decide ((if high then 128 else 256) < streams + 1)) ⟨.noResource, 0x30⟩,
    denyIf (decide ((if high then 1024 else 2048) < chans + more)) ⟨.noResource, 0x31⟩]

/-- A stream names a MAC that is not enabled (R342). -/
def streamMacDeny (s : State) (p : Packet) : Option Deny :=
  denyIf (!(s.mac (fld (p.w 4) 9 8)).enabled || (bitOf (p.w 4) 12 && !(s.mac (fld (p.w 4) 11 10)).enabled)) stateDeny

/-- STREAM_RX_ADD (R331, R341, R342). -/
def streamRxAddSpec : CmdSpec where
  op := 0x802
  timing := .quantum
  pair := true
  layout := fun p s =>
    let n := fld (p.w 8) 6 0
    firstDeny [lenIs p 10,
      denyIf (reservedSet (p.w 4) (mask 13 0 + mask 21 16 + mask 31 24) || reservedSet (p.w 6) (mask 15 0) || reservedSet (p.w 8) (mask 6 0 + mask 20 8) ||
        streamFieldsBad s p n || decide (fld (p.w 8) 20 8 < n + 2 * s.q + 2) || decide (4096 < fld (p.w 8) 20 8)) fieldDeny]
  own := fun p s i =>
    let n := s.netAt (s.boundaryFrom i)
    let g := s.graphAt (s.boundaryFrom i)
    let x := rxStreamOf p i 0
    let jitter := n.jitterOctets + jitterSize x.l x.p * 4 * x.chans
    let others := ((g.counts s (s.fmaxAt i)).getD 14 0) - s.net.jitterOctets
    firstDeny [denyIf (AMap.has n.rx (fld (p.w 4) 7 0)) busyDeny, streamRoomDeny s.highRate n.rx.length n.rxChans x.chans,
      denyIf (decide (capacity 15 s.highRate s.q < others + jitter)) ⟨.noResource, 0x0F⟩, streamMacDeny s p]
  act := fun p s i _ => enqueueAct 0x802 true p s i

/-- STREAM_TX_ADD: the SSRC in use is answered; 0 lets the device choose (R341, R342). Table 11-7 gives w4 as in STREAM_RX_ADD, so that a
payload type may stand in w4 [31:25]; the one in w7 [22:16] is sent (DESIGN CHOICE, log entry 70). -/
def streamTxAddSpec : CmdSpec where
  op := 0x803
  timing := .quantum
  pair := true
  layout := fun p s =>
    firstDeny [lenIs p 13,
      denyIf (reservedSet (p.w 4) (mask 13 0 + mask 21 16 + mask 31 24) || reservedSet (p.w 7) (mask 5 0 + mask 15 8 + mask 22 16) ||
        reservedSet (p.w 9) (mask 6 0) || reservedSet (p.w 12) (mask 15 0) || streamFieldsBad s p (fld (p.w 9) 6 0)) fieldDeny]
  own := fun p s i =>
    let n := s.netAt (s.boundaryFrom i)
    firstDeny [denyIf (AMap.has n.tx (fld (p.w 4) 7 0)) busyDeny, streamRoomDeny s.highRate n.tx.length n.txChans (fld (p.w 4) 21 16 + 1), streamMacDeny s p]
  act := fun p s i forced =>
    let r : Word × State := match forced with
      | some ws => (ws.headD 0, s)
      | none => if p.w 8 = 0 then (Config.ssrc s.free, { s with free := s.free + 1 }) else (p.w 8, s)
    { enqueueAct 0x803 true p r.2 i [(r.1.toNat : Int)] with words := [r.1] }

/-- STREAM_REMOVE (R342, R343). -/
def streamRemoveSpec : CmdSpec where
  op := 0x804
  timing := .quantum
  pair := true
  layout := fun p _ => firstDeny [lenIs p 5, denyIf (reservedSet (p.w 4) (mask 8 0)) fieldDeny]
  own := fun p s i =>
    let n := s.netAt (s.boundaryFrom i)
    denyIf (if bitOf (p.w 4) 8 then !AMap.has n.tx (fld (p.w 4) 7 0) else !AMap.has n.rx (fld (p.w 4) 7 0)) (badParam 0x14)
  act := fun p s i _ => enqueueAct 0x804 true p s i

/-- Counters of a stream that is gone are unbound (R466). -/
def State.dropStreamCounters (s : State) (tx : Bool) (i : Nat) : State :=
  let mine := fun (k : Nat) => if tx then decide (k / 2 ^ 21 = 0x13) && decide (k % 2 ^ 21 / 2 = i) else decide (k / 2 ^ 21 = 0x12) && decide (k % 2 ^ 21 / 8 = i)
  { s with counters := s.counters.filter fun x => !mine x.1 }

/-- A stream command takes effect at boundary b; a removed receive stream gives zeros from there (R343). -/
def applyStream (op : Nat) (p : Packet) (c : Change) (s : State) (b : Int) : Option State :=
  (s.net.streamChange op p c.data b s.now).map fun n =>
    let s1 := { s with net := n }
    let i := fld (p.w 4) 7 0
    if op = 0x804 then
      let s2 := s1.dropStreamCounters (bitOf (p.w 4) 8) i
      if bitOf (p.w 4) 8 then s2
      else
        let cut := fun (x : Nat × List (Int × Int)) => if decide (netKey i 0 ≤ x.1) && decide (x.1 < netKey (i + 1) 0) then (x.1, x.2.filter fun v => decide (v.1 < b)) else x
        { s2 with audio := { s2.audio with rings := s2.audio.rings.map cut } }
    else s1

/-! ### Stream reception (R330, R332 to R336) -/

/-- The 64-bit index congruent to a 32-bit value that lies nearest to n; the lower on a tie (R330). -/
def nearestIndex (v : Word) (n : Int) : Int :=
  let d : Int := (v - lo32 n).toInt
  n + d

/-- The first index of the earliest quantum that has not passed readiness (R332). -/
def State.openFirst (s : State) : Int :=
  match s.audio.next with
  | some k => if s.processing then k * s.q else (fdivI (s.index - s.q - 1) s.q + 1) * s.q
  | none => (fdivI (s.index - s.q - 1) s.q + 1) * s.q

/-- A bad packet of a stream (Table 11-5). -/
def RxStream.bad (x : RxStream) (r : RtpPacket) : Bool :=
  decide (r.version ≠ 2) || (x.ptCheck && decide (r.pt ≠ x.pt)) || decide (r.octets ≠ x.p * x.chans * sampleOctets x.l24)

/-- Packets missing before sequence number n. -/
def seqMissing (hi : Option Nat) (n : Nat) : Nat :=
  match hi with
  | none => 0
  | some h => let d := (n + 65536 - h) % 65536; if decide (1 < d) && decide (d < 32768) then d - 1 else 0

/-- The highest sequence number after one more packet. -/
def seqHighest (hi : Option Nat) (n : Nat) : Nat :=
  match hi with
  | none => n
  | some h => if decide (0 < (n + 65536 - h) % 65536) && decide ((n + 65536 - h) % 65536 < 32768) then n else h

/-- Write a sample into a jitter buffer of S slots. With `first` an index that has a sample keeps it (R334). -/
def State.jitterPut (s : State) (key size : Nat) (n v : Int) (first : Bool := false) : State :=
  let ring := AMap.getD s.audio.rings key []
  if first && ring.any fun x => decide (x.1 = n) then s
  else { s with audio := { s.audio with rings := AMap.put s.audio.rings key ((n, v) :: ring.filter fun x => decide (x.1 % size ≠ n % size)) } }

/-- Write the samples of a packet whose index is taken (R332). -/
def State.jitterWrite (s : State) (i : Nat) (x : RxStream) (r : RtpPacket) (first : Int) : State :=
  let size := jitterSize x.l x.p
  let lo := s.openFirst
  let dw := if x.l24 then 24 else 16
  (List.range x.p).foldl (fun (s : State) (j : Nat) =>
    let n := first + j
    if decide (n < lo) || decide (lo + size - s.q ≤ n) then s
    else (List.range x.chans).foldl (fun (s : State) c => s.jitterPut (netKey i c) size n (rxValue dw (r.samples.getD (j * x.chans + c) 0)) x.dual) s) s

/-- Change a receive stream. -/
def State.putRx (s : State) (i : Nat) (x : RxStream) : State := { s with net := { s.net with rx := AMap.put s.net.rx i x } }

/-- A stream that was DOWN is heard again (R335). -/
def State.streamUp (s : State) (i : Nat) : State :=
  match AMap.find s.net.rx i with
  | some x =>
    let s1 := s.putRx i { x with heard := s.now, down := false }
    if x.down then (s1.setEvt rSteEvt 1).logNow evNetStreamUp [i] else s1
  | none => s

/-- Late or early samples of a packet (R332). -/
def State.discarded (s : State) (i reg cls ev : Nat) (bad : Bool) (n : Int) : State :=
  if bad then (((s.bump reg).count 0x12 (i * 8 + cls)).setEvt rSteEvt 2).logOnceAt ev i n [i] else s.endRun ev i

/-- Sequence numbers that a stream remembers: those of the last 64 packets, and with DUAL all that a later copy can be told by (R334). -/
def RxStream.memory (x : RxStream) : Nat := if x.dual then 32768 else 64

/-- A packet of stream i that is neither bad nor repeated (R330, R332, R335). One that is early leaves its number unused, so that a copy in
time on the other path still counts (R336). -/
def State.takePacket (s : State) (i : Nat) (x : RxStream) (r : RtpPacket) : State :=
  let src := nearestIndex (r.ts - x.ortp) s.index
  let first := src + x.l
  let lo := s.openFirst
  let hi := lo + jitterSize x.l x.p - s.q
  let miss := seqMissing x.hiSeq r.seq
  let seqs := if hi < first + x.p then x.seqs else (r.seq :: x.seqs).take x.memory
  let y := { x with seqs := seqs, hiSeq := some (seqHighest x.hiSeq r.seq), phase := (src % (x.p : Int)).toNat }
  let s1 := ((s.putRx i y).bump rSteSeqgap miss).count 0x12 (i * 8 + 5) miss
  let s2 := s1.discarded i rSteLatecnt 0 evNetLate (decide (first < lo)) first
  let s3 := s2.discarded i rSteEarlycnt 1 evNetEarly (decide (hi < first + x.p)) first
  let s4 := s3.jitterWrite i y r first
  if decide (lo < first + x.p) && decide (first < hi) then s4.streamUp i else s4

/-- STREAM_PACKET_RECEIVED: a datagram for the stream engine (R325, R330, R332 to R336). -/
def streamPacketReceived (m : Nat) (r : RtpPacket) (s : State) : State :=
  if !(s.mac m).enabled || !(s.mac m).link then s
  else match s.streamFor m r.src r.dst r.port with
    | none => s
    | some (i, x) =>
      let bad := x.bad r
      let s1 := if bad || r.padding then (s.bump rSteBadpkt).logOnce evNetBadpkt i [i] else s.endRun evNetBadpkt i
      if bad then (s1.count 0x12 (i * 8 + 4)).setEvt rSteEvt 4
      else if x.seqs.contains r.seq then (s1.bump rSteDupcnt).count 0x12 (i * 8 + 3)
      else s1.takePacket i x r

/-- STREAM_DOWN_TIMEOUT: 64 packet times without a packet (R335). -/
def streamDownTimeout (i : Nat) (s : State) : State :=
  match AMap.find s.net.rx i with
  | some x =>
    if !x.down && decide (128 * x.p * 10 ^ 9 ≤ (s.now - x.heard) * 5 * s.fs) then
      ((s.putRx i { x with down := true }).setEvt rSteEvt 0).logNow evNetStreamDown [i]
    else s
  | none => s

/-- The packets of a stream of which quantum k lacks samples (R333). -/
def State.lostPackets (s : State) (i : Nat) (x : RxStream) (first : Int) : List Int :=
  let lacking := (List.range s.q).filter fun (j : Nat) => decide (x.from_ ≤ first + (j : Int)) && (s.ringAt (netKey i 0) (first + j)).isNone
  let ids := lacking.map fun (j : Nat) => fdivI (first + (j : Int) - x.l - x.phase) x.p
  ids.eraseDups.filter fun n => x.lostPkt.all fun m => decide (m < n)

/-- Substitution of what no packet supplied at the readiness of a quantum (R333). -/
def State.streamSubst (s : State) (first : Int) : State :=
  s.net.rx.foldl (fun (s : State) y =>
    let lost := s.lostPackets y.1 y.2 first
    match lost.getLast? with
    | none => s
    | some n => (((s.putRx y.1 { y.2 with lostPkt := some n }).bump rSteLostcnt lost.length).count 0x12 (y.1 * 8 + 2) lost.length).setEvt rSteEvt 3) s

/-! ### Stream transmission (R329, R343, R372, R373) -/

/-- Octets of a media packet's untagged frame with FCS (Table 11-10). -/
def TxStream.octets (x : TxStream) : Nat := 14 + 20 + 8 + 12 + x.p * x.chans * sampleOctets x.l24 + 4

/-- The samples of a packet (R261, R328). -/
def State.packetWords (s : State) (i : Nat) (x : TxStream) (n : Int) : List Word :=
  (List.range x.p).flatMap fun (j : Nat) => (List.range x.chans).map fun c =>
    let dw := if x.l24 then 24 else 16
    w32 ((txValue dw ((s.outAt (netKey i c) (n + j)).getD 0)).1 % 2 ^ dw).toNat

/-- Source addresses on MAC m: the pair addresses while the lease is held (R373). -/
def State.sourceAddrs (s : State) (m : Nat) : Nat × Nat :=
  let own := ((s.mac m).addr, (s.mac m).ip)
  let pair := s.twin.pairAddrs.getD m (0, 0)
  if s.twin.enabled && decide (s.twin.state = .active) then (if pair.1 = 0 then own.1 else pair.1, if pair.2 = 0 then own.2 else pair.2) else own

/-- One packet enters its queue on one MAC, unless the device is fenced or the link is down (R325, R329, R372). -/
def State.sendPacket (s : State) (i : Nat) (x : TxStream) (n : Int) (m : Nat) : State :=
  if s.fencedAt s.index then s.bump rTwnShadowpkt
  else if !(s.mac m).link then s.lateDrop m i
  else
    let a := s.sourceAddrs m
    let seq := (fdivI n x.p % 65536).toNat
    let pkt : MediaPacket :=
      { stream := i, seq := seq, first := n, ts := lo32 n + x.ortp, ssrc := x.ssrc, pt := x.pt, srcMac := a.1,
        dstMac := if fld x.dst 31 28 = 14 then groupMac x.dst else x.dstMac, srcIp := a.2, dstIp := x.dst, srcPort := x.srcPort, dstPort := x.port,
        dscp := x.dscp, ttl := x.ttl, l24 := x.l24, words := s.packetWords i x n }
    s.originate m (if x.classB then 6 else 7) (.media pkt) x.octets

/-- First indices of the packets of a stream whose last index lies in the quantum from `first` on (R329, R343). -/
def TxStream.dueIn (x : TxStream) (q : Nat) (first : Int) : List Int :=
  let ns := (List.range q).filterMap fun (j : Nat) =>
    let last := first + (j : Int)
    if (last + 1) % (x.p : Int) = 0 then some (last + 1 - x.p) else none
  ns.filter fun n => decide (x.from_ ≤ n) && x.until_.all fun b => decide (n + x.p ≤ b)

/-- The packets due in a quantum enter their queues, in stream order (R329). -/
def State.streamSend (s : State) (first : Int) : State :=
  let all := sortBy (fun (a b : Nat × TxStream) => decide (a.1 ≤ b.1)) (s.net.tx ++ s.net.txOld)
  let s1 := all.foldl (fun (s : State) y => (y.2.dueIn s.q first).foldl (fun (s : State) n =>
    let s1 := s.sendPacket y.1 y.2 n y.2.mac
    if y.2.dual then s1.sendPacket y.1 y.2 n y.2.mac2 else s1) s) s
  { s1 with net := { s1.net with txOld := s1.net.txOld.filter fun y => y.2.until_.all fun b => decide (first + s.q < b) } }

end Sys2Proof.Machine
end

