-- ==== Sys2Proof/Machine/Zen.lean ====
section
/-! DEFINITION. The Zenel Link (R346 to R370): ports, frames, areas and maps, heads and roots, hellos and topology, drops and
inserts. Path 0 is ring A, or the downward path of a tree; path 1 is ring B; path 2 is a branch node's uplink. -/
namespace Sys2Proof.Machine

/-! ### Ports (Table 12-1) -/

/-- Roles of Table 12-1, as ZEN_STATUS.ROLE counts them. -/
inductive ZenRole where
  | unused | upstream | downstream | branch
  deriving DecidableEq, Repr

/-- Role of a port in a mode. -/
def zenRole (mode port : Nat) : ZenRole :=
  if mode = 0 then (if decide (port = 1) || decide (port = 2) then .upstream else .downstream)
  else if mode = 1 then (if port = 0 then .downstream else if port = 1 then .upstream else .branch)
  else if port = 0 then .unused else .branch

/-- The path that a port receives downward or ring frames of. -/
def zenPathIn (mode port : Nat) : Option Nat := if port = 1 then some 0 else if decide (port = 2) && decide (mode = 0) then some 1 else none

/-- The ports on which a path's frames are sent (R347, R363). -/
def zenPortsOut (mode path : Nat) : List Nat :=
  if path = 1 then (if mode = 0 then [3] else [])
  else if path = 2 then (if mode = 2 then [1] else [])
  else if mode = 0 then [0] else if mode = 1 then [0, 2, 3] else [2, 3]

/-- The upstream port of a path. -/
def zenPortUp (path : Nat) : Nat := if path = 1 then 2 else 1

/-- Paths of a mode that frames flow round or down. -/
def zenPaths (mode : Nat) : List Nat := if mode = 0 then [0, 1] else [0]

/-- The neighbour's port fits this port's role (R346, Table 12-3). -/
def zenCableOk (mode port peer : Nat) : Bool :=
  match zenRole mode port with
  | .unused => true
  | .branch => if port = 1 then decide (peer = 2) || decide (peer = 3) else decide (peer = 1)
  | _ => decide (peer = (if port = 0 then 1 else if port = 1 then 0 else if port = 2 then 3 else 2))

/-- Port p. -/
def State.zport (s : State) (p : Nat) : ZenPort := s.zen.ports.getD p {}

/-- Change port p. -/
def State.updZport (s : State) (p : Nat) (f : ZenPort → ZenPort) : State := { s with zen := { s.zen with ports := s.zen.ports.set p (f (s.zport p)) } }

/-- Path r. -/
def State.zring (s : State) (r : Nat) : ZenRing := s.zen.rings.getD r {}

/-- Change path r. -/
def State.updZring (s : State) (r : Nat) (f : ZenRing → ZenRing) : State := { s with zen := { s.zen with rings := s.zen.rings.set r (f (s.zring r)) } }

/-- Port p is enabled. -/
def State.zenOn (s : State) (p : Nat) : Bool := s.zen.enabled && s.zen.portEn.testBit p

/-- A link word has come from a port of the wrong role (Table 12-3). -/
def State.miscabled (s : State) (p : Nat) : Bool := (s.zport p).peerValid && !zenCableOk s.zen.mode p (s.zport p).peerPort

/-- Port p sends frames: it is past training, and not held there by a wrong cable (Table 12-3). -/
def State.zenSends (s : State) (p : Nat) : Bool :=
  s.zenOn p && (decide ((s.zport p).state = .up) || decide ((s.zport p).state = .down)) && !s.miscabled p

/-- ZEN_STATUS.HEAD of port p: the node heads the ring that the port feeds as upstream (Table 12-6). -/
def State.headShown (s : State) (p : Nat) : Bool := (zenPathIn s.zen.mode p).any fun r => s.zen.enabled && (s.zring r).head

/-- The ports whose HEAD or LOCK have changed say so in ZEN_EVT (Table 12-6). -/
def State.portEvents (s old : State) : State :=
  (List.range 4).foldl (fun (s : State) p =>
    let s1 := if old.headShown p = s.headShown p then s else s.setEvt (rZenEvt + 0x400 * p) 2
    if (old.zport p).lock = (s.zport p).lock then s1 else s1.setEvt (rZenEvt + 0x400 * p) 0) s

/-- Slots in a frame (Table 12-2). -/
def State.zenSlots (s : State) : Nat := if s.highRate then 6144 else 12288

/-! ### The map (R352) -/

/-- One octet of the map check's CRC-16. -/
def crc16Octet (c b : Nat) : Nat :=
  (List.range 8).foldl (fun (c : Nat) _ => if 32768 ≤ c then (c * 2 % 65536) ^^^ 0x1021 else c * 2 % 65536) (c ^^^ (b * 256))

/-- The map check of a command's words. -/
def mapCheckOf (ws : List Word) : Nat := (ws.flatMap octets).foldl crc16Octet 0xFFFF

/-- The areas of a ZEN_MAP. -/
def mapAreas (p : Packet) : List ZenArea :=
  (List.range (fld (p.w 4) 8 0)).map fun a =>
    ⟨fld (p.w (5 + 2 * a)) 13 0, fld (p.w (5 + 2 * a)) 28 16, fld (p.w (6 + 2 * a)) 11 0, fld (p.w (6 + 2 * a)) 27 16⟩

/-- The map in force at an index. -/
def Zen.mapAt (z : Zen) (n : Int) : ZenMap := (z.maps.find? fun m => decide (m.from_ ≤ n)).getD {}

/-- Areas of a map that overlap another. -/
def areasOverlap : List ZenArea → Bool
  | [] => false
  | a :: as => as.any (fun b => decide (a.first < b.first + b.count) && decide (b.first < a.first + a.count)) || areasOverlap as

/-- A slot lies in an area. -/
def ZenArea.holds (a : ZenArea) (slot : Nat) : Bool := decide (a.first ≤ slot) && decide (slot < a.first + a.count)

/-- A node is the owner or partner of an area. -/
def ZenArea.ofNode (a : ZenArea) (node : Nat) : Bool := decide (a.owner = node) || (decide (a.partner = node) && decide (node ≠ 0))

/-- ZEN_MAP (R352, R368). -/
def zenMapSpec : CmdSpec where
  op := 0x902
  timing := .quantum
  pair := true
  layout := fun p s =>
    let k := fld (p.w 4) 8 0
    let as := mapAreas p
    firstDeny [denyIf (decide (p.len < 5) || decide (p.len ≠ 5 + 2 * k)) lengthDeny,
      denyIf (reservedSet (p.w 4) (mask 8 0) || decide (256 < k) ||
        (List.range k).any (fun a => reservedSet (p.w (5 + 2 * a)) (mask 13 0 + mask 28 16) || reservedSet (p.w (6 + 2 * a)) (mask 11 0 + mask 27 16)) ||
        as.any fun a => decide (a.count < 1) || decide (4096 < a.count) || decide (a.owner = 0xFFF) || decide (a.partner = 0xFFF)) fieldDeny,
      denyIf (areasOverlap as || as.any fun a => decide (s.zenSlots < a.first + a.count) || decide (a.owner = 0)) (badParam 0x1C)]
  act := fun p s i _ => { enqueueAct 0x902 true p s i with words := [w32 (mapCheckOf p.params)] }

/-- A ZEN_MAP takes effect at boundary b. Copies of areas that it changes are copies no more. -/
def applyZenMap (p : Packet) (s : State) (b : Int) : Option State :=
  let was := (s.zen.mapAt b).areas
  let now := mapAreas p
  some { s with zen := { s.zen with maps := ⟨now, mapCheckOf p.params, b⟩ :: s.zen.maps.take 7,
                                    copies := s.zen.copies.filter fun x => decide (was[x.1]? = now[x.1]?) } }

/-- The map that will be in force at an index, accepted changes counted (R147, R368). -/
def State.zenMapAt (s : State) (n : Int) : ZenMap :=
  let cs := s.changes.filter fun c => decide (c.op = 0x902) && decide (s.effIndex c ≤ n)
  match (sortBy (fun (x y : Change) => decide (s.effIndex x ≤ s.effIndex y)) cs).getLast? with
  | some c => let p := c.packets.headD { ch := 0 }; ⟨mapAreas p, mapCheckOf p.params, s.effIndex c⟩
  | none => s.zen.mapAt n

/-! ### Drops and inserts (R365 to R368) -/

/-- The channels of ZEN_DROP or ZEN_INSERT with their slots; 0x3FFF is unmapped. -/
def zenMapping (p : Packet) : List (Nat × Nat) :=
  (List.range (fld (p.w 4) 26 16)).map fun i =>
    (fld (p.w 4) 11 0 + i, if i % 2 = 0 then fld (p.w (5 + i / 2)) 13 0 else fld (p.w (5 + i / 2)) 29 16)

/-- A mapping that a map refuses: a drop slot in no area, an insert slot in no area of this node (R368). -/
def zenMappingDeny (s : State) (op : Nat) (p : Packet) (m : ZenMap) : Option Deny :=
  let slots := (zenMapping p).filter fun x => decide (x.2 ≠ 0x3FFF)
  if op = 0x903 then denyIf (slots.any fun x => m.areas.all fun a => !a.holds x.2) (badParam 0x1D)
  else
    let others := s.zen.inserts.filter fun x => !(zenMapping p).any fun y => decide (y.1 = x.1)
    denyIf ((slots.any fun x => m.areas.all fun a => !(a.holds x.2 && a.ofNode s.zen.node)) || decide (4096 < others.length + slots.length)) (badParam 0x1B)

/-- ZEN_DROP and ZEN_INSERT are alike. -/
def zenMappingSpec (op_ : Nat) : CmdSpec where
  op := op_
  timing := .quantum
  pair := true
  layout := fun p s =>
    let k := fld (p.w 4) 26 16
    firstDeny [denyIf (decide (p.len ≠ 5 + (k + 1) / 2)) lengthDeny,
      denyIf (reservedSet (p.w 4) (mask 11 0 + mask 26 16) || decide (k < 1) || decide (1024 < k) ||
        (List.range ((k + 1) / 2)).any (fun i => reservedSet (p.w (5 + i)) (mask 13 0 + if 2 * i + 1 < k then mask 29 16 else 0)) ||
        decide ((if s.highRate then 2048 else 4096) < fld (p.w 4) 11 0 + k)) fieldDeny]
  own := fun p s i => zenMappingDeny s op_ p (s.zenMapAt (s.boundaryFrom i))
  act := fun p s i _ => enqueueAct op_ true p s i

/-- ZEN_DROP. -/
def zenDropSpec : CmdSpec := zenMappingSpec 0x903
/-- ZEN_INSERT. -/
def zenInsertSpec : CmdSpec := zenMappingSpec 0x904

/-- Put a mapping. -/
def putMapping (m : AMap Nat) (l : List (Nat × Nat)) : AMap Nat :=
  l.foldl (fun (m : AMap Nat) x => if x.2 = 0x3FFF then AMap.del m x.1 else AMap.put m x.1 x.2) m

/-- ZEN_DROP and ZEN_INSERT take effect, or are dropped when a map invalidated them (R368). -/
def applyZenMapping (op : Nat) (p : Packet) (s : State) (b : Int) : Option State :=
  if (zenMappingDeny s op p (s.zen.mapAt b)).isSome then none
  else if op = 0x903 then some { s with zen := { s.zen with drops := putMapping s.zen.drops (zenMapping p) } }
  else some { s with zen := { s.zen with inserts := putMapping s.zen.inserts (zenMapping p) } }

/-! ### Hellos and topology (R359 to R362, R369) -/

/-- This node's hello (R360). A neighbour is upstream while its port is locked. -/
def State.ownHello (s : State) : Hello :=
  let a := s.zport 1
  let b := s.zport 2
  let onA := a.peerValid && a.lock
  let onB := b.peerValid && b.lock && decide (s.zen.mode = 0)
  { node := s.zen.node, rootEn := s.zen.rootEn, q := s.q, p := s.zen.p, serialLo := w32 (Config.serial.toNat % 2 ^ 32), mode := s.zen.mode,
    upA := if onA then a.peer else 0, delayA := if onA then a.delay else 0, upB := if onB then b.peer else 0, delayB := if onB then b.delay else 0,
    headA := (s.zring 0).head && !s.zen.isRoot, headB := decide (s.zen.mode = 0) && (s.zring 1).head && !s.zen.isRoot, root := s.zen.root }

/-- Hellos held, this node's among them unless its ID clashes; one not repeated for 8,192 periods is no longer held. -/
def State.hellosHeld (s : State) : AMap Hello :=
  let held := (s.zen.hellos.filter fun x => decide (s.index ≤ x.2.1 + 8192) && decide (x.1 ≠ s.zen.node)).map fun x => (x.1, x.2.2)
  if s.zen.clash.isSome then held else AMap.put held s.zen.node s.ownHello

/-- The elected root: the lowest node ID with ROOT_EN; 0 when none (R359). -/
def electRoot (hs : AMap Hello) : Nat := ((hs.find? fun h => h.2.rootEn).map Prod.fst).getD 0

/-- Node b comes after node a in ring-A order: a is b's upstream neighbour on ring A, or b is a's on ring B (R369). -/
def ringNext (hs : AMap Hello) (a b : Nat) : Bool :=
  ((AMap.find hs b).any fun h => decide (h.mode < 2) && decide (h.upA = a)) || (decide (b ≠ 0) && (AMap.find hs a).any fun h => decide (h.upB = b))

/-- Ring nodes in ring-A order from a node (R369). -/
def ringFrom (hs : AMap Hello) : Nat → Nat → List Nat → List Nat
  | 0, _, acc => acc
  | fuel + 1, n, acc =>
    match hs.find? fun h => ringNext hs n h.1 && !acc.contains h.1 with
    | some h => ringFrom hs fuel h.1 (acc ++ [h.1])
    | none => acc

/-- Branch nodes below a node, depth first, with their levels and path delays. -/
def branchesOf (hs : AMap Hello) : Nat → Nat → Nat → Nat → List (Nat × Nat × Nat)
  | 0, _, _, _ => []
  | fuel + 1, n, level, delay =>
    (hs.filter fun h => decide (h.2.mode = 2) && decide (h.2.upA = n) && decide (h.1 ≠ n)).flatMap fun h =>
      (h.1, level + 1, delay + h.2.delayA + 400) :: branchesOf hs fuel h.1 (level + 1) (delay + h.2.delayA + 400)

/-- What ZEN_TOPOLOGY reports: ring nodes, then branch nodes with levels and delays. -/
structure Topology where
  root : Nat
  ring : List Nat
  branches : List (Nat × Nat × Nat)
  hellos : AMap Hello
  deriving DecidableEq, Repr

/-- The topology that the hellos held give. -/
def State.topology (s : State) : Topology :=
  let hs := s.hellosHeld
  let root := electRoot hs
  let start := if root = 0 then s.zen.node else root
  let ring := ringFrom hs hs.length start [start]
  { root := root, ring := ring, branches := ring.flatMap fun n => branchesOf hs (hs.length) n 0 0, hellos := hs }

/-- The nodes in order. -/
def Topology.order (t : Topology) : List Nat := t.ring ++ t.branches.map Prod.fst

/-- The hello of a node. -/
def Topology.hello (t : Topology) (n : Nat) : Option Hello := AMap.find t.hellos n

/-- D_lap in ns: the longer of the two rings, every cable and 400 ns for each node but the root (R361). -/
def Topology.dlap (t : Topology) (mode : Nat) : Nat :=
  if decide (mode = 2) && decide (t.ring.length ≤ 1) then 0
  else
    let sum := fun (f : Hello → Nat) => nsum (t.ring.map fun n => (t.hello n).elim 0 f)
    (if mode = 0 then max (sum (·.delayA)) (sum (·.delayB)) else sum (·.delayA)) + 400 * (t.ring.length - 1)

/-- Largest Q in the hellos. -/
def Topology.qmax (t : Topology) : Nat := (t.hellos.map fun h => h.2.q).foldl max 0

/-- P_min (R361). -/
def Topology.pmin (t : Topology) (mode fs : Nat) : Nat :=
  let h := (t.branches.map fun b => b.2.1).foldl max 0
  let dbr := (t.branches.map fun b => b.2.2).foldl max 0
  let d := 2 * (t.dlap mode + if mode = 0 then 0 else dbr)
  2 * t.qmax + 3 + (2 + if mode = 0 then 0 else h) + cdivN (d * fs) (10 ^ 9)

/-- Every node that the order names as upstream neighbour has been heard. -/
def Topology.whole (t : Topology) : Bool :=
  t.order.all fun n => (t.hello n).any fun h => (decide (h.upA = 0) || AMap.has t.hellos h.upA) && (decide (h.upB = 0) || AMap.has t.hellos h.upB)

/-- Both rings are closed: each node's neighbour upstream on ring A is the one before it, and on ring B the one after it (R360). -/
def Topology.closed (t : Topology) : Bool :=
  let pairs := t.ring.zip (t.ring.drop 1 ++ t.ring.take 1)
  pairs.all fun x => (t.hello x.2).any (fun h => decide (h.upA = x.1)) && (t.hello x.1).any fun h => decide (h.upB = x.2)

/-- Topology state of Table 12-5. A dual ring whose nodes have been heard, that has a head or is not closed, is DEGRADED (R360; DESIGN CHOICE,
log entry 71: one that is open at the root, where no head is, has no state of its own). -/
def State.topoState (s : State) (t : Topology) : Nat :=
  if !s.zen.enabled then 0
  else if t.root = 0 then 5
  else if s.zen.mode ≠ 0 then 4
  else if !t.whole then 1
  else if !t.closed || t.order.any fun n => (t.hello n).any fun h => h.headA || h.headB then 3 else 2

/-- Something the generation counts has changed: order, root or a HEAD state, or a delay by more than 100 ns (R360). -/
def viewChanged (old new oldD newD : List Nat) : Bool :=
  decide (old ≠ new) || decide (oldD.length ≠ newD.length) || (oldD.zip newD).any fun x => decide (x.1 + 100 < x.2) || decide (x.2 + 100 < x.1)

/-- The node looks at its hellos again: topology generation, root, budget and P mismatch (R360 to R362). -/
def State.zenView (s : State) : State :=
  if !s.zen.enabled then s
  else
    let t := s.topology
    let heads := t.order.map fun n => (t.hello n).elim 0 fun h => b2n h.headA + 2 * b2n h.headB
    let view := t.order ++ [t.root] ++ heads
    let ds := t.order.map fun n => (t.hello n).elim 0 (·.delayA)
    let db := t.order.map fun n => (t.hello n).elim 0 (·.delayB)
    let s1 := if viewChanged s.zen.view view s.zen.delays (ds ++ db) then
        { s with zen := { s.zen with topGen := (s.zen.topGen + 1) % 256, view := view, delays := ds ++ db } }.setEvt rZenNevt 0 else s
    let s2 := if s1.zen.root = t.root then s1 else { s1 with zen := { s1.zen with root := t.root } }.setEvt rZenNevt 1
    let low := decide (s2.zen.p < t.pmin s2.zen.mode s2.fs)
    let s3 := if low && !s2.zen.budget then (s2.setEvt rZenNevt 2).logNow evZenBudget else s2
    let mis := t.hellos.any fun h => decide (h.2.p ≠ s.zen.p)
    let s4 := if mis && !s3.zen.pmis then (s3.setEvt rZenNevt 5).logOnce evZenPmismatch 0 else if mis then s3 else s3.endRun evZenPmismatch 0
    { s4 with zen := { s4.zen with budget := low, pmis := mis } }

/-- A hello is held (R360, R362). -/
def State.takeHello (s : State) (h : Hello) : State :=
  let mine := decide (h.node = s.zen.node)
  let other := decide (h.serialLo ≠ w32 (Config.serial.toNat % 2 ^ 32))
  let s1 := if mine && other && s.zen.clash.isNone then
      ({ s with zen := { s.zen with clash := some (s.index + 1) } }.setEvt rZenNevt 5).logNow evZenIdclash
    else s
  if mine then s1.zenView
  else { s1 with zen := { s1.zen with hellos := AMap.put s1.zen.hellos h.node (s.index, h) } }.zenView

/-! ### The frame (R348, R349, Table 12-2) -/

/-- The fields of a hello in the order of R360. -/
def Hello.fields (h : Hello) : List Nat :=
  [h.node, b2n h.rootEn, h.q, h.p, h.serialLo.toNat, h.mode, h.upA, h.delayA, h.upB, h.delayB, b2n h.headA, b2n h.headB, h.root]

/-- An in-band area: the header of Table 14-6 and 120 octets of payload, or an empty one. -/
def inbandOctets : Option Fragment → List Nat
  | none => List.replicate 128 0
  | some f =>
    blockOctets (f.dest + f.src * 2 ^ 12 + f.seq * 2 ^ 24 + f.frag * 2 ^ 32 + flagBit f.last 39 + f.octets * 2 ^ 40) ++
    ((List.range 30).flatMap fun i => octets (wd f.words i))

/-- The words of a list from one on, as many as asked for; 0 beyond its end. -/
def wordsFrom (ws : List Word) (first count : Nat) : List Word :=
  let l := (ws.drop first).take count
  l ++ List.replicate (count - l.length) 0

/-- The octets that a frame carries in order, from octet 1 of the start block up to the end block (Table 12-2). -/
def ZenFrame.octets (f : ZenFrame) : List Nat :=
  let n := if 2 ≤ f.rate then 6144 else 12288
  (([if f.upward then 2 else 1, f.ring + 2 * b2n f.byHead] ++ (List.range 5).map fun i => f.label / 2 ^ (8 * i) % 256) ++
    blockOctets (f.launcher + f.root * 2 ^ 12 + f.hops * 2 ^ 24 + f.mapCheck * 2 ^ 36 + f.rate * 2 ^ 52) ++
    (List.range 256).flatMap (fun a => match AMap.find f.tags a with | some t => blockOctets (t.index.toNat + t.writer * 2 ^ 52) | none => blockOctets 0)) ++
  ((pairUp (wordsFrom f.slots 0 n)).flatMap fun x => blockOctets (x.2.toNat + x.1.toNat * 2 ^ 32)) ++
  inbandOctets (f.inband.getD 0 none) ++ inbandOctets (f.inband.getD 1 none) ++
  match f.hello with
  | some h => (List.range 64).map fun i => (Config.helloOctet h.fields i).toNat
  | none => List.replicate 64 0

/-- The frame check: the CRC-32 of R172 over those octets (R349). -/
def ZenFrame.crc (f : ZenFrame) : Word := w32 (crc32 f.octets)

/-- The frame passes its check (R349, Table 12-3). -/
def ZenFrame.intact (f : ZenFrame) : Bool := f.framed && decide (f.check = f.crc)

/-- The frame with its check as its end block carries it: right, or inverted in every bit (R349). -/
def ZenFrame.sealed (f : ZenFrame) (good : Bool) : ZenFrame := { f with check := if good then f.crc else ~~~f.crc }

/-- An area of a frame that was written. -/
def ZenFrame.area (f : ZenFrame) (a : Nat) (x : ZenArea) : Option AreaData :=
  (AMap.find f.tags a).map fun t => ⟨t.writer, t.index, wordsFrom f.slots x.first x.count⟩

/-- Write an area's tag and slots into a frame (R353, R354). -/
def ZenFrame.putArea (f : ZenFrame) (a : Nat) (x : ZenArea) (d : AreaData) : ZenFrame :=
  { f with tags := AMap.put f.tags a ⟨d.writer, d.index⟩,
           slots := wordsFrom f.slots 0 x.first ++ wordsFrom d.slots 0 x.count ++ f.slots.drop (x.first + x.count) }

/-! ### Writing areas (R353, R354, R363) -/

/-- The 40-bit label of an index. -/
def zenLabel (n : Int) : Nat := (n % 2 ^ 40).toNat

/-- The index of a label: the one nearest the current media period. -/
def State.labelIndex (s : State) (l : Nat) : Int :=
  let d := (((l : Int) - s.index) % 2 ^ 40)
  s.index + (if d < 2 ^ 39 then d else d - 2 ^ 40)

/-- The node takes part under its ID in frame L (R362). -/
def State.zenClear (s : State) (n : Int) : Bool := s.zen.clash.all fun c => decide (n < c)

/-- The node may write its areas into frame L under a map check (R353). -/
def State.zenWrites (s : State) (n : Int) (check : Nat) : Bool :=
  decide (s.run = .running) && !s.fencedAt n && decide (check = (s.zen.mapAt n).check) && s.zenClear n

/-- The insert channel of a slot, lowest first. -/
def Zen.insertOf (z : Zen) (slot : Nat) : Option Nat := (z.inserts.find? fun x => decide (x.2 = slot)).map Prod.fst

/-- The sample index that frame L carries of this node's areas (R353). -/
def State.zenSample (s : State) (n : Int) : Int := n - (2 * s.q + 2 : Nat)

/-- An area's slots at a sample index (R366). -/
def State.areaWords (s : State) (a : ZenArea) (m : Int) : List Word :=
  (List.range a.count).map fun i =>
    match s.zen.insertOf (a.first + i) with
    | some c => lo32 (txValue 32 ((s.outAt (zenKey c) m).getD 0)).1
    | none => 0

/-- Areas of this node by number. -/
def State.ownAreas (s : State) (n : Int) : List (Nat × ZenArea) :=
  ((s.zen.mapAt n).areas.zipIdx.map fun x => (x.2, x.1)).filter fun x => x.2.ofNode s.zen.node

/-- The nodes of this node's subtree: those that its hellos place below it (R363). -/
def State.subtreeNodes (s : State) : List Nat :=
  let hs := s.hellosHeld
  (branchesOf hs hs.length s.zen.node 0 0).map Prod.fst

/-- The areas, not this node's own, of which the owner or partner lies in the subtree (R363). -/
def State.subtreeAreas (s : State) (n : Int) : List (Nat × ZenArea) :=
  ((s.zen.mapAt n).areas.zipIdx.map fun x => (x.2, x.1)).filter fun x => s.subtreeNodes.any x.2.ofNode && !x.2.ofNode s.zen.node

/-- A frame of the node's own map with the copies it holds of some areas (R354). -/
def State.writeCopies (s : State) (areas : List (Nat × ZenArea)) (f : ZenFrame) : ZenFrame :=
  areas.foldl (fun (f : ZenFrame) x => match AMap.find s.zen.copies x.1 with | some c => f.putArea x.1 x.2 c.2 | none => f) f

/-- A frame with this node's areas written, when it may (R353), and the subtree copies of a node with branches (R363). -/
def State.writeAreas (s : State) (n : Int) (f : ZenFrame) : ZenFrame :=
  let m := s.zenSample n
  let f1 := if s.zenWrites n f.mapCheck then
      (s.ownAreas n).foldl (fun (f : ZenFrame) x => f.putArea x.1 x.2 ⟨s.zen.node, lo32 m, s.areaWords x.2 m⟩) f
    else f
  if f.mapCheck = (s.zen.mapAt n).check then s.writeCopies (s.subtreeAreas n) f1 else f1

/-- Clips of the insert samples of an index are counted once (R366). -/
def State.countClips (s : State) (n : Int) (check : Nat) : State :=
  let m := s.zenSample n
  if !s.zenWrites n check || decide (m ≤ s.zen.clipped) then s
  else
    let slots := (s.ownAreas n).flatMap fun x => span x.2.first x.2.count
    let chans := slots.filterMap s.zen.insertOf
    chans.foldl (fun (s : State) c => s.count 0x15 c (b2n (overBits 32 ((s.outAt (zenKey c) m).getD 0)))) { s with zen := { s.zen with clipped := m } }

/-- The hello that frame L carries (R354, R360). -/
def State.helloFor (s : State) (n : Int) : Option Hello :=
  let node := (n % 4096).toNat
  if node = s.zen.node then (if s.zenClear n then some s.ownHello else none)
  else match AMap.find s.zen.hellos node with
    | some h => if n ≤ h.1 + 4096 then some h.2 else none
    | none => none

/-- Put waiting fragments of this node into empty in-band areas, those in transit on the path first (R418). -/
def State.placeFragments (s : State) (path : Nat) (f : ZenFrame) (launch : Bool) : State × ZenFrame :=
  [0, 1].foldl (fun (r : State × ZenFrame) a =>
    if ((r.2.inband.getD a none)).isSome then r
    else
      let s := r.1
      let put := fun (x : Fragment) => { r.2 with inband := r.2.inband.set a (some x) }
      match (if launch then s.zen.transit.find? fun x => decide (x.1 = path) && decide (x.2.1 = a) else none) with
      | some x => ({ s with zen := { s.zen with transit := s.zen.transit.erase x } }, put x.2.2)
      | none => match s.zen.outband.find? fun x => decide (x.1 = a) with
        | some x => ({ s with zen := { s.zen with outband := s.zen.outband.erase x } }, put x.2)
        | none => r) (s, f)

/-- Send a frame on the ports of a path. -/
def State.zenSend (s : State) (path : Nat) (f : ZenFrame) : State :=
  { s with zen := { s.zen with sent := s.zen.sent ++ (((zenPortsOut s.zen.mode path).filter fun p => s.zenSends p).map fun p => ⟨p, f⟩) } }

/-- A frame launched by this node on a path (R348, R354, R363). -/
def State.launchFrame (s : State) (path : Nat) (n : Int) : State × ZenFrame :=
  let map := s.zen.mapAt n
  let up := decide (path = 2)
  let f : ZenFrame := { upward := up, ring := if path = 1 then 1 else 0, byHead := !up && !s.zen.isRoot, label := zenLabel n, launcher := s.zen.node,
                        root := s.zen.root, mapCheck := map.check, rate := s.rate, hello := s.helloFor n }
  let f1 := if up then f else s.writeCopies (map.areas.zipIdx.map fun x => (x.2, x.1)) f
  let r := (s.countClips n map.check).placeFragments path (s.writeAreas n f1) true
  (r.1, r.2.sealed true)

/-- Launch frame L on a path. -/
def State.zenLaunch (s : State) (path : Nat) (n : Int) : State :=
  let r := s.launchFrame path n
  let s1 := r.1.zenSend path r.2
  if path = 2 then { s1 with zen := { s1.zen with upLaunched := n } } else s1.updZring path fun x => { x with launched := n }

/-- ZEN_FRAME_LAUNCH: at a period start the root, a head or a branch node launches (R348, R354, R357, R359, R363). -/
def zenFrameLaunch (s : State) : State :=
  if !s.zen.enabled then s
  else
    let n := s.index
    let s1 := (zenPaths s.zen.mode).foldl (fun (s : State) r =>
      if (s.zen.isRoot || (s.zring r).head) && decide ((s.zring r).launched < n) then s.zenLaunch r n else s) s
    let s2 := if decide (s1.zen.mode = 2) && decide (s1.zen.upLaunched < n) then s1.zenLaunch 2 n else s1
    s2.zenView

/-! ### Heads and roots (R357 to R359) -/

/-- The node becomes head of a path (R357). -/
def State.becomeHead (s : State) (r : Nat) : State :=
  if (s.zring r).head || s.zen.isRoot then s
  else (((((s.updZring r fun x => { x with head := true, good := 0 }).setEvt (rZenEvt + 0x400 * zenPortUp r) 2).bump rZenHeadcnt).logNow evZenHead)).zenView

/-- The frame is refused before it is read or forwarded (R351). -/
def State.zenRefused (s : State) (f : ZenFrame) : Bool :=
  let d := (((f.label : Int) - s.index) % 2 ^ 40)
  decide (f.rate ≠ s.rate) || (decide (2 < d) && decide (d < 2 ^ 40 - 2)) || decide (4095 ≤ f.hops)

/-- ZEN_LOCK_LOSS: a port loses block lock; `inFrame` is the frame that was passing, with what had come of it. A node that was forwarding it
ends its copy with an inverted check and launches a complete frame of that label (R357, Table 12-3). -/
def zenLockLoss (p : Nat) (inFrame : Option ZenFrame) (s : State) : State :=
  if !s.zenOn p || !(s.zport p).lock then s
  else
    let s1 := (((s.updZport p fun x => { x with lock := false, state := .down }).bump (rZenLockcnt + 0x400 * p)).setEvt (rZenEvt + 0x400 * p) 0).logNow evZenLinkDown
    match zenPathIn s.zen.mode p with
    | none => s1
    | some r =>
      if s1.zen.isRoot then s1.zenView
      else
        let wasHead := (s1.zring r).head
        let s2 := s1.becomeHead r
        match inFrame with
        | some f =>
          if wasHead || s.zenRefused f then s2
          else
            let n := s.labelIndex f.label
            let cut := (s.writeAreas n { f with hops := f.hops + 1, framed := false }).sealed false
            (s2.zenSend r cut).zenLaunch r n
        | none => s2

/-- ZEN_MISSING_FRAMES: four periods without a good frame on a path's upstream port (R357). -/
def zenMissingFrames (p : Nat) (s : State) : State :=
  match zenPathIn s.zen.mode p with
  | some r => if s.zenOn p && decide ((s.zport p).lastGood + 4 < s.index) then s.becomeHead r else s
  | none => s

/-- ZEN_ROOT_CHANGE: at a period start the node becomes root, or stops being root (R359). -/
def zenRootChange (s : State) : State :=
  let root := decide (s.zen.root = s.zen.node) && s.zen.enabled && s.zen.clash.isNone
  if root = s.zen.isRoot then s
  else
    let rings := s.zen.rings.map fun x => { x with head := false, good := 0 }
    (({ s with zen := { s.zen with isRoot := root, rings := rings } }.portEvents s).logNow evZenRoot).zenView

/-! ### Receiving (R349 to R351, R355, R356, Table 12-3) -/

/-- S_z of a drop channel's ring (R355). -/
def State.dropSize (s : State) : Nat := jitterSize (s.zen.p + 2 * s.q) 0

/-- One drop sample (R332, R355). -/
def State.takeDrop (s : State) (c : Nat) (n v : Int) : State :=
  let size := s.dropSize
  let lo := s.openFirst
  if decide (n < lo) || decide (lo + size - s.q ≤ n) then s.bump rZenDroplate
  else if (s.ringAt (zenKey c) n).isSome then s
  else s.jitterPut (zenKey c) size n v

/-- Read one area of an accepted frame: the copy, and the drops mapped to its slots (R354, R355). -/
def State.readArea (s : State) (a : Nat) (x : ZenArea) (d : AreaData) : State :=
  let m := nearestIndex d.index s.index
  let newer := match AMap.find s.zen.copies a with | some c => decide (c.1 < m) | none => true
  let s1 := if newer then { s with zen := { s.zen with copies := AMap.put s.zen.copies a (m, d) } } else s
  (s.zen.drops.filter fun y => x.holds y.2).foldl (fun (s : State) y =>
    s.takeDrop y.1 (m + s.zen.p) (rxValue 32 (d.slots.getD (y.2 - x.first) 0))) s1

/-- A map error (Table 12-3). -/
def State.mapError (s : State) (key : Nat) : State := ((s.bump rZenMaperr).setEvt rZenNevt 4).logOnce evZenMaperr key

/-- Read the areas of an accepted frame (R355). -/
def State.readAreas (s : State) (map : ZenMap) (f : ZenFrame) : State :=
  map.areas.zipIdx.foldl (fun (s : State) y =>
    match f.area y.2 y.1 with
    | none => s
    | some d =>
      if d.writer = 0 then s
      else if y.1.ofNode d.writer then (s.readArea y.2 y.1 d).endRun evZenMaperr (16 + y.2)
      else s.mapError (16 + y.2)) s

/-- Good frames in a row from the elected root end a head's time (R358). -/
def State.headCount (s : State) (p r : Nat) (f : ZenFrame) : State :=
  let x := s.zring r
  let n := if decide (f.launcher = s.zen.root) && decide (s.zen.root ≠ 0) && f.intact then x.good + 1 else 0
  if x.head && decide (64 ≤ n) then
    (((s.updZring r fun x => { x with head := false, good := 0 }).setEvt (rZenEvt + 0x400 * p) 2)).zenView
  else s.updZring r fun x => { x with good := n }

/-- In-band areas of a frame that ends here, or is read on the way: fragments for this node, and its own returned, leave; at a
terminating node those for others are kept for the next launch (R418). Those of a frame that is not read stay (Table 12-3). -/
def State.readInband (s : State) (path : Nat) (n : Int) (f : ZenFrame) (ends : Bool) : State × ZenFrame :=
  if f.mapCheck ≠ (s.zen.mapAt n).check || !f.intact then (s, f)
  else [0, 1].foldl (fun (r : State × ZenFrame) a =>
    match r.2.inband.getD a none with
    | none => r
    | some x =>
      let out := { r.2 with inband := r.2.inband.set a none }
      if decide (x.dest = s.zen.node) || decide (x.src = s.zen.node) then (r.1, out)
      else if ends then ({ r.1 with zen := { r.1.zen with transit := r.1.zen.transit ++ [(path, a, x)] } }, out)
      else r) (s, f)

/-- Forward a frame on its path by cut-through (R349 to R351, R353, R360, R363). Under another map nothing is written into it (Table 12-3).
A frame that failed its check goes on with an inverted one: `good` says that it passed. -/
def State.zenForward (s : State) (p path : Nat) (n : Int) (f : ZenFrame) (good fifoOk : Bool) : State :=
  let f0 := { f with hops := f.hops + 1 }
  if !fifoOk then ((s.bump (rZenFifocnt + 0x400 * p)).setEvt (rZenEvt + 0x400 * p) 4)
  else if f.mapCheck ≠ (s.zen.mapAt n).check then s.zenSend path (f0.sealed good)
  else
    let f1 := s.writeAreas n f0
    let f2 := if decide ((n % 4096).toNat = s.zen.node) && s.zenClear n then { f1 with hello := some s.ownHello } else f1
    let r := (s.countClips n f.mapCheck).placeFragments path f2 false
    r.1.zenSend path (r.2.sealed good)

/-- The mean arrival register (Table 12-6); its window is not stated. -/
def State.noteArrival (s : State) (p : Nat) : State :=
  { s.updZport p fun x => { x with arrive := (Config.zenArrive s.free).toNat } with free := s.free + 1 }

/-- What a node reads of a frame that passed its check (R354, R355, R360). -/
def State.zenRead (s : State) (n : Int) (f : ZenFrame) : State :=
  let map := s.zen.mapAt n
  if f.mapCheck ≠ map.check then s.mapError 0
  else
    let s1 := (s.endRun evZenMaperr 0).readAreas map f
    match f.hello with
    | some h => s1.takeHello h
    | none => s1

/-- A frame that passed its check is accepted (Table 12-6). -/
def State.zenAccept (s : State) (p : Nat) (n : Int) (f : ZenFrame) : State :=
  let s1 := (s.bump (rZenFramecnt + 0x400 * p)).updZport p fun x => { x with lastLabel := n, lastGood := s.index }
  (((s1.noteArrival p).endRun evZenCheck p).endRun evZenLabel p).zenRead n f

/-- A frame whose check failed (Table 12-3). -/
def State.zenBad (s : State) (p : Nat) : State := ((s.bump (rZenChkcnt + 0x400 * p)).setEvt (rZenEvt + 0x400 * p) 1).logOnce evZenCheck p

/-- The high-error condition of a port in use: 16 or more invalid sync headers within 125 µs (Table 12-3). -/
def State.zenHiber (s : State) (p : Nat) (bad : Bool) : State :=
  if !s.zenOn p || !(s.zport p).lock then s
  else
    let s1 := s.updZport p fun x => { x with hiber := bad }
    if bad then s1.logOnce evZenHiber p else s1.endRun evZenHiber p

/-- A frame arrives on port p; `fifoOk` says that the elastic FIFO keeps its gap (R350). -/
def State.zenTake (s : State) (p : Nat) (f : ZenFrame) (fifoOk : Bool) : State :=
  if !s.zenOn p || !(s.zport p).lock then s
  else if s.zenRefused f then ((s.bump (rZenLblcnt + 0x400 * p)).setEvt (rZenEvt + 0x400 * p) 3).logOnce evZenLabel p
  else
    let n := s.labelIndex f.label
    match zenPathIn s.zen.mode p with
    | none =>
      if zenRole s.zen.mode p = .branch then
        let s1 := if f.intact then s.zenAccept p n f else s.zenBad p
        (s1.readInband (if s.zen.mode = 2 then 2 else 0) n f true).1
      else s
    | some r =>
      let counted := if s.zen.isRoot then s else s.headCount p r f
      let goes := !s.zen.isRoot && !(counted.zring r).head && decide ((counted.zring r).launched < n)
      let b := counted.readInband r n f (!goes)
      let s1 := if goes then b.1.zenForward p r n b.2 f.intact fifoOk else b.1
      if f.intact then s1.zenAccept p n f else s1.zenBad p

/-- ZEN_FRAME_RECEIVED: the port's error rate shows, and the frame is checked all the same (R349 to R355, Table 12-3). -/
def zenFrameReceived (p : Nat) (f : ZenFrame) (fifoOk hiber : Bool) (s : State) : State := (s.zenHiber p hiber).zenTake p f fifoOk

/-- The link word that the node sends on port p now (R347). -/
def State.ownLinkWord (s : State) (p : Nat) : LinkWord := 
  { node := s.zen.node, port := p, q := s.q, stamps := { sent := s.time, echo := (s.zport p).heard } }

/-- The one-way delay of a cable in ns: half of the round trip that a link word received at t gives (R347). Without an echo it stays. -/
def LinkWord.delay (x : LinkWord) (t : Int) (old : Nat) : Nat :=
  match x.stamps.echo with
  | some e => min (Int.fdiv ((t - e.1) - (x.stamps.sent - e.2)) (2 * nsUnit)).toNat (2 ^ 20 - 1)
  | none => old

/-- ZEN_LINK_WORD: a neighbour's ID, port and Q, and with its stamps the one-way cable delay (R346, R347, Table 12-3). -/
def zenLinkWord (p : Nat) (x : LinkWord) (s : State) : State :=
  if !s.zenOn p then s
  else
    let ok := zenCableOk s.zen.mode p (x.port % 4)
    let s1 := s.updZport p fun y =>
      { y with peer := x.node % 4096, peerPort := x.port % 4, peerQ := x.q, peerValid := true, heard := some (x.stamps.sent, s.time),
               delay := x.delay s.time y.delay, state := if !ok then .training else if y.lock then .up else y.state }
    (if ok then s1 else s1.logNow evZenCable).zenView

/-- ZEN_BLOCK_LOCK_GAIN: LOCK sets and the port leaves DOWN (R364). -/
def zenBlockLockGain (p : Nat) (s : State) : State :=
  if !s.zenOn p || (s.zport p).lock then s
  else
    let x := s.zport p
    let ok := x.peerValid && zenCableOk s.zen.mode p x.peerPort
    (s.updZport p fun x => { x with lock := true, state := if ok then .up else .training }).setEvt (rZenEvt + 0x400 * p) 0

/-- Substitution of drop samples at the readiness of the quantum from `first` on (R356). -/
def State.zenSubst (s : State) (first : Int) : State :=
  let lost := s.zen.drops.map fun d => (d.1, (List.range s.q).countP fun (j : Nat) => (s.ringAt (zenKey d.1) (first + j)).isNone)
  let total := nsum (lost.map Prod.snd)
  if total = 0 then s.endRun evZenLost 0
  else
    let s1 := lost.foldl (fun (s : State) x => s.count 0x14 x.1 x.2) (s.bump rZenDroplost total)
    (s1.setEvt rZenNevt 3).logOnceAt evZenLost 0 first []

/-! ### ZEN_CONFIG and ZEN_TOPOLOGY -/

/-- A port after ZEN_CONFIG. -/
def ZenPort.configured (x : ZenPort) (on : Bool) : ZenPort :=
  if !on then {} else if x.state = .off then { x with state := .training } else x

/-- ZEN_CONFIG (R361, R367, R368): node, mode, ports and P; a clash ends, and what was heard is forgotten. -/
def zenConfigSpec : CmdSpec where
  op := 0x901
  layout := fun p s =>
    let node := fld (p.w 4) 11 0
    let pp := fld (p.w 5) 12 0
    firstDeny [lenIs p 6, denyIf (reservedSet (p.w 4) (mask 19 0) || reservedSet (p.w 5) (mask 12 0) || decide (node = 0) || decide (node = 0xFFF) ||
      decide (fld (p.w 4) 14 13 = 3) || decide (pp < 2 * s.q + 6) || decide (4096 < pp)) fieldDeny]
  act := fun p s _ _ =>
    let on := bitOf (p.w 4) 15
    let ports := s.zen.ports.zipIdx.map fun x => x.1.configured (on && bitOf (p.w 4) (16 + x.2))
    let z : Zen := { enabled := on, node := fld (p.w 4) 11 0, rootEn := bitOf (p.w 4) 12, mode := fld (p.w 4) 14 13, portEn := fld (p.w 4) 19 16,
                     p := fld (p.w 5) 12 0, ports := ports, maps := s.zen.maps, drops := s.zen.drops, inserts := s.zen.inserts, topGen := s.zen.topGen,
                     rings := [{ launched := s.index }, { launched := s.index }], upLaunched := s.index, clipped := s.zen.clipped, sent := s.zen.sent }
    { s := ({ s with zen := z }.portEvents s).zenView }

/-- Entries of ZEN_TOPOLOGY from one on (Table 12-5). -/
def Topology.entries (t : Topology) (first : Nat) : List Word :=
  ((t.order.drop first).take 250).flatMap fun n =>
    match t.hello n with
    | some h => [w32 (h.node + flagBit h.rootEn 12 + flagBit h.headA 13 + flagBit h.headB 14 + h.q % 128 * 2 ^ 16), w32 (h.delayA % 2 ^ 20 + h.upA * 2 ^ 20)]
    | none => [w32 n, 0]

/-- ZEN_TOPOLOGY (R369). -/
def zenTopologySpec : CmdSpec where
  op := 0x905
  layout := fun p _ => firstDeny [lenIs p 5, denyIf (reservedSet (p.w 4) (mask 11 0)) fieldDeny]
  act := fun p s _ _ =>
    let t := s.topology
    let first := fld (p.w 4) 11 0
    let es := if s.zen.enabled then t.entries first else []
    { s := s,
      words := [w32 (s.topoState t + s.zen.topGen * 2 ^ 8), w32 (s.zen.root + (if s.zen.enabled then t.order.length else 0) * 2 ^ 16),
                w32 (t.dlap s.zen.mode), w32 (t.pmin s.zen.mode s.fs % 2 ^ 13 + t.qmax % 2 ^ 13 * 2 ^ 16), w32 (first + es.length / 2 * 2 ^ 16)] ++ es }

end Sys2Proof.Machine
end

