-- ==== Sys2Proof/Machine/Timed.lean ====
section
/-! DEFINITION. Accepted changes and their indices (R60 to R63, R68): how one takes effect, in what order, and what the configuration
will be at a later index, against which later commands are checked (R147). -/
namespace Sys2Proof.Machine

/-- The effect of one command at index n; none when it is dropped (R60). -/
def applyOne (op : Nat) (p : Packet) (c : Change) (s : State) (n : Int) : Option State :=
  match op with
  | 0x602 => some s
  | 0x603 => applySapStop c.data s n
  | 0x604 => applyTapConfig p s n
  | 0x802 => applyStream 0x802 p c s n
  | 0x803 => applyStream 0x803 p c s n
  | 0x804 => applyStream 0x804 p c s n
  | 0x902 => applyZenMap p s n
  | 0x903 => applyZenMapping 0x903 p s n
  | 0x904 => applyZenMapping 0x904 p s n
  | _ => applyEngine op p c s n

/-- A command at index n, dropped and logged with its channel and tag when its target is gone (R60). -/
def applyOrDrop (op : Nat) (p : Packet) (tag : Packet) (c : Change) (s : State) (n : Int) : State :=
  match applyOne op p c s n with
  | some t => t
  | none => s.logAt evApplyDropped n [shownChannel tag.ch, tag.tag.toNat]

/-- An accepted change at index n: the members of a set in the order they were given (R68). -/
def applyChange (c : Change) (s : State) (n : Int) : State :=
  let p := c.packets.headD { ch := 0 }
  if c.op = 0x111 then c.members.foldl (fun (s : State) m => applyOrDrop m.1 m.2 m.2 c s n) s
  else applyOrDrop c.op p (c.packets.getLast?.getD p) c s n

/-- The order in which changes take effect: earlier index, quantum-exact before sample-exact, order of acceptance (R62). -/
def State.changeBefore (s : State) (a b : Change) : Bool :=
  let x := s.effIndex a
  let y := s.effIndex b
  decide (x < y) || (decide (x = y) && ((a.quantum && !b.quantum) || (decide (a.quantum = b.quantum) && decide (a.order ≤ b.order))))

/-- The first change that a test admits. -/
def State.firstChange (s : State) (ok : Change → Bool) : Option Change :=
  (s.changes.filter ok).foldl (fun (b : Option Change) c => match b with | none => some c | some x => if s.changeBefore c x then some c else some x) none

/-- Take effect, one after another, of the changes that a test admits; those due before `floor` act there. -/
def State.drain (s : State) (ok : State → Change → Bool) (floor : Int) : Nat → State
  | 0 => s
  | fuel + 1 =>
    match s.firstChange (ok s) with
    | none => s
    | some c =>
      let rest := s.changes.filter fun x => decide (x.order ≠ c.order)
      State.drain (applyChange c { s with changes := rest } (max (s.effIndex c) floor)) ok floor fuel

/-- The state after every accepted change due at or before index n. -/
def State.futureAt (s : State) (n : Int) : State := s.drain (fun t c => decide (t.effIndex c ≤ n)) (n - 2 ^ 62) s.changes.length

/-- The states from index n on: at n and at every later index at which an accepted change is due. -/
def State.futures (s : State) (n : Int) : List (Int × State) :=
  let later := ((s.changes.map s.effIndex).filter fun j => decide (n < j)).eraseDups
  (n :: later).map fun j => (j, s.futureAt j)

/-- The state with one more change accepted. -/
def State.withChange (s : State) (op : Nat) (quantum : Bool) (i : Int) (ps : List Packet) (g : Option Graph := none) : State :=
  s.enqueue { index := i, quantum := quantum, order := 0, timed := false, op := op, packets := ps, graph := g }

/-- The state with members committed as one set. -/
def State.withSet (s : State) (i : Int) (ms : List (Nat × Packet)) : State :=
  s.enqueue { index := i, quantum := false, order := 0, timed := false, op := 0x111, packets := [], members := ms }

/-- The state with one more command accepted: a GROUP packet counts with the members already in its set (R66, R117, R143). -/
def State.withCommand (s : State) (op : Nat) (i : Int) (p : Packet) : State :=
  if p.group then s.withSet i ((s.chan p.ch).set.elim [] (·.members) ++ [(op, p)]) else s.withChange op false i [p]

/-- A change that acts on the ports, or starts or stops processing: it takes effect when its index comes. -/
def portChange (op : Nat) : Bool :=
  [0x009, 0x00A, 0x602, 0x603, 0x604, 0x802, 0x803, 0x804, 0x902, 0x903, 0x904].contains op

/-- A change may take effect now: its index has come; a change of the engines, only once no earlier index can be selected any more, and
for the quanta that have not been taken into processing. -/
def State.mayApply (s : State) (c : Change) : Bool :=
  let e := s.effIndex c
  decide (e ≤ s.index) &&
  (portChange c.op ||
   (decide (e < s.earliest) && (!s.processing || s.audio.next.any fun k => decide (e < (k + 1) * s.q))))

/-- TIMED_COMMAND_APPLY (R60, R62). -/
def timedCommandApply (s : State) : State := s.drain State.mayApply (s.index - 2 ^ 62) s.changes.length

/-- Every change due before the end of quantum k takes effect; in processing those overtaken act at its first index (R62, R63). -/
def State.drainQuantum (s : State) (k : Int) : State :=
  s.drain (fun t c => decide (t.effIndex c < (k + 1) * t.q)) (if s.processing then k * s.q else s.index - 2 ^ 62) s.changes.length

end Sys2Proof.Machine
end

