-- ==== Sys2Proof/Machine/GraphCommands.lean ====
section
/-! DEFINITION. SET_RATE, START_PROCESSING, STOP_PROCESSING and the graph commands (R36 to R54, R74, R75, R249 to R251, R446, R447,
R566, R567). -/
namespace Sys2Proof.Machine

/-! ### Rate and processing -/

/-- Rate code and log2 Q that SET_RATE names (R446). -/
def rateOf (p : Packet) : Nat := fld (p.w 4) 1 0
def logQOf (p : Packet) : Nat := fld (p.w 4) 6 4

/-- Limits of a high rate on configuration outside the graph (R41). -/
def highRateDeny (s : State) : Option Deny :=
  let rx := s.net.rx.vals
  let tx := s.net.tx.vals
  firstDeny [
    denyIf (decide (128 < rx.length) || decide (128 < tx.length)) ⟨.noResource, 0x30⟩,
    denyIf (decide (1024 < nsum (rx.map (·.chans))) || decide (1024 < nsum (tx.map (·.chans)))) ⟨.noResource, 0x31⟩,
    denyIf (s.sap.taps.any fun x => decide (127 < x.1 % 256 + x.2.count - 1)) fieldDeny,
    denyIf ((s.zen.drops ++ s.zen.inserts).any fun x => decide (2047 < x.1) || decide (6143 < x.2)) fieldDeny,
    denyIf ((s.zen.maps.flatMap (·.areas)).any fun a => decide (6144 < a.first + a.count)) fieldDeny,
    denyIf (s.twin.enabled && decide (4096 < s.graphNow.mirrorChans)) ⟨.noResource, 0x40⟩]

/-- Configured ports, streams and the Zenel offset at a new rate and Q (R256, R331, R368). -/
def portRateDeny (s : State) (rate q : Nat) : Option Deny :=
  firstDeny [
    denyIf (s.sap.groups.any fun x => decide (fld x.2.cfg0 5 0 ≠ 0) && !sapRateOk x.2.cfg0 rate) fieldDeny,
    denyIf (s.net.rx.any fun x => decide (x.2.l < x.2.p + 2 * q + 2)) fieldDeny,
    denyIf (decide (s.zen.node ≠ 0) && decide (s.zen.p < 2 * q + 6)) fieldDeny]

/-- The state at another rate and Q, before the graph is admitted again. -/
def State.atRate (s : State) (rate logQ : Nat) : State := { s with rate := rate, logQ := logQ }

/-- Admission of the committed graph against a new setting (R40). -/
def reAdmitDeny (s : State) : Option Deny :=
  match s.cfg.graph with
  | none => none
  | some a => match a.graph.admission s (s.fmaxAt s.index) with | .error d => some d | .ok _ => none

/-- The committed graph as the new setting admits it. -/
def State.reAdmitted (s : State) : State :=
  match s.cfg.graph with
  | none => s
  | some a =>
    let b := a.graph.admitted s (s.fmaxAt s.index)
    { s with cfg := { s.cfg with graph := some b }, load := highestLoad b.loads }.setFld rSchDelay 13 0 b.delayEntries

/-- Processing that a stop left ramping ends (R201). -/
def State.cutRamps (s : State) : State :=
  if s.cfg.stopRamp.isSome then { s with cfg := { s.cfg with stopRamp := none }, audio := { s.audio with next := none, relabel := none } } else s

/-- SET_RATE (R39 to R41, R446). -/
def setRateSpec : CmdSpec where
  op := 0x008
  pair := true
  layout := fun p _ => firstDeny [lenIs p 5, denyIf (reservedSet (p.w 4) (mask 1 0 + mask 6 4) || decide (6 < logQOf p)) fieldDeny]
  own := fun p s _ =>
    firstDeny [reAdmitDeny (s.atRate (rateOf p) (logQOf p)), portRateDeny s (rateOf p) (2 ^ logQOf p),
      if 2 ≤ rateOf p then highRateDeny s else none]
  act := fun p s _ _ => { s := (s.cutRamps.atRate (rateOf p) (logQOf p)).reAdmitted }

/-- The run state that will hold at an index, once every accepted start and stop that takes effect before has done so (R447). -/
def State.runAt (s : State) (b : Int) : RunState :=
  let due := s.changes.filter fun c => (decide (c.op = 0x009) || decide (c.op = 0x00A)) && decide (s.effIndex c ≤ b)
  let ordered := sortBy (fun x y => s.changeBefore x y) due
  ordered.foldl (fun r c => if c.op = 0x009 then (if r = .ready then .running else r) else (if r = .running || r = .halted then .ready else r)) s.run

/-- The run state that will hold at the index a pair packet selects is not an allowed one (R447); a late packet selects none. -/
def runStateDeny (p : Packet) (s : State) (allowed : List RunState) : Option Deny :=
  (selectFrom p.apply (s.earliestFor true)).bind fun i => denyIf (!allowed.contains (s.runAt (s.boundaryFrom i))) stateDeny

/-- START_PROCESSING (R37, R447, R521). -/
def startProcessingSpec : CmdSpec where
  op := 0x009
  timing := .quantum
  pair := true
  state := fun p s => firstDeny [denyIf (decide (s.cfg.graph = none)) ⟨.wrongState, 0x21⟩, denyIf (decide (s.reg rRpcHeld ≠ 0)) stateDeny,
    runStateDeny p s [.ready]]
  layout := fun p _ => lenIs p 4
  act := fun p s i _ => enqueueAct 0x009 true p s i

/-- STOP_PROCESSING (R38, R445, R447). -/
def stopProcessingSpec : CmdSpec where
  op := 0x00A
  timing := .quantum
  pair := true
  state := fun p s => runStateDeny p s [.running, .halted]
  layout := fun p _ => lenIs p 4
  act := fun p s i _ => enqueueAct 0x00A true p s i

/-! ### The build (R51, R52) -/

/-- A handle: the one that the holder chose (R392), or a free value, nonzero and never given before (R86). -/
def chosenHandle (forced : Option (List Word)) (s : State) : Word :=
  match forced with
  | some ws => ws.headD 0
  | none =>
    let h := Config.handle s.free
    if h = 0 || s.handles.contains h then w32 (leastUnused (s.handles.map BitVec.toNat) s.handles.length) else h

/-- A handle given. -/
def State.gaveHandle (s : State) (h : Word) : State := { s with free := s.free + 1, handles := h :: s.handles }

/-- The open build that a packet names; Table 15-3's BAD_HANDLE otherwise. -/
def buildDeny (p : Packet) (s : State) : Option Deny :=
  match s.build with | some b => denyIf (decide (b.handle ≠ p.handle)) handleDeny | none => some handleDeny

/-- The graph in the build area. -/
def State.buildGraph (s : State) : Graph := match s.build with | some b => b.graph | none => {}

/-- Change the graph in the build area. -/
def State.inBuild (s : State) (f : Graph → Graph) : State := { s with build := s.build.map fun b => { b with graph := f b.graph } }

/-- GRAPH_BEGIN (R52). -/
def graphBeginSpec : CmdSpec where
  op := 0x101
  pair := true
  layout := fun p _ => lenIs p 4
  own := fun _ s _ => denyIf s.build.isSome busyDeny
  act := fun p s _ forced =>
    let h := chosenHandle forced s
    { s := { s.gaveHandle h with build := some { handle := h, ch := p.ch } }, words := [h] }

/-- Op id of GRAPH_ADD_OP, and from and to of GRAPH_CONNECT (Table 02-4). -/
def opIdOf (w : Word) : Nat := fld w 29 16

/-- GRAPH_ADD_OP (R48, R51). -/
def graphAddOpSpec : CmdSpec where
  op := 0x102
  pair := true
  handle := buildDeny
  layout := fun p s =>
    firstDeny [denyIf (decide (p.len < 6)) lengthDeny,
      denyIf (reservedSet (p.w 4) (mask 29 16 + mask 7 0) || reservedSet (p.w 5) (mask 15 0) || !kindKnown (fld (p.w 4) 7 0)) fieldDeny,
      denyIf (decide (p.len ≠ 6 + (addedOp p).paramCount)) lengthDeny,
      denyIf (opBad (addedOp p) s.highRate s.q) fieldDeny]
  own := fun p s _ => denyIf (s.buildGraph.op (opIdOf (p.w 4))).isSome (badParam 0xFFF9)
  act := fun p s _ _ => { s := s.inBuild fun g => { g with ops := AMap.put g.ops (opIdOf (p.w 4)) (addedOp p) } }

/-- The edge that GRAPH_CONNECT spells. -/
def addedEdge (p : Packet) : Edge :=
  { src := opIdOf (p.w 4), sport := fld (p.w 4) 7 0, dst := opIdOf (p.w 5), dport := fld (p.w 5) 7 0, delay := (p.w 6).toNat }

/-- GRAPH_CONNECT (R47, R51). -/
def graphConnectSpec : CmdSpec where
  op := 0x103
  pair := true
  handle := buildDeny
  layout := fun p s => firstDeny [lenIs p 7,
    denyIf (reservedSet (p.w 4) (mask 29 16 + mask 7 0) || reservedSet (p.w 5) (mask 29 16 + mask 7 0) ||
      (decide ((p.w 6).toNat ≠ 0) && (decide ((p.w 6).toNat < s.q) || decide (4096 < (p.w 6).toNat)))) fieldDeny]
  own := fun p s _ =>
    let g := s.buildGraph
    let e := addedEdge p
    match g.op e.src, g.op e.dst with
    | some a, some b => firstDeny [denyIf (decide (a.nout ≤ e.sport) || decide (b.nin ≤ e.dport)) (badParam 0x15),
        denyIf (g.into e.dst e.dport).isSome (badParam 0xFFF9)]
    | _, _ => some (badParam 0x14)
  act := fun p s _ _ => { s := s.inBuild fun g => { g with edges := g.edges ++ [addedEdge p] } }

/-- The state against which a graph for an index is admitted: every change due by its boundary has taken effect (R84, R147). -/
def State.admitAt (s : State) (i : Int) : State := if s.run = .running then s.futureAt (s.boundaryFrom i) else s

/-- GRAPH_COMMIT (R44, R52, R53). -/
def graphCommitSpec : CmdSpec where
  op := 0x104
  timing := .quantum
  pair := true
  state := fun p s => denyIf (decide (s.run ≠ .running) && decide (p.apply ≠ 0)) stateDeny
  handle := buildDeny
  layout := fun p _ => lenIs p 4
  own := fun _ s i =>
    match s.buildGraph.admission (s.admitAt i) ((s.admitAt i).fmaxAt (s.boundaryFrom i)) with | .error d => some d | .ok _ => none
  act := fun p s i forced =>
    let g := s.buildGraph
    let t := s.admitAt i
    let l := highestLoad (g.admitted t (t.fmaxAt (s.boundaryFrom i))).loads
    let words := match forced with | some ws => ws | none => [w32 l.1, w32 l.2]
    let s1 := { s with build := none }
    if s.run = .running then
      { s := (s1.poldersFor g).enqueue { index := i, quantum := true, order := 0, timed := decide (p.apply ≠ 0), op := 0x104, packets := [p], graph := some g }, words := words }
    else { s := s1.replaceGraph g i, words := words }
  onDeny := fun _ d s => if d = handleDeny then s else { s with build := none }

/-- GRAPH_QUERY_COST (R567). -/
def graphQueryCostSpec : CmdSpec where
  op := 0x105
  handle := buildDeny
  layout := fun p _ => lenIs p 4
  own := fun _ s _ => s.buildGraph.structureDeny s
  act := fun _ s _ _ => { s := s, words := (s.buildGraph.loads s (s.fmaxAt s.index)).map w32 }

/-- OP_CANCEL (R249, R251): checked against the graph of its index. -/
def opCancelSpec : CmdSpec where
  op := 0x107
  timing := .quantum
  pair := true
  layout := fun p _ => firstDeny [lenIs p 6,
    denyIf (reservedSet (p.w 4) (mask 29 16) || reservedSet (p.w 5) (mask 15 0) || decide (fld (p.w 5) 15 0 = 0)) fieldDeny]
  own := fun p s i => denyIf ((s.graphAt (s.boundaryFrom i)).op (opIdOf (p.w 4))).isNone (badParam 0x14)
  act := fun p s i _ => enqueueAct 0x107 true p s i

/-! ### PATH_LATENCY (R73 to R75, R566) -/

/-- Delay so far on the least and on the greatest path, and whether the greatest crosses a tap whose delay varies. -/
structure Reach where
  lo : Nat
  hi : Nat
  vary : Bool
  deriving DecidableEq, Repr

/-- Two ways to one place; of two that are equally long, one that varies makes the maximum vary (DESIGN CHOICE, log entry 64). -/
def Reach.join (a b : Reach) : Reach :=
  { lo := min a.lo b.lo, hi := max a.hi b.hi,
    vary := (decide (b.hi ≤ a.hi) && a.vary) || (decide (a.hi ≤ b.hi) && b.vary) }

/-- A link on from a place. -/
def Reach.add (a b : Reach) : Reach := { lo := a.lo + b.lo, hi := a.hi + b.hi, vary := a.vary || b.vary }

/-- Places of a path: sinks, sources, output ports, input ports. -/
def sinkPlace (x : Nat) : Nat := 0x10000 + x
def sourcePlace (x : Nat) : Nat := 0x20000 + x
def outPlace (i port : Nat) : Nat := 0x1000000 + i * 256 + port
def inPlace (i port : Nat) : Nat := 0x2000000 + i * 256 + port

/-- A link without delay. -/
def link (dest : Nat) : Nat × Reach := (dest, ⟨0, 0, false⟩)

/-- A link with a fixed delay. -/
def linkBy (dest d : Nat) : Nat × Reach := (dest, ⟨d, d, false⟩)

/-- Sides of a sink that may sound at an index: the route and the running crossfades (R566). -/
def Sink.sources (k : Sink) (n : Int) : List Nat :=
  ((k.prune n).route :: ((k.prune n).fades.filter fun f => decide (f.start ≤ n)).map (·.incoming)).filterMap fun r =>
    r.bind fun x => if x.dead.any fun d => decide (d ≤ n) then none else some x.src

/-- Links from a source: routes and crosspoints in force, those of a bus while it exists (R145, R566). -/
def sourceLinks (s : State) (n : Int) (x : Nat) : List (Nat × Reach) :=
  let l := s.cfg.sluice
  ((l.sinks.filter fun k => (k.2.sources n).contains x).map fun k => link (sinkPlace k.1)) ++
  ((l.xpts.filter fun c => decide (c.1 / 2048 = x) && c.2.active n && l.busAt s.q (c.1 % 2048) n).filterMap fun c =>
    (s.graphNow.bus (c.1 % 2048)).map fun b => link (sourcePlace (b.2.firstSource + (c.1 % 2048 - b.2.firstBus))))

/-- Links from an object's input to the feeds of its footprint (R566). The τ of a tap varies while DELAY_EN is set at the index of the
query, whether the object moves or not (DESIGN CHOICE, log entry 64). -/
def objectLinks (s : State) (n : Int) (o : Op) : List (Nat × Reach) :=
  match AMap.find s.cfg.serpent.objs o.objNo with
  | none => []
  | some c =>
    if !s.cfg.serpent.objAt s.q o.objNo n then [] else
    let foot := (s.objMem o.objNo c).last.elim [] fun e => e.taps.map Prod.fst
    (foot.filterMap s.graphNow.feedOp).map fun f => (outPlace f.1 0, ⟨4, 4, (c.setAt n).delayEn⟩)

/-- Links through a Dike channel: lookahead and output delay (Table 02-6). -/
def dikeLinks (s : State) (n : Int) (i : Nat) (o : Op) (port : Nat) : List (Nat × Reach) :=
  let d := (AMap.find s.cfg.dike (o.dikeFirst + port)).elim 0 fun c => c.delayTarget (n + 1)
  [linkBy (outPlace i port) (o.dikeLa + d)]

/-- Links from an input port (R566). -/
def inputLinks (s : State) (n : Int) (i port : Nat) : List (Nat × Reach) :=
  match s.graphNow.op i with
  | none => []
  | some o =>
    if o.kind = 0x10 then [link (sourcePlace (o.firstSource + port))]
    else if o.kind = 0x18 then objectLinks s n o
    else if o.kind = 0x28 then dikeLinks s n i o port
    else if o.kind = 0x12 then [link (outPlace i port)]
    else if isDynamics o.kind then (if port < o.nout then [linkBy (outPlace i port) (reedDelay o).1] else [])
    else
      let d := if o.kind = 0x20 then (planDelay o.convPlan, planDelay o.convPlan) else reedDelay o
      (List.range o.nout).map fun j => (outPlace i j, ⟨d.1, d.2, false⟩)

/-- Links from an output port: its delay-0 edges. -/
def outputLinks (s : State) (i port : Nat) : List (Nat × Reach) :=
  ((s.graphNow.edgesFrom i).filter fun e => decide (e.sport = port) && e.direct).map fun e => link (inPlace e.dst e.dport)

/-- Links from a sink to its output port. -/
def sinkLinks (s : State) (x : Nat) : List (Nat × Reach) :=
  match s.graphNow.sink x with | some k => [link (outPlace k.1 k.2.1)] | none => []

/-- Links from a place. -/
def linksFrom (s : State) (n : Int) (x : Nat) : List (Nat × Reach) :=
  if 0x2000000 ≤ x then inputLinks s n ((x - 0x2000000) / 256) (x % 256)
  else if 0x1000000 ≤ x then outputLinks s ((x - 0x1000000) / 256) (x % 256)
  else if 0x20000 ≤ x then sourceLinks s n (x - 0x20000)
  else sinkLinks s (x - 0x10000)

/-- One round: every place reached passes on to its neighbours. -/
def reachRound (links : Nat → List (Nat × Reach)) (m : AMap Reach) : AMap Reach :=
  m.foldl (fun (m : AMap Reach) x => (links x.1).foldl (fun (m : AMap Reach) l =>
    let v := x.2.add l.2
    AMap.put m l.1 (match AMap.find m l.1 with | some w => w.join v | none => v)) m) m

/-- All places reached from one. -/
def reachFrom (links : Nat → List (Nat × Reach)) : Nat → AMap Reach → AMap Reach
  | 0, m => m
  | k + 1, m => let m1 := reachRound links m; if m1 = m then m else reachFrom links k m1

/-- Rounds that reach everything in an acyclic graph. -/
def State.reachFuel (s : State) : Nat := 4 * s.graphNow.ops.length + 2 * s.graphNow.busNums.length + 4

/-- Receive contribution of a source: L or P of the port whose delay-0 edge feeds its input port (R71, Table 02-6). -/
def receivePart (s : State) (x : Nat) : Nat :=
  match s.graphNow.source x with
  | some a => match (if a.bus.isSome then none else s.graphNow.into a.op a.port) with
    | some e =>
      if e.direct then match s.graphNow.op e.src with
        | some o => if o.kind = 0x02 then (AMap.find s.net.rx o.stream).elim 0 (·.l) else if o.kind = 0x03 then s.zen.p else 0
        | none => 0
      else 0
    | none => 0
  | none => 0

/-- Transmit contribution of an input port of a transmitter (R72). -/
def transmitPart (s : State) (i : Nat) : Option Nat :=
  match s.graphNow.op i with
  | some o => if o.kind = 0x08 then some (2 * s.q + 3) else if o.kind = 0x0B then some (2 * s.q + 2) else if isTransmitter o.kind then some 0 else none
  | none => none

/-- Links after the named sink: on to the transmitters, never back into the Sluice or an object (DESIGN CHOICE, log entry 64). -/
def afterLinks (s : State) (n : Int) (x : Nat) : List (Nat × Reach) :=
  (linksFrom s n x).filter fun l => decide (0x1000000 ≤ l.1) &&
    (if 0x2000000 ≤ l.1 then (s.graphNow.op ((l.1 - 0x2000000) / 256)).all fun o => decide (o.kind ≠ 0x10) && decide (o.kind ≠ 0x18) else true)

/-- Everything that a sink leads to. -/
def afterSink (s : State) (n : Int) (x : Nat) : AMap Reach :=
  reachFrom (afterLinks s n) s.reachFuel [(sinkPlace x, ⟨0, 0, false⟩)]

/-- The transmitters among the places reached: the delays on the way and the transmit constant. -/
def transmitEnds (s : State) (ys : AMap Reach) : List (Reach × Nat) :=
  ys.filterMap fun y => if 0x2000000 ≤ y.1 then (transmitPart s ((y.1 - 0x2000000) / 256)).map fun t => (y.2, t) else none

/-- Where the places reached end; the transmit constant counts as 0. -/
def looseEnds (s : State) (n : Int) (ys : AMap Reach) : List (Reach × Nat) :=
  (ys.filter fun y => (afterLinks s n y.1).isEmpty).map fun y => (y.2, 0)

/-- Reply words of PATH_LATENCY (Table 02-7). A sink that leads to no transmitter is UNBOUND; of equally long maximum paths the one to the
first transmitter gives w8 and w9 (DESIGN CHOICE, log entry 64). -/
def pathWords (s : State) (src sink : Nat) : List Word :=
  let n := s.index
  let m := reachFrom (linksFrom s n) s.reachFuel [(sourcePlace src, ⟨0, 0, false⟩)]
  let after := afterSink s n sink
  let unbound := (transmitEnds s after).isEmpty
  match (if (s.graphNow.source src).isSome && (s.graphNow.sink sink).isSome then AMap.find m (sinkPlace sink) else none) with
  | none => [0, 0, w32 (1 + flagBit unbound 2), 0, 0, 0]
  | some w =>
    let rx := receivePart s src
    let ends := if unbound then looseEnds s n after else transmitEnds s after
    let least := (ends.map fun x => x.1.lo + x.2).foldl (fun (b : Option Nat) v => some (b.elim v (min v))) none
    let best := ends.foldl (fun (b : Option (Reach × Nat)) x => match b with
      | none => some x | some y => if y.1.hi + y.2 < x.1.hi + x.2 then some x else some y) none
    let tx := best.elim 0 (·.2)
    let mid := w.hi + best.elim 0 (·.1.hi)
    [w32 (rx + w.lo + least.getD 0), w32 (rx + mid + tx), w32 (flagBit w.vary 1 + flagBit unbound 2), w32 rx, w32 mid, w32 tx]

/-- PATH_LATENCY (R74, R75, R566). -/
def pathLatencySpec : CmdSpec where
  op := 0x106
  layout := fun p _ => firstDeny [lenIs p 6, denyIf (reservedSet (p.w 4) (mask 12 0) || reservedSet (p.w 5) (mask 12 0)) fieldDeny]
  act := fun p s _ _ => { s := s, words := pathWords (s.futureAt s.index) (fld (p.w 4) 12 0) (fld (p.w 5) 12 0) }

end Sys2Proof.Machine
end

