-- ==== Sys2Proof/Machine/SerpentCommands.lean ====
section
/-! DEFINITION. The render commands: layout, mesh, objects, trajectories, parameters and OBJECT_QUERY (R76 to R95, R117 to R121). -/
namespace Sys2Proof.Machine

/-! ### Layout and mesh (R77 to R82) -/

/-- A position as three words. -/
def vecAt (p : Packet) (i : Nat) : Vec := ⟨coord (p.w i), coord (p.w (i + 1)), coord (p.w (i + 2))⟩

/-- The first packet of the chain that a packet belongs to. -/
def chainFirst (op : Nat) (p : Packet) (s : State) : Packet := (chainOf op p s).headD p

/-- LAYOUT_LOAD. A packet whose loudspeakers run past N_L is refused as it comes, with detail 0x0016 (DESIGN CHOICE, log entry 65). -/
def layoutLoadSpec : CmdSpec where
  op := 0x201
  timing := .quantum
  pair := true
  continued := true
  layout := fun p s =>
    let k := fld (p.w 5) 25 16
    firstDeny [denyIf (decide (p.len ≠ 6 + 4 * k)) lengthDeny,
      denyIf (reservedSet (p.w 4) (mask 10 0) || reservedSet (p.w 5) (mask 9 0 + mask 25 16) || decide (fld (p.w 4) 10 0 = 0) ||
        decide (1024 < fld (p.w 4) 10 0) || decide (k = 0) || decide (250 < k) || decide (fld (p.w 4) 10 0 < fld (p.w 5) 9 0 + k) ||
        (speakersOf p).any fun x => !x.2.pos.ok) fieldDeny,
      denyIf (decide (fld ((chainFirst 0x201 p s).w 4) 10 0 ≠ fld (p.w 4) 10 0)) (badParam 0x0F02)]
  own := fun p s _ =>
    match layoutOf (chainOf 0x201 p s) with
    | none => some (badParam 0xFFFF)
    | some ls => (layoutClash ls).map badParam
  act := fun p s i _ => enqueueAct 0x201 true p s i

/-- The words that every packet of a mesh chain repeats: N_T and C (R82). -/
def meshHead (p : Packet) : Nat × Vec := (fld (p.w 4) 11 0, vecAt p 5)

/-- A mesh that breaks R78 or R79 with a layout: the first such triangle. -/
def meshRefused (c : SerpentCfg) (m : Vec × List Tri) : Option Nat :=
  let d := c.withMesh m.1 m.2
  match meshBad d m.2, meshClose d m.2 with
  | some a, some b => some (min a b)
  | some a, none => some a
  | none, b => b

/-- MESH_LOAD. A packet whose triangles run past N_T is refused as it comes, with detail 0x0016 (DESIGN CHOICE, log entry 65). -/
def meshLoadSpec : CmdSpec where
  op := 0x202
  timing := .quantum
  pair := true
  continued := true
  layout := fun p s =>
    let k := fld (p.w 8) 25 16
    firstDeny [denyIf (decide (p.len ≠ 9 + k)) lengthDeny,
      denyIf (reservedSet (p.w 4) (mask 11 0) || reservedSet (p.w 8) (mask 10 0 + mask 25 16) || decide (fld (p.w 4) 11 0 = 0) ||
        decide (2048 < fld (p.w 4) 11 0) || decide (k = 0) || decide (1000 < k) || decide (fld (p.w 4) 11 0 < fld (p.w 8) 10 0 + k) ||
        !(vecAt p 5).ok || (p.params.drop 5).any fun w => reservedSet w (mask 29 0)) fieldDeny,
      denyIf (decide (meshHead (chainFirst 0x202 p s) ≠ meshHead p)) (badParam 0x0F02)]
  own := fun p s i =>
    match meshOf (chainOf 0x202 p s) with
    | none => some (badParam 0xFFFF)
    | some m => (meshRefused (s.futureAt (s.boundaryFrom i)).cfg.serpent m).map badParam
  act := fun p s i _ => enqueueAct 0x202 true p s i

/-! ### Objects (R86, R87, R121) -/

/-- The live object that a packet names (R121). -/
def State.objNamed (s : State) (p : Packet) : Option (Nat × ObjCfg) := s.cfg.serpent.liveAt s.q p.handle s.index

/-- BAD_HANDLE when a packet names no live object (R121). -/
def objDeny (p : Packet) (s : State) : Option Deny := denyIf (s.objNamed p).isNone handleDeny

/-- The object that OBJECT_CREATE makes. -/
def newObject (p : Packet) (s : State) (i : Int) (h : Word) : ObjCfg :=
  { handle := h, created := s.boundaryFrom i, base := vecAt p 5, set := { speed := s.cfg.serpent.speed } }

/-- OBJECT_CREATE. A release is refused only while its handle names no live object; one due after the object is gone is dropped (R60,
R87, R121). Whether a number exists is judged at the boundary of the creation (DESIGN CHOICE, log entry 65). -/
def objectCreateSpec : CmdSpec where
  op := 0x203
  timing := .quantum
  pair := true
  handle := fun p s =>
    if bitOf (p.w 4) 31 then denyIf ((s.objNamed p).all fun x => decide (x.1 ≠ fld (p.w 4) 8 0)) handleDeny else noHandle p
  layout := fun p _ => firstDeny [lenIs p 8,
    denyIf (reservedSet (p.w 4) (mask 8 0 + mask 31 31) || (!bitOf (p.w 4) 31 && !(vecAt p 5).ok)) fieldDeny]
  own := fun p s i =>
    let b := s.boundaryFrom i
    let c := (s.futureAt b).cfg.serpent
    if bitOf (p.w 4) 31 then none
    else denyIf (AMap.has s.cfg.serpent.coming (fld (p.w 4) 8 0) || c.objAt s.q (fld (p.w 4) 8 0) b) busyDeny
  act := fun p s i forced =>
    let d := enqueueAct 0x203 true p s i
    if bitOf (p.w 4) 31 then { d with words := [0] }
    else
      let h := chosenHandle forced s
      let t := d.s.gaveHandle h
      let c := { t.cfg.serpent with coming := AMap.put t.cfg.serpent.coming (fld (p.w 4) 8 0) (newObject p s i h) }
      { s := { t with cfg := { t.cfg with serpent := c } }, words := [h] }

/-! ### Trajectories (R88 to R95) -/

/-- Segment j of TRAJ_APPEND (Table 03-3). -/
def segmentOf (p : Packet) (j : Nat) : Segment :=
  let b := 5 + 16 * j
  { t0 := s64 (p.w b) (p.w (b + 1)), len := fld (p.w (b + 2)) 24 0, p0 := vecAt p (b + 3), p1 := vecAt p (b + 6), m0 := vecAt p (b + 9),
    m1 := vecAt p (b + 12) }

/-- A tangent component inside R89. -/
def tangentOk (x : Int) : Bool := decide (-1073741824 ≤ x) && decide (x ≤ 1073741823)

/-- Segment j breaks R89. -/
def segmentBad (p : Packet) (j : Nat) : Bool :=
  let b := 5 + 16 * j
  let g := segmentOf p j
  reservedSet (p.w (b + 2)) (mask 24 0) || decide (p.w (b + 15) ≠ 0) || decide (g.len < 1) || decide (16777216 < g.len) || !g.p0.ok || !g.p1.ok ||
  ([g.m0.x, g.m0.y, g.m0.z, g.m1.x, g.m1.y, g.m1.z].any fun x => !tangentOk x)

/-- Segment count of TRAJ_APPEND. -/
def segmentCount (p : Packet) : Nat := fld (p.w 4) 4 0

/-- Segments queued of the object that a packet names, once it has been entered. -/
def entered (p : Packet) (s : State) (e : Int) : Except Deny (List Queued × Nat) :=
  match s.objNamed p with
  | none => .error handleDeny
  | some x => enterAll e ((List.range (segmentCount p)).map (segmentOf p)) 0 (x.2.queue, 0)

/-- TRAJ_APPEND. -/
def trajAppendSpec : CmdSpec where
  op := 0x204
  pair := true
  handle := objDeny
  layout := fun p _ => firstDeny [denyIf (decide (p.len < 5) || decide (p.len ≠ 5 + 16 * segmentCount p)) lengthDeny,
    denyIf (reservedSet (p.w 4) (mask 4 0) || decide (segmentCount p < 1) || decide (16 < segmentCount p)) fieldDeny,
    ((List.range (segmentCount p)).find? (segmentBad p)).map badParam]
  own := fun p s i => match entered p s i with | .error d => some d | .ok _ => none
  act := fun p s i _ =>
    match s.objNamed p, entered p s i with
    | some x, .ok r =>
      let late := ((List.range 16).filter fun j => r.2.testBit j).length
      let s1 := s.putObj x.1 { x.2 with queue := r.1 }
      let s2 := if late = 0 then s1 else (s1.count 0x17 (x.1 * 8 + 4) late).logAt evSegLate i [late]
      { s := s2, words := [w32 r.1.length, w32 r.2] }
    | _, _ => { s := s }

/-- Position words. -/
def Vec.words (v : Vec) : List Word := [lo32 v.x, lo32 v.y, lo32 v.z]

/-- TRAJ_FLUSH (R95). -/
def trajFlushSpec : CmdSpec where
  op := 0x205
  pair := true
  handle := objDeny
  layout := fun p _ => lenIs p 4
  act := fun p s i _ =>
    match s.objNamed p with
    | none => { s := s }
    | some x => { s := s.putObj x.1 (x.2.flush i), words := (x.2.posAt i).1.words }

/-! ### Parameters (R117 to R119) -/

/-- The indices from n on at which the sum of R117 can change: changes due, the boundaries after them to which R97 may defer one, settings
that wait, ends of releases. -/
def State.tapIndices (s : State) (n : Int) : List Int :=
  let objs := AMap.vals s.cfg.serpent.objs ++ AMap.vals s.cfg.serpent.coming
  let due := s.changes.map s.effIndex
  let gone : List Int := (due ++ objs.filterMap (·.release)).map fun (r : Int) => r + (s.q : Int)
  let sets : List Int := objs.flatMap fun (o : ObjCfg) => o.created :: o.changes.map Prod.fst
  (n :: ((due ++ due.map (fun j => s.boundaryFrom (j + 1)) ++ gone ++ sets).filter fun j => decide (n < j))).eraseDups

/-- Object taps of the graph in force at an index (R84, R117). -/
def State.tapsAt (s : State) (n : Int) : Nat :=
  let t := s.futureAt n
  nsum ((t.graphNow.ofKind 0x18).map fun x => t.fmaxAt n x.2.objNo)

/-- Object taps over the capacity at some index from n on (R117). -/
def State.tapsOver (s : State) (n : Int) : Option Deny :=
  denyIf ((s.tapIndices n).any fun j => decide (capacity 2 s.highRate s.q < s.tapsAt j)) ⟨.noResource, 2⟩

/-- R117 for OBJECT_PARAMS accepted for index n. -/
def tapsDeny (p : Packet) (s : State) (i : Int) : Option Deny :=
  let n := match s.objNamed p with | some x => max i x.2.created | none => i
  (s.withCommand 0x206 i p).tapsOver n

/-- OBJECT_PARAMS. -/
def objectParamsSpec : CmdSpec where
  op := 0x206
  timing := .sample
  pair := true
  handle := objDeny
  layout := fun p _ => firstDeny [lenIs p 9,
    denyIf (reservedSet (p.w 6) (mask 5 0 + mask 10 8) || decide (0x00B40000 < (p.w 5).toNat) || decide (fld (p.w 6) 5 0 < 1) ||
      decide (32 < fld (p.w 6) 5 0) || decide ((p.w 7).toNat < 64) || decide (268435456 < (p.w 7).toNat) || decide (268435456 < (p.w 8).toNat)) fieldDeny]
  own := tapsDeny
  act := fun p s i _ => enqueueAct 0x206 false p s i

/-- ZONE_MASK. -/
def zoneMaskSpec : CmdSpec where
  op := 0x207
  timing := .sample
  pair := true
  handle := objDeny
  layout := fun p _ => lenIs p 5
  act := fun p s i _ => enqueueAct 0x207 false p s i

/-- SOUND_SPEED. -/
def soundSpeedSpec : CmdSpec where
  op := 0x208
  timing := .sample
  pair := true
  layout := fun p _ => firstDeny [lenIs p 5, denyIf (decide ((p.w 4).toNat < 0x00FA0000) || decide (0x01C20000 < (p.w 4).toNat)) fieldDeny]
  act := fun p s i _ => enqueueAct 0x208 false p s i

/-! ### OBJECT_QUERY (R120) -/

/-- Words of an evaluation (Table 03-6). -/
def Evaluation.words (e : Evaluation) : List Word :=
  e.pos.words ++
  [w32 (e.queued % 32 + flagBit e.offMesh 8 + flagBit e.range 9 + flagBit e.slew 10 + flagBit e.empty 11 + flagBit e.holding 12),
   w32 e.taps.length, lo32 e.index, hi32 e.index] ++ e.taps.flatMap fun t => [w32 t.1, lo32 t.2.g, lo32 t.2.tau]

/-- The current state of an object that has had no evaluation since it was created. -/
def ObjCfg.words (o : ObjCfg) (n : Int) : List Word :=
  let x := o.posAt n
  let k := (o.queue.filter fun q => decide (n ≤ q.end_)).length
  x.1.words ++ [w32 (k + flagBit x.2.1 12), 0, lo32 o.created, hi32 o.created]

/-- OBJECT_QUERY. -/
def objectQuerySpec : CmdSpec where
  op := 0x209
  handle := objDeny
  layout := fun p _ => lenIs p 4
  act := fun p s _ _ =>
    match s.objNamed p with
    | none => { s := s }
    | some x => { s := s, words := match (s.objMem x.1 x.2).last with | some e => e.words | none => x.2.words s.index }

end Sys2Proof.Machine
end

