-- ==== Sys2Proof/Machine/SluiceCommands.lean ====
section
/-! DEFINITION. Routing and mixing commands: routes, crosspoints, buses, gains and fade defaults (R133, R134, R143 to R148, R152 to
R156). -/
namespace Sys2Proof.Machine

/-- ROUTE_SET. -/
def routeSetSpec : CmdSpec where
  op := 0x301
  timing := .sample
  pair := true
  layout := fun p _ => firstDeny [lenIs p 8,
    denyIf (reservedSet (p.w 4) (mask 12 0) || reservedSet (p.w 5) (mask 12 0) || fadeWordBad (p.w 7)) fieldDeny]
  own := fun p s i => routeDeny (s.graphAt i) (fld (p.w 5) 12 0) (fld (p.w 4) 12 0)
  act := fun p s i _ => enqueueAct 0x301 false p s i

/-- ROUTE_CLEAR. -/
def routeClearSpec : CmdSpec where
  op := 0x302
  timing := .sample
  pair := true
  layout := fun p _ => firstDeny [lenIs p 7,
    denyIf (reservedSet (p.w 4) (mask 12 0) || reservedSet (p.w 5) (mask 13 0) || decide (fld (p.w 5) 13 0 < 1) ||
      decide (8192 < fld (p.w 5) 13 0) || fadeWordBad (p.w 6)) fieldDeny,
    denyIf (decide (8192 < fld (p.w 4) 12 0 + fld (p.w 5) 13 0)) (badParam 0xFFFE)]
  own := fun p s i => clearDeny (s.graphAt i) (fld (p.w 4) 12 0) (fld (p.w 5) 13 0)
  act := fun p s i _ => enqueueAct 0x302 false p s i

/-! ### Crosspoints (R143, R156) -/

/-- Target and place words that break Table 04-3 or Table 04-4. -/
def targetBad (p : Packet) : Bool :=
  let k := fld (p.w 4) 31 30
  if k = 0 then reservedSet (p.w 4) (mask 12 0) || reservedSet (p.w 5) (mask 10 0)
  else if k = 1 then reservedSet (p.w 4) (mask 31 30 + mask 13 0) || reservedSet (p.w 5) (mask 13 8 + mask 5 0)
  else true

/-- Active crosspoints of a MIX_BUS operation at an index: those of its buses that exist there. -/
def Sluice.activeOn (l : Sluice) (q : Nat) (o : Op) (n : Int) : Nat :=
  (l.xpts.filter fun x => decide (o.firstBus ≤ x.1 % 2048) && decide (x.1 % 2048 < o.firstBus + o.busCount) && x.2.active n && l.busAt q (x.1 % 2048) n).length

/-- The MIX_BUS operations that a command's crosspoints belong to, by op id. -/
def busOpsOf (g : Graph) (ts : List (XTarget × Int)) : List Nat :=
  (ts.filterMap fun t => match t.1 with | .xp _ b => (g.bus b).map Prod.fst | .cell _ _ _ => none).eraseDups

/-- The reservation of some operation is exceeded at an index. -/
def overReserved (t : State) (ids : List Nat) (n : Int) : Bool :=
  ids.any fun i => (t.graphNow.op i).any fun o => decide (o.kind = 0x11) && decide (o.reservation < t.cfg.sluice.activeOn t.q o n)

/-- The reservation of some operation of a list is exceeded from index n on (R143). -/
def State.reservationOver (s : State) (ids : List Nat) (n : Int) : Option Deny :=
  denyIf ((s.futures n).any fun x => overReserved x.2 ids x.1) ⟨.noResource, 7⟩

/-- R143 for a command accepted for index n. -/
def reservationDeny (op : Nat) (p : Packet) (s : State) (n : Int) : Option Deny :=
  (s.withCommand op n p).reservationOver (busOpsOf (s.graphAt n) (xTargets op p)) n

/-- The checks of XPOINT_SET and XPOINT_BLOCK at their index. -/
def xpointDeny (op : Nat) (p : Packet) (s : State) (n : Int) : Option Deny :=
  firstDeny (((xTargets op p).map fun t => t.1.deny (s.futureAt n) n) ++ [reservationDeny op p s n])

/-- XPOINT_SET. -/
def xpointSetSpec : CmdSpec where
  op := 0x303
  timing := .sample
  pair := true
  layout := fun p _ => firstDeny [lenIs p 8, denyIf (targetBad p || rampWordBad (p.w 7)) fieldDeny]
  own := xpointDeny 0x303
  act := fun p s i _ => enqueueAct 0x303 false p s i

/-- XPOINT_BLOCK. -/
def xpointBlockSpec : CmdSpec where
  op := 0x304
  timing := .sample
  pair := true
  layout := fun p _ => firstDeny [denyIf (decide (p.len < 8) || decide (p.len ≠ 8 + fld (p.w 6) 8 0)) lengthDeny,
    denyIf (targetBad p || reservedSet (p.w 6) (mask 8 0) || decide (fld (p.w 6) 8 0 < 1) || decide (256 < fld (p.w 6) 8 0) ||
      rampWordBad (p.w 7)) fieldDeny]
  own := xpointDeny 0x304
  act := fun p s i _ => enqueueAct 0x304 false p s i

/-! ### Buses, gains and defaults -/

/-- BUS_CREATE at the boundary of its index (R144, R145). -/
def busDeny (p : Packet) (s : State) (i : Int) : Option Deny :=
  let b := s.boundaryFrom i
  let n := fld (p.w 4) 10 0
  let l := (s.futureAt b).cfg.sluice
  if ((s.graphAt b).bus n).isNone then some (badParam 0x17)
  else if bitOf (p.w 4) 31 then denyIf (!l.busAt s.q n b || (AMap.find l.buses n).any fun u => u.release.isSome) (badParam 0x13)
  else denyIf (l.busAt s.q n b) busyDeny

/-- BUS_CREATE. -/
def busCreateSpec : CmdSpec where
  op := 0x305
  timing := .quantum
  pair := true
  layout := fun p _ => firstDeny [lenIs p 6,
    denyIf (reservedSet (p.w 4) (mask 10 0 + mask 31 31) || reservedSet (p.w 5) (mask 3 0) || (!bitOf (p.w 4) 31 && decide (8 < fld (p.w 5) 3 0))) fieldDeny]
  own := busDeny
  act := fun p s i _ => enqueueAct 0x305 true p s i

/-- GAIN_SET. -/
def gainSetSpec : CmdSpec where
  op := 0x306
  timing := .sample
  pair := true
  layout := fun p _ => firstDeny [lenIs p 8,
    denyIf (reservedSet (p.w 4) (mask 13 0) || reservedSet (p.w 5) (mask 6 0 + mask 23 16) || decide (fld (p.w 5) 23 16 < 1) ||
      decide (128 < fld (p.w 5) 23 16) || rampWordBad (p.w 7)) fieldDeny]
  own := fun p s i => gainDeny (s.graphAt i) (fld (p.w 4) 13 0) (fld (p.w 5) 6 0) (fld (p.w 5) 23 16)
  act := fun p s i _ => enqueueAct 0x306 false p s i

/-- FADE_PARAMS (R152, R154). -/
def fadeParamsSpec : CmdSpec where
  op := 0x307
  timing := .sample
  pair := true
  layout := fun p _ => firstDeny [lenIs p 6, denyIf (fadeWordBad (p.w 4) || rampWordBad (p.w 5)) fieldDeny]
  act := fun p s i _ => enqueueAct 0x307 false p s i

end Sys2Proof.Machine
end

