-- ==== Sys2Proof/Machine/CveCommands.lean ====
section
/-! DEFINITION. Room-correction commands: staging slots, filter swaps and CONV_QUERY (R169 to R181, R187), and SAFE_SET_COMMIT, whose
filter swaps start with its acceptance (R65 to R70). -/
namespace Sys2Proof.Machine

/-! ### Staging slots (R169 to R173) -/

/-- The staging slot with a handle, with its number. -/
def State.slotOf (s : State) (h : Word) : Option (Nat × Slot) := s.audio.slotsConv.find? fun x => decide (x.2.handle = h)

/-- Put a slot. -/
def State.putSlot (s : State) (i : Nat) (x : Slot) : State := { s with audio := { s.audio with slotsConv := AMap.put s.audio.slotsConv i x } }

/-- Free a slot. -/
def State.freeSlotConv (s : State) (i : Nat) : State := { s with audio := { s.audio with slotsConv := AMap.del s.audio.slotsConv i } }

/-- BAD_HANDLE unless the packet names an allocated slot (R187). -/
def slotDeny (p : Packet) (s : State) : Option Deny := denyIf (s.slotOf p.handle).isNone handleDeny

/-- The CONVOLVE operation with an id in a graph. -/
def Graph.convOp (g : Graph) (i : Nat) : Option Op := (g.op i).filter fun o => decide (o.kind = 0x20)

/-- FILTER_LOAD_BEGIN (R170). -/
def filterLoadBeginSpec : CmdSpec where
  op := 0x401
  pair := true
  state := fun _ s => denyIf (!s.dramOn) stateDeny
  layout := fun p _ => firstDeny [lenIs p 6,
    denyIf (reservedSet (p.w 4) (mask 13 0) || reservedSet (p.w 5) (mask 14 0) || decide (fld (p.w 5) 14 0 = 0)) fieldDeny]
  own := fun p s _ =>
    match (s.graphAt s.index).convOp (fld (p.w 4) 13 0) with
    | none => some (badParam 0x14)
    | some o => firstDeny [denyIf (decide (o.convRes < fld (p.w 5) 14 0)) fieldDeny, denyIf (decide (64 ≤ s.audio.slotsConv.length)) busyDeny]
  act := fun p s _ forced =>
    let h := chosenHandle forced s
    let i := ((List.range 64).find? fun n => !AMap.has s.audio.slotsConv n).getD 64
    { s := (s.gaveHandle h).putSlot i { handle := h, op := fld (p.w 4) 13 0, count := fld (p.w 5) 14 0 }, words := [h] }

/-- FILTER_LOAD_DATA (R171). -/
def filterLoadDataSpec : CmdSpec where
  op := 0x402
  pair := true
  handle := slotDeny
  layout := fun p _ =>
    let k := fld (p.w 4) 25 16
    firstDeny [denyIf (decide (p.len ≠ 5 + k)) lengthDeny,
      denyIf (reservedSet (p.w 4) (mask 13 0 + mask 25 16) || decide (k < 1) || decide (1019 < k)) fieldDeny]
  own := fun p s _ =>
    match s.slotOf p.handle with
    | none => some handleDeny
    | some x => firstDeny [denyIf (decide (x.2.phase ≠ .loading)) stateDeny,
        denyIf (decide (x.2.count < fld (p.w 4) 13 0 + fld (p.w 4) 25 16)) fieldDeny]
  act := fun p s _ _ =>
    match s.slotOf p.handle with
    | none => { s := s }
    | some x =>
      let taps := (p.params.drop 1).zipIdx.foldl (fun m w => AMap.put m (fld (p.w 4) 13 0 + w.2) w.1.toInt) x.2.taps
      { s := s.putSlot x.1 { x.2 with taps := taps } }

/-- What FILTER_LOAD_END refuses of a slot in LOADING (R172, R173). -/
def tapsRefused (x : Slot) (crc : Word) : Option Deny :=
  firstDeny [denyIf (decide (x.taps.length ≠ x.count)) (badParam 0xFFFF),
    denyIf (decide (crc32Words (x.taps.vals.map lo32) ≠ crc.toNat)) (badParam 0xFFFD),
    denyIf (decide (2 ^ 39 < nsum (x.taps.vals.map Int.natAbs))) (badParam 0xFFFC)]

/-- The filter of a slot, compiled for its operation (R164, R165). -/
def State.slotFilter (s : State) (x : Slot) : Filter :=
  match (s.graphAt s.index).convOp x.op with
  | some o => compileFilter o.convPlan o.convRes x.taps.vals
  | none => compileFilter 0 x.count x.taps.vals

/-- FILTER_LOAD_END (R169, R172, R173). -/
def filterLoadEndSpec : CmdSpec where
  op := 0x403
  pair := true
  handle := slotDeny
  layout := fun p _ => firstDeny [lenIs p 6, denyIf (reservedSet (p.w 5) 1) fieldDeny]
  own := fun p s _ =>
    match s.slotOf p.handle with
    | none => some handleDeny
    | some x =>
      if bitOf (p.w 5) 0 then denyIf (decide (x.2.phase = .swapping)) stateDeny
      else firstDeny [denyIf (decide (x.2.phase ≠ .loading)) stateDeny, tapsRefused x.2 (p.w 4)]
  act := fun p s _ _ =>
    match s.slotOf p.handle with
    | none => { s := s }
    | some x =>
      if bitOf (p.w 5) 0 then { s := s.freeSlotConv x.1 }
      else
        let f := s.slotFilter x.2
        { s := s.putSlot x.1 { x.2 with filter := some f, phase := .prepared }, words := [w32 ((lo32 f.report.1).toNat % 256 + f.report.2 % 65536 * 256)] }
  onDeny := fun p d s =>
    if d = badParam 0xFFFC then (match s.slotOf p.handle with | some x => s.freeSlotConv x.1 | none => s) else s

/-! ### Swaps (R174 to R181) -/

/-- The FILTER_SWAP members of the open sets. -/
def State.swapMembers (s : State) : List Packet :=
  (AMap.vals s.chans).flatMap fun c => (c.set.elim [] (·.members)).filterMap fun m => if m.1 = 0x404 then some m.2 else none

/-- The swap that FILTER_SWAP starts at index n. -/
def swapOf (p : Packet) (s : State) (n : Int) : Swap :=
  { slot := if p.handle = 0 then none else some p.handle, filter := (s.slotOf p.handle).bind fun x => x.2.filter, ch := p.ch, tag := p.tag.toNat,
    index := n, len := fld (p.w 5) 13 0, curve := if fld (p.w 5) 17 16 = 1 then .linear else .power }

/-- The slot of a swap is SWAPPING. -/
def State.slotSwapping (s : State) (h : Word) : State :=
  match s.slotOf h with | some x => s.putSlot x.1 { x.2 with phase := .swapping } | none => s

/-- A swap is accepted for index n: the incoming filter runs along from now on (R175). -/
def State.enterSwap (s : State) (p : Packet) (n : Int) : State :=
  let i := fld (p.w 4) 13 0
  let c := s.cfg.convOf i
  let w := some (swapOf p s n)
  let c := if c.swap.isSome then { c with after := w } else { c with swap := w }
  { s.slotSwapping p.handle with cfg := { s.cfg with conv := AMap.put s.cfg.conv i c } }

/-- The polders of the convolution area that the current graph's channels lie in. -/
def State.convArea (s : State) : List Nat := s.graphNow.convPolders s.highRate

/-- R179: in READY the filter is in force at once; the copy of its spectra accesses the convolution area (R28). -/
def State.installFilter (s : State) (p : Packet) : State :=
  let i := fld (p.w 4) 13 0
  let c := { s.cfg.convOf i with swap := some { swapOf p s s.index with len := 0 } }
  { s.slotSwapping p.handle with cfg := { s.cfg with conv := AMap.put s.cfg.conv i c.settle } }.touchPolders s.convArea

/-- The slot that a packet names is not PREPARED for the operation, or another swap has it (R178). -/
def swapSlotBad (p : Packet) (s : State) : Bool :=
  decide (p.handle ≠ 0) &&
  ((s.slotOf p.handle).all fun x => decide (x.2.phase ≠ .prepared) || decide (x.2.op ≠ fld (p.w 4) 13 0)) ||
  (decide (p.handle ≠ 0) && s.swapMembers.any fun m => decide (m.handle = p.handle))

/-- An operation carries a swap at index n: from acceptance to the end of its crossfade (R178). -/
def ConvCfg.swapping (c : ConvCfg) (n : Int) : Bool := (c.swap.any fun w => decide (n < w.index + w.len)) || c.after.isSome

/-- Refusals of FILTER_SWAP at index n (R147, R178, R181). -/
def swapDeny (p : Packet) (s : State) (n : Int) : Option Deny :=
  let i := fld (p.w 4) 13 0
  firstDeny [denyIf ((s.graphNow.convOp i).isNone || ((s.graphAt n).convOp i).isNone) (badParam 0x14),
    denyIf (swapSlotBad p s) stateDeny,
    denyIf ((s.cfg.convOf i).swapping s.index || s.swapMembers.any fun m => decide (fld (m.w 4) 13 0 = i)) busyDeny]

/-- FILTER_SWAP. -/
def filterSwapSpec : CmdSpec where
  op := 0x404
  timing := .sample
  pair := true
  lead := 2048
  state := fun p s => denyIf (decide (s.run = .ready) && decide (p.apply ≠ 0)) stateDeny
  handle := fun p s => if p.handle = 0 then none else slotDeny p s
  layout := fun p _ => firstDeny [lenIs p 6,
    denyIf (reservedSet (p.w 4) (mask 13 0) || reservedSet (p.w 5) (mask 13 0 + mask 17 16) || decide (8192 < fld (p.w 5) 13 0) ||
      decide (fld (p.w 5) 17 16 = 0) || decide (fld (p.w 5) 17 16 = 3)) fieldDeny]
  own := swapDeny
  act := fun p s i _ =>
    if s.run = .ready then { s := s.installFilter p, time := some s.index }
    else { enqueueAct 0x404 false p s i with s := (enqueueAct 0x404 false p s i).s.enterSwap p i }

/-- FILTER_SWAP_COPY_DONE: the oldest copy of an operation's ended swaps is complete and its slot is FREE (R177); it waits while a polder
of the convolution area is not ON (R492). -/
def filterSwapCopyDone (i : Nat) (s : State) : State :=
  let c := s.cfg.convOf i
  match c.copying with
  | [] => s
  | h :: rest =>
    if s.poldersOn s.convArea then
      let s1 := match s.slotOf h with | some x => s.freeSlotConv x.1 | none => s
      { s1 with cfg := { s1.cfg with conv := AMap.put s1.cfg.conv i { c with copying := rest } } }
    else s

/-! ### CONV_QUERY (Table 05-5) -/

/-- Swap state of an operation at an index. -/
def ConvCfg.swapState (c : ConvCfg) (n : Int) : Nat :=
  match c.after, c.swap with
  | some _, _ => 1
  | none, some w => if n < w.index then 1 else if n < w.index + w.len then 2 else if w.slot.isSome || !c.copying.isEmpty then 3 else 0
  | none, none => if c.copying.isEmpty then 0 else 3

/-- The index of the current or last swap. -/
def ConvCfg.swapIndex (c : ConvCfg) : Int := match c.after, c.swap with | some w, _ => w.index | none, some w => w.index | none, none => c.lastSwap

/-- CONV_QUERY. -/
def convQuerySpec : CmdSpec where
  op := 0x405
  layout := fun p _ => firstDeny [lenIs p 5, denyIf (reservedSet (p.w 4) (mask 13 0)) fieldDeny]
  own := fun p s _ => denyIf ((s.graphAt s.index).convOp (fld (p.w 4) 13 0)).isNone (badParam 0x14)
  act := fun p s _ _ =>
    match (s.graphAt s.index).convOp (fld (p.w 4) 13 0) with
    | none => { s := s }
    | some o =>
      let c := s.cfg.convOf (fld (p.w 4) 13 0)
      { s := s,
        words := [w32 (o.convChan + o.convPlan * 2 ^ 16), w32 o.convRes, w32 (convCovered o.convPlan o.convRes),
                  w32 ((c.fold s.index).filter.elim 0 fun f => f.taps.length),
                  w32 (c.swapState s.index + (64 - s.audio.slotsConv.length) * 4), lo32 c.swapIndex, hi32 c.swapIndex, w32 (s.counter 0x05 o.convChan),
                  w32 (s.counter 0x06 o.convChan)] }

/-! ### SAFE_SET_COMMIT (R68 to R70) -/

/-- Members of the set open on a packet's channel. -/
def setMembers (p : Packet) (s : State) : List (Nat × Packet) := (s.chan p.ch).set.elim [] (·.members)

/-- R143 and R117 for a set's members together, at the index of the set and later. -/
def setResources (ms : List (Nat × Packet)) (s : State) (i : Int) : Option Deny :=
  let xs := ms.filter fun m => decide (m.1 = 0x303) || decide (m.1 = 0x304)
  let t := s.withSet i ms
  firstDeny [if xs.isEmpty then none else t.reservationOver (busOpsOf (s.graphAt i) (xs.flatMap fun m => xTargets m.1 m.2)) i,
    if ms.any fun m => decide (m.1 = 0x206) then t.tapsOver i else none]

/-- A failed set is refused with the number of its refused members; a FILTER_SWAP member needs E_F (R68, R174). Its members were judged for
E as they came; a set that exceeds a reservation or the object taps at its own index is refused as a member would be (DESIGN CHOICE, log
entry 66). -/
def setDeny (p : Packet) (s : State) (i : Int) : Option Deny :=
  let refused := (s.chan p.ch).set.elim 0 (·.refused)
  firstDeny [denyIf (decide (0 < refused)) (badParam refused),
    denyIf (((setMembers p s).any fun m => decide (m.1 = 0x404)) && decide (i < s.earliestFor true + 2048)) lateDeny,
    setResources (setMembers p s) s i]

/-- The swaps of a committed set start to run along (R175). -/
def State.enterSwaps (s : State) (n : Int) (ms : List (Nat × Packet)) : State :=
  (ms.filter fun m => decide (m.1 = 0x404)).foldl (fun (s : State) m => if (swapDeny m.2 s n).isSome then s else s.enterSwap m.2 n) s

/-- SAFE_SET_COMMIT: its members wait as one change for the selected index. -/
def safeSetCommitSpec : CmdSpec where
  op := 0x111
  timing := .sample
  pair := true
  state := fun p s => denyIf (decide ((s.chan p.ch).set = none)) stateDeny
  layout := fun p _ => lenIs p 4
  own := setDeny
  act := fun p s i _ =>
    let ms := setMembers p s
    let c : Change := { index := i, quantum := ms.isEmpty, order := 0, timed := decide (p.apply ≠ 0), op := 0x111, packets := [p], members := ms }
    { s := ((s.updChan p.ch fun c => { c with set := none }).enqueue c).enterSwaps i ms }
  onDeny := fun p d s =>
    if d.status = .badParam && decide (d.detail = ((s.chan p.ch).set.elim 0 (·.refused))) && decide (0 < d.detail) then
      s.updChan p.ch fun c => { c with set := none }
    else s

end Sys2Proof.Machine
end

