-- ==== Sys2Proof/Machine/DikeCommands.lean ====
section
/-! DEFINITION. Output-stage commands (R198 to R202, R207, R208) and METER_SUBSCRIBE (R462). -/
namespace Sys2Proof.Machine

/-- A range word with a reserved bit set or a count out of range (R207). -/
def rangeBad (w : Word) : Bool := reservedSet w (mask 10 0 + mask 27 16) || decide (rangeCount w < 1) || decide (2048 < rangeCount w)

/-- The checks of an output-stage command against what its index will find (R208). -/
def dikeOwn (op : Nat) (p : Packet) (s : State) (i : Int) : Option Deny := dikeDeny (s.futureAt i) op p

/-- DIKE_CONFIG. -/
def dikeConfigSpec : CmdSpec where
  op := 0x501
  timing := .sample
  pair := true
  layout := fun p _ => firstDeny [lenIs p 10,
    denyIf (rangeBad (p.w 4) || decide ((p.w 6).toNat < 0x04000000) || decide (0x3FFFFFFF < (p.w 6).toNat) || reservedSet (p.w 7) (mask 16 0) ||
      decide (fld (p.w 7) 15 0 < 10) || decide (50000 < fld (p.w 7) 15 0) || reservedSet (p.w 8) (mask 12 0) || decide (4096 < fld (p.w 8) 12 0) ||
      rampWordBad (p.w 9)) fieldDeny]
  own := dikeOwn 0x501
  act := fun p s i _ => enqueueAct 0x501 false p s i

/-- OUTPUT_MUTE. -/
def outputMuteSpec : CmdSpec where
  op := 0x502
  timing := .sample
  pair := true
  layout := fun p _ => firstDeny [lenIs p 7,
    denyIf (rangeBad (p.w 4) || reservedSet (p.w 5) 1 || reservedSet (p.w 6) (mask 12 0) ||
      (decide (4096 < fld (p.w 6) 12 0) && decide (fld (p.w 6) 12 0 ≠ 0x1FFF))) fieldDeny]
  own := dikeOwn 0x502
  act := fun p s i _ => enqueueAct 0x502 false p s i

/-- DITHER_CONFIG. -/
def ditherConfigSpec : CmdSpec where
  op := 0x503
  timing := .sample
  pair := true
  layout := fun p _ => firstDeny [lenIs p 7, denyIf (rangeBad (p.w 4) || reservedSet (p.w 5) 3) fieldDeny]
  own := dikeOwn 0x503
  act := fun p s i _ => enqueueAct 0x503 false p s i

/-- Longest output delay at a rate (R198). -/
def delayLimit (high : Bool) : Nat := if high then 192000 else 96000

/-- OUTPUT_DELAY. -/
def outputDelaySpec : CmdSpec where
  op := 0x504
  timing := .sample
  pair := true
  layout := fun p s => firstDeny [lenIs p 7,
    denyIf (rangeBad (p.w 4) || reservedSet (p.w 5) (mask 17 0) || decide (delayLimit s.highRate < fld (p.w 5) 17 0) || fadeWordBad (p.w 6)) fieldDeny]
  own := dikeOwn 0x504
  act := fun p s i _ => enqueueAct 0x504 false p s i

/-! ### METER_SUBSCRIBE (R462) -/

/-- Record words per second of a subscription. -/
def State.recordRate (s : State) (m : MeterSub) : Rat :=
  let fs : Rat := (s.fs : Rat)
  let d : Rat := (m.decim : Rat)
  let q : Rat := (s.q : Rat)
  if m.source = 0 then 4 * (rangeCount m.range : Rat) * fs / ((s.meterPeriod : Rat) * q * d)
  else match s.graphNow.op (fld m.range 13 0) with
    | none => 0
    | some o =>
      if o.kind = 0x43 then 2 * fs / ((fld (o.w 6) 16 0 : Rat) * d)
      else if o.kind = 0x44 then
        let b : Rat := ((2 ^ fld (o.w 6) 3 0 : Nat) : Rat)
        (1 + 2 * b) * fs / (b * d)
      else (o.nin : Rat) * fs / (((2 ^ fld (o.w 6) 3 0 : Nat) : Rat) * q * d)

/-- The subscription that a packet asks for. -/
def subOf (p : Packet) : MeterSub := { ch := p.ch, tag := p.tag, source := fld (p.w 4) 13 12, range := p.w 5, decim := fld (p.w 6) 15 0 }

/-- A subscription's source is not there. -/
def subSourceDeny (p : Packet) (s : State) : Option Deny :=
  if fld (p.w 4) 13 12 = 0 then
    denyIf ((span (rangeFirst (p.w 5)) (rangeCount (p.w 5))).any fun c => (s.graphNow.dikeOp c).isNone) (badParam 0x18)
  else denyIf ((s.graphNow.op (fld (p.w 5) 13 0)).all fun o => !isMeter o.kind) (badParam 0x14)

/-- METER_SUBSCRIBE. -/
def meterSubscribeSpec : CmdSpec where
  op := 0xC01
  layout := fun p _ => firstDeny [lenIs p 7,
    denyIf (reservedSet (p.w 4) (mask 5 0 + mask 8 8 + mask 13 12) || decide (1 < fld (p.w 4) 13 12)) fieldDeny,
    denyIf (!bitOf (p.w 4) 8 && ((if fld (p.w 4) 13 12 = 0 then rangeBad (p.w 5) else reservedSet (p.w 5) (mask 13 0)) ||
      reservedSet (p.w 6) (mask 15 0) || decide (fld (p.w 6) 15 0 = 0))) fieldDeny]
  own := fun p s _ =>
    if bitOf (p.w 4) 8 then none
    else firstDeny [denyIf (AMap.has s.subs (fld (p.w 4) 5 0)) busyDeny, subSourceDeny p s,
      denyIf (decide ((4194304 : Rat) < ((AMap.vals s.subs ++ [subOf p]).map s.recordRate).foldl (· + ·) 0)) ⟨.noResource, 0x50⟩]
  act := fun p s _ _ =>
    if bitOf (p.w 4) 8 then { s := { s with subs := AMap.del s.subs (fld (p.w 4) 5 0) } }
    else { s := { s with subs := AMap.put s.subs (fld (p.w 4) 5 0) (subOf p) } }

end Sys2Proof.Machine
end

