-- ==== Sys2Proof/Machine/Twin.lean ====
section
/-! DEFINITION. Twin redundancy: states, the lease, claims, handovers and the fence, and the twin commands (R371 to R385, R402). -/
namespace Sys2Proof.Machine

/-- Change the Twin Unit. -/
def State.updTwin (s : State) (f : Twin → Twin) : State := { s with twin := f s.twin }

/-! ### What the host has set (Table 13-12) -/

/-- The device is SECONDARY (R375). -/
def State.secondary (s : State) : Bool := bitOf (s.reg rTwnCfg) 1
def State.autojoin (s : State) : Bool := bitOf (s.reg rTwnCfg) 2
def State.coldTo (s : State) : Bool := bitOf (s.reg rTwnCfg) 3
def State.suspClaim (s : State) : Bool := bitOf (s.reg rTwnCfg) 4
def State.takeback (s : State) : Bool := bitOf (s.reg rTwnCfg) 5
def State.brownHand (s : State) : Bool := bitOf (s.reg rTwnCfg) 6

/-- The hold-off in ticks: 0 acts as 1 s, above 3,600 as 3,600 s. -/
def State.holdoff (s : State) : Nat := ticksOfMs (1000 * min 3600 (max 1 (s.regFld rTwnHoldoff 11 0)))

/-- The Twin Link is up (PSTATE of Table 13-13). -/
def Twin.linkUp (t : Twin) : Bool := decide (t.pstate = 2)

/-- Joins that have passed their commit (R399). -/
def Twin.joined (t : Twin) : Bool := decide (t.phase = .catchup) || decide (t.phase = .heal) || decide (t.phase = .verify)

/-- The device runs quanta on mirrored values (R390). -/
def Twin.mirrors (t : Twin) : Bool :=
  t.enabled && (decide (t.state = .inStep) || decide (t.state = .suspect) || (decide (t.state = .joining) && t.joined))

/-- A device that does not hold the lease and is not DETACHED. -/
def Twin.standby (t : Twin) : Bool := t.enabled && decide (t.state ≠ .active) && decide (t.state ≠ .detached)

/-- The partner has been heard within 1.1 ms (TWN_STATUS.PARTNER). -/
def State.partnerNear (s : State) : Bool :=
  (s.twin.frameAt.any fun t => decide (s.now < t + ticksOfUs 1100)) || (s.twin.pulseAt.any fun t => decide (s.now < t + ticksOfUs 1100))

/-- Code of a join phase (Table 13-8). -/
def JoinPhase.code : JoinPhase → Nat
  | .none => 0 | .copy => 2 | .catchup => 3 | .heal => 4 | .verify => 5

/-- Heal samples that remain (TWN_HEAL). -/
def State.healRemain (s : State) : Nat :=
  if decide (s.twin.phase = .catchup) || decide (s.twin.phase = .heal) then min (2 ^ 24 - 1) (s.twin.healTo - s.index).toNat else 0

/-- TWN_STATUS (Table 13-12). -/
def State.twnStatus (s : State) : Nat :=
  s.twin.state.code + flagBit (decide (s.twin.state = .active)) 3 + flagBit (s.fencedAt s.index) 4 + flagBit s.partnerNear 5 +
  flagBit s.twin.plost 6 + flagBit s.twin.local_ 7 + flagBit s.twin.unver 8 + flagBit s.twin.hold 9 + flagBit s.twin.alarm 10 +
  s.twin.phase.code * 2 ^ 11 + min 3 s.twin.run * 2 ^ 14

/-! ### Boundaries -/

/-- The first multiple of Q whose media period begins at least ns nanoseconds after now (R382, R383). -/
def State.boundaryAfter (s : State) (ns : Nat) : Int :=
  s.boundaryFrom (cdivI ((s.time + (ns : Int) * nsUnit - s.tu.origin * nsUnit) * s.fs) (10 ^ 9 * nsUnit))

/-- The first multiple of Q whose readiness lies at least ns nanoseconds ahead (Table 13-8, LOG). -/
def State.boundaryReady (s : State) (ns : Nat) : Int :=
  let x := (s.time - s.tu.origin * nsUnit + (ns : Int) * nsUnit) * s.fs
  cdivI (x - (s.q + 1) * (10 ^ 9 * nsUnit)) (s.q * (10 ^ 9 * nsUnit)) * s.q

/-! ### The trim of the clocks (R374) -/

/-- The master SAP groups whose media clock the device trims to its partner's: a fenced device's, twin-enabled, that are in use (R374). -/
def State.trimmed (s : State) : List Nat :=
  (List.range 12).filter fun g => s.twin.enabled && s.fencedAt s.index && (s.sapGroup g).master && decide ((s.sapGroup g).state ≠ .off)

/-- The largest residual of a trimmed clock in the last second, in units of 0.125 ns: a free value within the ±1.0 ns that the trim keeps to
(R374). -/
def State.residual (s : State) (g : Nat) : Int := ((Config.twinPhase g s.now).toNat % 17 : Nat) - 8

/-- The largest residual of all trimmed clocks; 0 while none is trimmed (R374). -/
def State.largestResidual (s : State) : Int :=
  s.trimmed.foldl (fun (x : Int) g => if x.natAbs < (s.residual g).natAbs then s.residual g else x) 0

/-! ### State changes and the fence (R372, R376) -/

/-- What a change of the twin state leaves: TWN_EVT, and TWIN_STATE with the old and the new (R376, R403). -/
def State.twinChanged (s : State) (old n : TwinState) : State :=
  let s1 := s.setEvt rTwnEvt 0
  let s2 := if n = .active then s1.setEvt rTwnEvt 1 else if old = .active then s1.setEvt rTwnEvt 2 else s1
  let s3 := if n = .suspect then s2.setEvt rTwnEvt 3 else s2
  s3.logNow evTwinState [old.code, n.code]

/-- The device takes a twin state (R376). -/
def State.twinTo (s : State) (n : TwinState) : State :=
  if s.twin.state = n then s else (s.updTwin fun t => { t with state := n }).twinChanged s.twin.state n

/-- The change of state that a WARM reset made is logged once the event log runs again, after RESET (R376; that it waits for the log is the
model's reading, DEDUCED, log entry 35). -/
def State.twinWarmed (s : State) : State :=
  match s.twin.left with
  | some old => (s.updTwin fun t => { t with left := none }).twinChanged old .fenced
  | none => s

/-- The fence state becomes f at the start of period n (R372). -/
def State.setFence (s : State) (f : Bool) (n : Int) : State :=
  s.updTwin fun t => if s.fencedAt s.index = f then { t with fenced := f, fenceFrom := none } else { t with fenced := !f, fenceFrom := some n }

/-- A change of the fence state at once: at the next start of a period. -/
def State.fenceNow (s : State) (f : Bool) : State := s.setFence f s.nextFrame

/-- A join ends without success (R400). -/
def State.joinFails (s : State) : State :=
  if s.twin.phase = .none then s
  else
    let ph := s.twin.phase.code
    let again := if s.autojoin then some (s.now + ticksOfMs 1000) else none
    ((s.updTwin fun t => { t with phase := .none, blocks := [], blockSize := 0, joinLog := [], retryAt := again }).setEvt rTwnEvt 5).logNow
      evTwinJoinFail [ph]

/-- The device gives up the lease, or fences for good: no handover, claim or join goes on. -/
def State.dropLease (s : State) : State :=
  (s.fenceNow true).updTwin fun t => { t with hand := none, offered := none, claimAt := none, rampFrom := none, capture := none, plost := false, renewAt := s.now, silent := false }

/-- The device becomes FENCED with HOLD (Table 13-3). -/
def State.fenceHeld (s : State) : State := ((s.joinFails.dropLease).updTwin fun t => { t with hold := true }).twinTo .fenced

/-! ### The lease (R377 to R381) -/

/-- A Twin Link or pulse message out of order or stale is counted (Table 13-9). -/
def State.twlStale (s : State) : State := (s.bump rTwlSeqerr).setEvt rTwlEvt 2

/-- A pulse on LEASE_OUT: a renewal or an acknowledgement (Table 13-4). -/
def State.leasePulse (s : State) (renew : Bool) : State := s.updTwin fun t => { t with pulseOut := some (s.now, renew) }

/-- LEASE_RENEWAL_TIMER: the holder renews on both paths (R377). -/
def leaseRenewalTimer (s : State) : State :=
  if s.twin.enabled && decide (s.twin.state = .active) && decide (s.twin.sentAt + ticksOfUs 250 ≤ s.now) then
    (s.leasePulse true).updTwin fun t => { t with outRenew := true, sentAt := s.now }
  else s

/-- An acknowledgement counts for the renewal sent last (R377). -/
def State.ackReceived (s : State) : State :=
  if s.twin.state = .active then s.updTwin fun t => { t with ackedAt := t.sentAt, plost := false } else s

/-- The partner wins the tie of two holders (R381). -/
def State.partnerWins (s : State) : Bool :=
  (!s.twin.partnerSecondary && s.secondary) ||
  (decide (s.twin.partnerSecondary = s.secondary) && decide (s.twin.partnerSerial < Config.serial.toNat))

/-- A renewal with an epoch: acknowledged on both paths, and the loser of two holders fences at once (R377, R380, R381). -/
def State.renewed (s : State) (epoch : Nat) : State :=
  if !s.twin.enabled || decide (s.twin.state = .detached) then s
  else if epoch < s.twin.epoch then s.twlStale
  else
    let loses := decide (s.twin.state = .active) && (decide (s.twin.epoch < epoch) || s.partnerWins)
    let s1 := if loses then s.dropLease.twinTo .fenced else s
    (s1.leasePulse false).updTwin fun t =>
      { t with outAck := true, renewAt := s.now, silent := false, claimAt := none,
               epoch := if t.state = .active then t.epoch else epoch, seen := max t.seen epoch }

/-- LEASE_PULSE_RECEIVED with a width in ns (Table 13-4). A renewal pulse carries no epoch: it has the one heard last. -/
def leasePulseReceived (width : Nat) (s : State) : State :=
  if !s.twin.enabled then s
  else
    let s1 := s.updTwin fun t => { t with pulseAt := some s.now, heard := true }
    if decide (1500 ≤ width) && decide (width ≤ 3000) then
      (if decide (s.twin.state = .active) && decide (s.twin.partnerEpoch < s.twin.epoch) then s1
       else s1.renewed (max s.twin.partnerEpoch s.twin.epoch))
    else if decide (500 ≤ width) && decide (width < 1500) then s1.ackReceived
    else s.twlStale

/-- LEASE_SELF_FENCE_TIMEOUT: 900 µs without an acknowledged renewal (R379). -/
def leaseSelfFenceTimeout (s : State) : State :=
  if s.twin.enabled && decide (s.twin.state = .active) && decide (s.twin.ackedAt + ticksOfUs 900 ≤ s.now) then
    if s.twin.aliveIn then (s.dropLease.twinTo .fenced).logNow evTwinSelfFence
    else if s.twin.plost then s
    else (s.updTwin fun t => { t with plost := true }).logNow evTwinPartnerLost
  else s

/-- ALIVE_IN_STOPPED: no edge for 50 µs (Table 13-4). -/
def aliveInStopped (s : State) : State :=
  if s.twin.aliveAt.all fun t => decide (t + ticksOfUs 50 ≤ s.now) then s.updTwin fun t => { t with aliveIn := false } else s

/-- ALIVE_IN_EDGE. -/
def aliveInEdge (s : State) : State := s.updTwin fun t => { t with aliveIn := true, aliveAt := some s.now }

/-- The control processor runs: neither off nor loading (Table 13-4). -/
def State.ccaRuns (s : State) : Bool := decide (s.run ≠ .off) && decide (s.run ≠ .loading)

/-- ALIVE_OUT_TOGGLE: every 10 µs while the device is twin-enabled and CCA runs. -/
def aliveOutToggle (s : State) : State :=
  if s.twin.enabled && s.ccaRuns && decide (s.twin.aliveSent + ticksOfUs 10 ≤ s.now) then
    s.updTwin fun t => { t with aliveOut := !t.aliveOut, aliveSent := s.now }
  else s

/-! ### Claims (R378, R380, R382) -/

/-- The device holds the lease from now on with a new epoch; its first renewal is due 250 µs later. -/
def State.takeLease (s : State) (epoch : Nat) : State :=
  (s.updTwin fun t =>
    { t with epoch := epoch, seen := max t.seen epoch, sentAt := s.now, ackedAt := s.now, claimAt := none, offered := none, hand := none,
             silent := false, run := 0, phase := .none, joinLog := [], retryAt := none, stepSince := none, local_ := false,
             relayOut := t.relayOut.filter fun e => decide (e.kind ≠ 3) }).twinTo .active

/-- A claim: unfenced from h; a claim that is not in step ramps, and a cold one is stale (R382). PLOST follows ALIVE_IN (Table 13-14). -/
def State.claims (s : State) (inStep cold : Bool) : State :=
  let h := s.boundaryAfter 10000
  let s1 := ((s.takeLease (s.twin.seen + 1)).setFence false h).updTwin fun t =>
    { t with outClaim := true, rampFrom := if inStep then none else some h, plost := !t.aliveIn }
  let s2 := (s1.bump rTwnClaimcnt).logAt evTwinClaim h []
  let s3 := if cold then s2.logAt evTakeoverStale h [] else s2
  if s.twin.aliveIn then s3 else s3.logNow evTwinPartnerLost

/-- Silence without permission to claim (R378). -/
def State.alarmed (s : State) : State := ((s.updTwin fun t => { t with alarm := true }).setEvt rTwnEvt 6).logNow evTwinAlarm

/-- LEASE_SILENCE: 1.1 ms without renewals; what the device may claim it claims while the silence lasts, and an alarm is raised once in it
(R378, Table 13-3). -/
def leaseSilence (s0 : State) : State :=
  if s0.twin.standby && decide (s0.twin.renewAt + ticksOfUs 1100 ≤ s0.now) then
    let s := (s0.updTwin fun t => { t with silent := true }).joinFails
    let alarm := if s0.twin.silent then s else s.alarmed
    match s.twin.state with
    | .inStep => if s.twin.hold then s else s.claims true false
    | .suspect => if s.suspClaim && !s.twin.hold then s.claims false true else alarm
    | .joining => if s.coldTo && !s.twin.hold then s.claims false true else alarm
    | .fenced =>
      if s.twin.hold then s
      else if !s.twin.heard then
        (if s.secondary then s.updTwin fun t => { t with claimAt := some (t.claimAt.getD (s.now + ticksOfMs 20)) } else s.claims false false)
      else if s.coldTo then s.claims false true else s
    | _ => s
  else s0

/-- TWIN_ROLE_DELAY_EXPIRY: an initial claim after its role delay (R378). -/
def twinRoleDelayExpiry (s : State) : State :=
  if decide (s.twin.state = .fenced) && !s.twin.heard && !s.twin.hold && s.twin.claimAt.any fun t => decide (t ≤ s.now) then s.claims false false else s

/-! ### Handovers (R383, R385) -/

/-- A handover can start: the device holds the lease, the partner is IN_STEP and the Twin Link is up (R402). -/
def State.handoverPossible (s : State) : Bool :=
  s.twin.enabled && decide (s.twin.state = .active) && decide (s.twin.partner = .inStep) && s.twin.linkUp && s.twin.hand.isNone

/-- The boundary of a handover requested now. -/
def State.handoverAt (s : State) (urgent : Bool) : Int := s.boundaryAfter (if urgent then 50000 else 500000)

/-- The holder sends HANDOVER with h (R383, step 1). -/
def State.startHandover (s : State) (urgent : Bool) (fence : Option Bool) : State :=
  s.updTwin fun t => { t with hand := some { h := s.handoverAt urgent, urgent := urgent, fence := fence }, outHand := some (s.handoverAt urgent, urgent) }

/-- HANDOVER_RECEIVED with h, the next epoch and URGENT: a partner in step answers HACK (R383, step 2; Table 13-9). -/
def handoverReceived (h : Word) (epoch : Nat) (_ : Bool) (s : State) : State :=
  let b := nearestIndex h s.index
  if !s.twin.standby then s
  else if decide (b ≤ s.index) || decide (epoch ≤ s.twin.epoch) then s.twlStale
  else if s.twin.state = .inStep then s.updTwin fun t => { t with offered := some (b, epoch, false), outHack := some b }
  else s

/-- The latest time at which HACK may come: 100 µs before period h, 30 µs when urgent. -/
def State.hackLimit (s : State) (x : Handover) : Int := s.startOf x.h - (if x.urgent then 30000 else 100000) * nsUnit

/-- HACK_RECEIVED: timely, the holder sends COMMIT and fences from h (R383, step 3). -/
def hackReceived (h : Word) (s : State) : State :=
  match s.twin.hand with
  | none => s.twlStale
  | some x =>
    if decide (lo32 x.h ≠ h) || x.committed then s.twlStale
    else if s.hackLimit x < s.time then s
    else (s.setFence true x.h).updTwin fun t => { t with hand := some { x with committed := true }, outCommit := some x.h }

/-- COMMIT_RECEIVED by period h: the partner becomes unfenced from h (R383, step 4). -/
def commitReceived (h : Word) (s : State) : State :=
  match s.twin.offered with
  | some (b, e, false) =>
    if decide (lo32 b = h) && decide (s.time ≤ s.startOf b) && decide (s.twin.state = .inStep) then
      (s.setFence false b).updTwin fun t => { t with offered := some (b, e, true) }
    else s.twlStale
  | _ => s.twlStale

/-- CANCEL_RECEIVED: the handover answered is abandoned (R383). -/
def cancelReceived (h : Word) (s : State) : State :=
  match s.twin.offered with
  | some (b, _, false) => if lo32 b = h then s.updTwin fun t => { t with offered := none } else s.twlStale
  | _ => s.twlStale

/-- HACK_DEADLINE: the holder cancels, keeps the lease and starts the hold-off again (R383, step 5; R385). A fence with FORCE is
carried out at once. -/
def hackDeadline (s : State) : State :=
  match s.twin.hand with
  | none => s
  | some x =>
    if x.committed || decide (s.time ≤ s.hackLimit x) then s
    else
      let s1 := s.updTwin fun t => { t with hand := none, outCancel := some x.h, stepSince := t.stepSince.map fun _ => s.now }
      let s2 := (s1.setEvt rTwnEvt 7).logAt evHandoverFail x.h []
      if x.fence = some true then s2.fenceHeld else s2

/-- The holder's part of a handover at h: IN_STEP, or FENCED with HOLD when it was to be fenced. -/
def State.handedOver (s : State) (x : Handover) : State :=
  let s1 := s.updTwin fun t =>
    { t with hand := none, renewAt := s.now, silent := false, seen := t.seen + 1, run := 0, stepSince := none, capture := none,
             hold := t.hold || x.fence.isSome, plost := false }
  ((s1.twinTo (if x.fence.isSome then .fenced else .inStep)).bump rTwnHandcnt).logAt evTwinHandover x.h []

/-- TWIN_FENCE_SWITCH: at the start of period h the fence state changes, and a handover is complete (R372, R383). -/
def twinFenceSwitch (s : State) : State :=
  match s.twin.fenceFrom with
  | none => s
  | some h =>
    if s.index < h then s
    else
      let s1 := s.updTwin fun t => { t with fenced := !t.fenced, fenceFrom := none }
      match s.twin.hand, s.twin.offered with
      | some x, _ => if x.committed then s1.handedOver x else s1
      | none, some (b, e, true) => ((s1.takeLease e).bump rTwnHandcnt).logAt evTwinHandover b []
      | none, _ => s1

/-- TAKEBACK_HOLDOFF_EXPIRY: a SECONDARY holder starts a handover to its PRIMARY partner (R385). -/
def takebackHoldoffExpiry (s : State) : State :=
  if s.takeback && s.secondary && !s.twin.partnerSecondary && s.handoverPossible && s.twin.stepSince.any fun t => decide (t + s.holdoff ≤ s.now) then
    s.startHandover false none
  else s

/-- With BROWNHAND, a brownout warning at the holder starts an urgent handover (R385). -/
def State.brownoutHandover (s : State) : State := if s.brownHand && s.handoverPossible then s.startHandover true none else s

/-- The device is fenced with HOLD on request: a holder first hands over; none when it cannot and is not forced (R402). -/
def State.fenceSelf (s : State) (force : Bool) : Option State :=
  if decide (s.twin.state = .detached) then none
  else if s.twin.state = .active then
    (if s.handoverPossible then some (s.startHandover true (some force)) else if force then some s.fenceHeld else none)
  else some s.fenceHeld

/-- FENCEREQ_RECEIVED (R402). -/
def fencereqReceived (force : Bool) (s : State) : State := (s.fenceSelf force).getD s

/-- DETACH_RECEIVED: the partner sets HOLD (R402). -/
def detachReceived (s : State) : State := if s.twin.standby then s.updTwin fun t => { t with hold := true } else s

/-! ### TWIN_CONFIG (R371, R387, R402) -/

/-- Pair addresses of MAC0 to MAC3: the MAC address and the IPv4 address. -/
def pairAddrsOf (p : Packet) : List (Nat × Nat) :=
  (span 6 4).map fun i => ((p.w 10).toNat + 2 ^ 32 * fld (p.w 11) 15 0, (p.w i).toNat)

/-- More mirror channels than a frame carries, in the graph in force or one accepted for later (R387). -/
def State.mirrorTooMany (s : State) : Bool :=
  (s.graphNow :: s.pendingGraphs).any fun g => decide ((if s.highRate then 4096 else 8192) < g.mirrorChans)

/-- TWIN_CONFIG takes effect. -/
def twinConfigured (p : Packet) (s : State) : State :=
  let on := bitOf (p.w 4) 0
  let kept := fld (p.w 4) 8 2 * 2
  let s1 := (s.setReg rTwnCfg (w32 kept)).setReg rTwnHoldoff (w32 (fld (p.w 5) 11 0))
  let s2 := s1.updTwin fun t => { t with pairAddrs := pairAddrsOf p, enabled := on }
  if on then
    (if s.twin.state = .detached then
      ((s2.fenceNow true).updTwin fun t =>
        { t with heard := false, partner := .detached, renewAt := s.now, silent := false, claimAt := none, stepSince := none,
                 pstate := if t.lock then t.pstate else max 1 t.pstate }).twinTo .fenced
     else s2)
  else
    let s3 := (s2.joinFails.fenceNow false).updTwin fun t =>
      { t with outDetach := decide (s.twin.state = .active), hand := none, offered := none, claimAt := none, capture := none, plost := false,
               rampFrom := none, relayOut := [], unrelayed := false, pstate := 0 }
    ((List.range 15).foldl (fun (s : State) n => s.resetChannel (16 + n)) s3).twinTo .detached

/-- TWIN_CONFIG. -/
def twinConfigSpec : CmdSpec where
  op := 0xA01
  state := fun p s => denyIf (if bitOf (p.w 4) 0 then !s.dramOn else decide (s.twin.state ≠ .active) && !bitOf (p.w 4) 1) stateDeny
  layout := fun p _ => firstDeny [lenIs p 12,
    denyIf (reservedSet (p.w 4) (mask 8 0) || reservedSet (p.w 5) (mask 11 0) || reservedSet (p.w 11) (mask 15 0) ||
      decide (fld (p.w 5) 11 0 < 1) || decide (3600 < fld (p.w 5) 11 0)) fieldDeny]
  own := fun p s _ => firstDeny [denyIf (bitOf (p.w 4) 0 && s.mirrorTooMany) ⟨.noResource, 0x40⟩,
    denyIf (bitOf (p.w 4) 0 && decide (s.dramMiB < 1648)) ⟨.noResource, 0x42⟩]
  act := fun p s _ _ => { s := twinConfigured p s }

/-! ### TWIN_HANDOVER, TWIN_STATUS, TWIN_FENCE (R402) -/

/-- TWIN_HANDOVER: the reply is OK_QUEUED with h (R383, R397). -/
def twinHandoverSpec : CmdSpec where
  op := 0xA03
  state := fun _ s => denyIf (decide (s.twin.state ≠ .active)) stateDeny
  layout := fun p _ => firstDeny [lenIs p 5, denyIf (reservedSet (p.w 4) (mask 0 0)) fieldDeny]
  own := fun _ s _ => firstDeny [denyIf (s.twin.linkUp && decide (s.twin.partner = .suspect)) ⟨.signatureMismatch, 0⟩,
    denyIf (decide (s.twin.partner ≠ .inStep) || !s.twin.linkUp) stateDeny, denyIf s.twin.hand.isSome busyDeny]
  act := fun p s _ _ => { s := s.startHandover (bitOf (p.w 4) 0) none, time := some (s.handoverAt (bitOf (p.w 4) 0)), queued := true }

/-- TWIN_STATUS (Table 13-11). -/
def twinStatusSpec : CmdSpec where
  op := 0xA04
  layout := fun p _ => lenIs p 4
  act := fun _ s _ _ =>
    { s := s, words := [w32 (s.twnStatus % 2 ^ 16 + s.twin.partner.code * 2 ^ 16), w32 s.twin.epoch, w32 s.healRemain, w32 s.twin.snapKib,
                        lo32 s.twin.compared, lo32 (satBits 32 s.twin.skew)] }

/-- TWIN_FENCE. -/
def twinFenceSpec : CmdSpec where
  op := 0xA05
  layout := fun p _ => firstDeny [lenIs p 5, denyIf (reservedSet (p.w 4) (mask 2 0)) fieldDeny]
  own := fun p s _ =>
    if bitOf (p.w 4) 1 then none
    else if bitOf (p.w 4) 0 then denyIf (!s.twin.linkUp) ⟨.partnerFault, 0⟩
    else denyIf (s.fenceSelf (bitOf (p.w 4) 2)).isNone stateDeny
  act := fun p s _ _ =>
    if bitOf (p.w 4) 1 then { s := s.updTwin fun t => { t with hold := false } }
    else if bitOf (p.w 4) 0 then { s := s.updTwin fun t => { t with outFence := some (bitOf (p.w 4) 2) } }
    else { s := (s.fenceSelf (bitOf (p.w 4) 2)).getD s }

end Sys2Proof.Machine
end

