-- ==== Sys2Proof/Machine/TwinLink.lean ====
section
/-! DEFINITION. The Twin Link: mirroring, the relay stream, signatures, joins, and frames (R386 to R400, R422). -/
namespace Sys2Proof.Machine

/-! ### Mirroring (R387 to R390) -/

/-- Ring keys of the mirror channels, in ascending op id and then port. -/
def Graph.mirrorKeys (g : Graph) : List Nat := (g.ops.filter fun x => isReceiver x.2.kind).flatMap fun x => x.2.ringKeys

/-- Something supplies an input ring: a SAP group that carries data or whose clock is missed, a stream with that channel, a drop mapping,
or a tap stream. A ring that nothing supplies carries zeros, none of them substituted (R283, R343, R365, Table 09-9). -/
def State.supplied (s : State) (key : Nat) : Bool :=
  let x := key % 0x10000
  match key / 0x10000 with
  | 1 => [.run, .stopped, .ratehold, .rejoin].contains (s.sapGroup (x / 128)).state
  | 2 => (AMap.find s.net.rx (x / 64)).any fun r => decide (x % 64 < r.chans)
  | 3 => AMap.has s.zen.drops x
  | _ => s.sap.taps.any fun t => decide (t.1 < 256) && decide (t.1 ≤ x) && decide (x < t.1 + t.2.count)

/-- The word of an input ring at an index, none for a substituted one; one that is supplied but not written yet is taken as substituted
(DESIGN CHOICE, log entry 71). -/
def State.ringShown (s : State) (key : Nat) (n : Int) : Option Int := if s.supplied key then s.ringAt key n else some 0

/-- The mirror samples of index n as the rings hold them (R388). -/
def State.mirrorAt (s : State) (n : Int) : List (Option Int) := s.graphNow.mirrorKeys.map fun key => s.ringShown key n

/-- What was mirrored of a channel at index n. -/
def mirrored (l : List (Int × List (Option Int))) (n : Int) (ch : Nat) : Option Int :=
  match l.find? fun x => decide (x.1 = n) with | some x => x.2.getD ch (some 0) | none => none

/-- Add a changed sample to a channel's runs, newest run first (R389). -/
def closeRun (ch : Nat) (es : List CloseEntry) (x : Nat × Option Int) : List CloseEntry :=
  let new : CloseEntry := ⟨ch, x.1, 1, x.2.isNone, x.2.getD 0⟩
  match es with
  | [] => [new]
  | e :: r => if decide (e.first + e.count = x.1) && decide (e.subst = new.subst) && decide (e.value = new.value) then { e with count := e.count + 1 } :: r else new :: es

/-- The close of the quantum whose first index is n: every sample changed since it was mirrored (R389). -/
def State.closeOf (s : State) (n : Int) : Close :=
  let entries := s.graphNow.mirrorKeys.zipIdx.flatMap fun (x : Nat × Nat) =>
    let changed := (List.range s.q).filterMap fun (j : Nat) =>
      let now := s.ringShown x.1 (n + j)
      if now = mirrored s.twin.mirrorOut (n + j) x.2 then none else some (j, now)
    (changed.foldl (closeRun x.2) []).reverse
  { index := n, overflow := decide (255 < entries.length), entries := entries.take 255 }

/-- The holder closes a quantum at its readiness time (R389). -/
def State.mirrorClose (s : State) (n : Int) : State :=
  if s.twin.enabled && decide (s.twin.state = .active) then s.updTwin fun t => { t with outClose := some (s.closeOf n) } else s

/-- The partner holds intact mirror sections for every index of a quantum, and a close without OVERFLOW (R390). -/
def Twin.mirrorWhole (t : Twin) (n : Int) (q : Nat) : Bool :=
  ((List.range q).all fun (j : Nat) => t.mirrorIn.any fun x => decide (x.1 = n + j)) &&
  t.closes.any fun c => decide (c.index = n) && !c.overflow

/-- The mirrored value of a ring key at index n of the quantum that starts at b; a substituted sample is 0 (R32, R390). -/
def Twin.mirrorValue (t : Twin) (keys : List Nat) (b : Int) (key : Nat) (n : Int) : Int :=
  let ch := keys.idxOf key
  let j := (n - b).toNat
  let entry := (t.closes.find? fun c => decide (c.index = b)).bind fun c =>
    c.entries.find? fun e => decide (e.chan = ch) && decide (e.first ≤ j) && decide (j < e.first + e.count)
  match entry with
  | some e => if e.subst then 0 else e.value
  | none => (mirrored t.mirrorIn n ch).getD 0

/-! ### The relay stream (R393, R422) -/

/-- A packet under its origin channel. -/
def RelayEntry.pack (e : RelayEntry) : List Word := ({ e.packet with ch := e.origin } : Packet).raw e.op

/-- A reply under its origin channel. -/
def RelayEntry.answer (e : RelayEntry) : List Word :=
  match e.reply with | some r => ({ r with ch := e.origin } : Reply).raw | none => []

/-- An entry as it goes into relay sections (R422). -/
def RelayEntry.words (e : RelayEntry) : List Word :=
  let body := if e.kind = 1 then [lo32 e.index, hi32 e.index] ++ e.pack ++ e.answer else if e.kind = 2 then e.answer else e.pack
  w32 (e.kind + e.origin * 2 ^ 8 + (1 + body.length) * 2 ^ 16) :: body

/-- Every status of Table 15-3. -/
def allStatus : List Status :=
  [.ok, .okDuplicate, .okQueued, .badOpcode, .badLength, .badCheck, .badHandle, .badParam, .noResource, .busy, .late, .wrongState,
   .notActive, .tagConflict, .tagStale, .overBudget, .partnerFault, .signatureMismatch, .internal]

/-- The status of a code. -/
def statusOf (code : Nat) : Status := (allStatus.find? fun x => decide (x.code = code)).getD .internal

/-- The reply that a run of words spells (Table 14-2). -/
def replyOf (ws : List Word) : Option Reply :=
  if ws.length < 4 then none
  else
    let w0 := ws.getD 0 0
    some { op := fld w0 31 20, notify := bitOf w0 17, more := bitOf w0 18, loss := bitOf w0 19,
           tag := BitVec.ofNat 16 (fld (ws.getD 1 0) 31 16), ch := fld (ws.getD 1 0) 15 8,
           status := statusOf (fld (ws.getD 2 0) 31 16), detail := fld (ws.getD 2 0) 15 0, time := ws.getD 3 0, words := ws.drop 4 }

/-- The entry that a whole run of words spells, first word included. -/
def entryOf (ws : List Word) : RelayEntry :=
  let w := ws.headD 0
  let body := ws.drop 1
  let kind := fld w 3 0
  let origin := fld w 15 8
  if kind = 2 then
    { kind := 2, origin := origin, op := fld (body.headD 0) 31 20, packet := { ch := origin }, reply := replyOf body }
  else
    let rest := if kind = 1 then body.drop 2 else body
    let n := fld (rest.headD 0) 15 0
    let p := packetOf (rest.take n) origin
    { kind := kind, origin := origin, index := if kind = 1 then s64 (body.getD 0 0) (body.getD 1 0) else 0, op := p.1, packet := p.2,
      reply := if kind = 1 then replyOf (rest.drop n) else none }

/-- The whole entries at the start of a run of words, and what is left; words that spell no entry are dropped. -/
def entriesOf : Nat → List Word → List RelayEntry × List Word
  | 0, ws => ([], ws)
  | _, [] => ([], [])
  | fuel + 1, w :: ws =>
    let n := fld w 31 16
    if n = 0 then ([], [])
    else if ws.length + 1 < n then ([], w :: ws)
    else
      let r := entriesOf fuel ((w :: ws).drop n)
      (entryOf ((w :: ws).take n) :: r.1, r.2)

/-- The relay section of the next frame: each goes out twice (R393). -/
def Twin.nextSection (t : Twin) : Option RelaySection × Twin :=
  match t.relaySec with
  | some (x, 1) => (some x, { t with relaySec := some (x, 2) })
  | _ =>
    let ws := t.relayWords ++ t.relayOut.flatMap RelayEntry.words
    if ws.isEmpty then (none, t)
    else
      let n := min 510 (if t.relayCut = 0 then ws.length else t.relayCut)
      let x : RelaySection := ⟨(t.relaySeq + 1) % 2 ^ 16, ws.take n⟩
      (some x, { t with relayOut := [], relayWords := ws.drop n, relayCut := t.relayCut - n, relaySeq := x.seq, relaySec := some (x, 1) })

/-- A relay section arrives: the entries that are whole with it. The first copy of the expected number counts, the second is
discarded, any other is counted in TWL_SEQERR (R393). -/
def State.takeSection (s : State) (x : RelaySection) : State × List RelayEntry :=
  let expected := s.twin.relayNext.getD x.seq
  if x.seq = expected then
    let r := entriesOf (s.twin.relayIn.length + x.words.length) (s.twin.relayIn ++ x.words)
    (s.updTwin fun t => { t with relayNext := some ((x.seq + 1) % 2 ^ 16), relayIn := r.2, gapAt := none }, r.1)
  else if (x.seq + 1) % 2 ^ 16 = expected then (s, [])
  else (s.twlStale.updTwin fun t => { t with gapAt := some (t.gapAt.getD s.now) }, [])

/-- The partner leaves IN_STEP for JOINING: a relayed command was late or lost (R393). -/
def State.relayLate (s : State) : State :=
  if s.twin.state = .inStep then
    (((s.updTwin fun t => { t with phase := .none, relayNext := none, relayIn := [], gapAt := none }).twinTo .joining).setEvt rTwnEvt 8).logNow evTwinRelayLate
  else s

/-- RELAY_GAP_TIMEOUT: a gap not filled within two frames (R393). -/
def relayGapTimeout (s : State) : State :=
  match s.twin.gapAt with
  | none => s
  | some g =>
    if (s.now - g) * s.fs < 2 * (ticksOfMs 1000) then s
    else (s.relayLate).updTwin fun t => { t with relayNext := none, relayIn := [], gapAt := none }

/-! ### Signatures (R395 to R397) -/

/-- Data width of the word that a sink's sample becomes; none where the sink has no signature. -/
def State.signedWidth (s : State) (o : Op) : Option Nat :=
  if o.kind = 0x08 then some (s.sapGroup (o.sapPort / 4)).dw
  else if o.kind = 0x09 then some (if (AMap.find s.net.tx o.stream).any (·.l24) then 24 else 16)
  else if o.kind = 0x0A then some 32 else none

/-- The octets that a sample adds: its transmitted word, least significant octet first. -/
def signedOctets (dw : Nat) (v : Int) : List Nat := octets (lo32 ((txValue dw v).1 * 2 ^ (32 - dw)))

/-- The signature of a quantum (R395). -/
def State.signature (s : State) (r : QRun) : Nat :=
  (r.graph.ops.filter fun x => isTransmitter x.2.kind).foldl (fun (c : Nat) x =>
    match s.signedWidth x.2 with
    | none => c
    | some dw => x.2.sendKeys.foldl (fun (c : Nat) key =>
        crc64 c ((List.range s.q).flatMap fun (j : Nat) => signedOctets dw ((s.outAt key (r.first s.q + r.shift + j)).getD 0))) c) 0

/-- A join is complete (Table 13-8). -/
def State.joinDone (s : State) : State :=
  ((((s.updTwin fun t => { t with phase := .none, run := 0, joinLog := [], retryAt := none }).twinTo .inStep).setEvt rTwnEvt 4).logNow evTwinJoinDone)

/-- The device compares signatures: a standby in step, suspect, healing or verifying; a holder whose partner is in step or suspect. -/
def State.compares (s : State) : Bool :=
  s.twin.enabled &&
  (decide (s.twin.state = .inStep) || decide (s.twin.state = .suspect) ||
   (decide (s.twin.state = .joining) && (decide (s.twin.phase = .heal) || decide (s.twin.phase = .verify))) ||
   (decide (s.twin.state = .active) && (decide (s.twin.partner = .inStep) || decide (s.twin.partner = .suspect))))

/-- A quantum's signatures agree. -/
def State.sigMatch (s : State) (excused : Bool) : State :=
  let s1 := s.updTwin fun t => { t with run := 0 }
  if decide (s1.twin.phase = .verify) && !excused then
    let s2 := s1.updTwin fun t => { t with matches_ := t.matches_ + 1 }
    if 16 ≤ s2.twin.matches_ then s2.joinDone else s2
  else s1

/-- They differ: excused, or the run goes on; the third moves an IN_STEP partner to SUSPECT; in VERIFY the join fails (R397, R400). -/
def State.sigDiffer (s : State) (excused : Bool) : State :=
  if s.twin.phase = .heal then s
  else
    let s1 := s.bump rTwnMismatch
    if excused then s1.bump rTwnExcused
    else match s.twin.state with
      | .inStep =>
        let s2 := s1.updTwin fun t => { t with run := t.run + 1 }
        if 3 ≤ s2.twin.run then (s2.twinTo .suspect).logNow evTwinSuspect else s2
      | .joining => s1.joinFails
      | .active => s1.updTwin fun t => { t with run := t.run + 1, stepSince := t.stepSince.map fun _ => s.now }
      | .suspect => s1.updTwin fun t => { t with run := t.run + 1 }
      | _ => s1

/-- Compare a quantum once both signatures are there (R396). -/
def State.compareSig (s : State) (n : Int) : State :=
  match s.twin.sigs.find? (fun x => decide (x.index = n)), s.twin.partnerSigs.find? (fun x => decide (x.index = n)) with
  | some a, some b =>
    if !s.compares || s.twin.judged.contains n then s
    else
      let s1 := s.updTwin fun t => { t with judged := (n :: t.judged).take 16, compared := n }
      if a.value = b.value then s1.sigMatch (a.excuse || b.excuse) else s1.sigDiffer (a.excuse || b.excuse)
  | _, _ => s

/-- The own signature of a quantum at its sink deadline (R395, R396). -/
def State.signQuantum (s : State) (r : QRun) (excuse : Bool) : State :=
  let n := r.first s.q + r.shift
  let x : Signature := ⟨n, s.signature r, excuse || s.twin.excused.contains n⟩
  let s1 := s.updTwin fun t => { t with sigs := (x :: t.sigs).take 16, outSig := some x, excused := t.excused.filter fun y => decide (n < y) }
  s1.compareSig n

/-- SIGNATURE_MISS: not received by the sink deadline of quantum k + 2 (R396). -/
def signatureMiss (k : Int) (s : State) : State :=
  let n := k * s.q
  if s.compares && decide (s.twin.state ≠ .active) && s.deadlineReached (k + 2) && (s.twin.sigs.any fun x => decide (x.index = n)) &&
    !s.twin.judged.contains n && s.twin.partnerSigs.all fun x => decide (x.index ≠ n) then
    (s.bump rTwnSigmiss).updTwin fun t => { t with judged := (n :: t.judged).take 16 }
  else s

/-! ### The copied state (Table 13-7) -/

/-- A Reed operation's state without its healed lines. -/
def ReedMem.copied (m : ReedMem) (kind : Nat) : ReedMem :=
  match m with
  | .line h => if decide (kind = 0x35) || decide (kind = 0x44) then .line [] else .line h
  | .frac _ t => .frac [] t
  | .dyn d => .dyn { d with look := d.look.map fun _ => [] }
  | .meter acc _ => .meter (acc.map fun _ => 0) 0
  | .loud secs acc => .loud secs (acc.map fun _ => 0)
  | m => m

/-- An operation's copied state at boundary b. -/
def OpMem.copied (m : OpMem) (b : Int) : OpMem :=
  match m.st with
  | .reed x => { m with st := .reed (x.copied m.op.kind) }
  | .conv _ _ _ => { m with st := .conv b [] [] }
  | .dike ds => { m with st := .dike (ds.map fun d => { d.clear with line := [], delay := [], vs := [] }) }
  | .plain => m

/-- An object's copied state. -/
def ObjMem.copied (m : ObjMem) : ObjMem := { m with hist := [] }

/-- The copied state at boundary b as the device stands (Table 13-7). -/
def State.copied (s : State) (b : Int) : Copied :=
  { rate := s.rate, logQ := s.logQ, running := s.processing, ord := s.audio.ord, cfg := s.cfg,
    mem := AMap.mapVal s.audio.mem fun m => m.copied b, objs := AMap.mapVal s.audio.objs ObjMem.copied, lines := s.audio.lines,
    slots := s.audio.slotsConv.filter fun x => decide (x.2.phase ≠ .loading), changes := s.changes,
    sets := s.chans.filterMap fun x => x.2.set.map fun g => (x.1, g), rx := s.net.rx, tx := s.net.tx,
    groups := AMap.mapVal s.sap.groups fun g => { g with label := none, good := [] }, sapSets := s.sap.sets,
    maps := s.zen.maps, drops := s.zen.drops, inserts := s.zen.inserts, handles := s.handles }

/-- What an engine captures as it completes an operation's instance of the quantum before the boundary. -/
def Copied.recapture (c : Copied) (s : State) (b : Int) (i : Nat) : Copied :=
  let obj := (s.graphNow.op i).bind fun o => if o.kind = 0x18 then (AMap.find s.audio.objs o.objNo).map fun m => (o.objNo, m.copied) else none
  { c with mem := match AMap.find s.audio.mem i with | some m => AMap.put c.mem i (m.copied b) | none => AMap.del c.mem i,
           objs := match obj with | some x => AMap.put c.objs x.1 x.2 | none => c.objs,
           lines := c.lines.map fun l => if l.edge.src = i then ((s.audio.lines.find? fun y => decide (y.edge = l.edge)).getD l) else l }

/-- No instance of a quantum before boundary b is incomplete. -/
def State.pastBoundary (s : State) (b : Int) : Bool := s.audio.runs.all fun r => decide (b ≤ r.first s.q) || r.open_.isEmpty

/-- The relay stream breaks where a capture is taken: what was relayed before is in it. -/
def Twin.cutRelay (t : Twin) : Twin :=
  let ws := t.relayWords ++ t.relayOut.flatMap RelayEntry.words
  { t with relayOut := [], relayWords := ws, relayCut := ws.length }

/-- Number of the last relay section whose entries a capture taken now contains. -/
def Twin.cutSeq (t : Twin) : Nat := (t.relaySeq + cdivN (t.relayWords.length + (t.relayOut.flatMap RelayEntry.words).length) 510) % 2 ^ 16

/-- At its boundary the capture for a joining partner begins. -/
def State.captureBegin (s : State) (b : Int) : State :=
  match s.twin.capture with
  | some c =>
    if decide (c.boundary = b) && c.body.isNone then
      s.updTwin fun t => { t.cutRelay with capture := some { c with body := some { s.copied b with relaySeq := t.cutSeq } } }
    else s
  | none => s

/-- An operation completed an instance of quantum k: a capture at the next boundary takes its state. -/
def State.captureOp (s : State) (k : Int) (i : Nat) : State :=
  match s.twin.capture with
  | some c =>
    if (k + 1) * s.q = c.boundary then s.updTwin fun t => { t with capture := some { c with body := c.body.map fun x => x.recapture s c.boundary i } } else s
  | none => s

/-- Size and CRC-64 of a captured image: free values. -/
def State.imageFacts (s : State) : (Nat × Nat) × State :=
  ((min 67108800 (Config.snapSize s.free), (Config.snapCrc s.free).toNat), { s with free := s.free + 1 })

/-- The capture is complete once every instance before its boundary is. -/
def State.captureEnd (s : State) : State :=
  match s.twin.capture with
  | some c =>
    if c.body.isSome && !c.complete && s.pastBoundary c.boundary then
      let f := s.imageFacts
      f.2.updTwin fun t => { t with capture := some { c with complete := true, size := f.1.1, crc := f.1.2 }, snapKib := cdivN f.1.1 1024 }
    else s
  | none => s

/-- Octets of a copy block (Table 13-5). -/
def State.blockOctets (s : State) : Nat := if s.highRate then 11200 else 26880

/-- The next copy block that the holder sends. -/
def State.nextBlock (s : State) : Option CopyBlock × State :=
  match s.twin.capture with
  | some c =>
    if c.complete && decide (c.next * s.blockOctets < c.size) then
      (some { num := c.next, octets := min s.blockOctets (c.size - c.next * s.blockOctets), size := c.size, crc := c.crc, k := c.boundary },
       s.updTwin fun t => { t with capture := some { c with next := c.next + 1 } })
    else (none, s)
  | none => (none, s)

/-- A joining partner asks for a copy, from its lowest missing block on (R399). -/
def State.copyAsked (s : State) (req : Bool) (missing : Nat) : State :=
  if decide (s.twin.state ≠ .active) then s
  else if !req then s.updTwin fun t => { t with capture := none }
  else match s.twin.capture with
    | none => s.updTwin fun t => { t with capture := some { boundary := s.boundaryReady 100000 }, unrelayed := false }
    | some c =>
      if c.complete && decide (c.size ≤ c.next * s.blockOctets) then s.updTwin fun t => { t with capture := some { c with next := missing } } else s

/-! ### Joins (R398 to R400) -/

/-- The healed lines of an operation, in samples (R398). -/
def Op.healLine (o : Op) (q : Nat) (high : Bool) : Nat :=
  match o.kind with
  | 0x28 => if o.dikeDly then (if high then 196608 else 98304) else 0
  | 0x18 => 8192
  | 0x36 => 8192
  | 0x20 => planDelay o.convPlan + convCovered o.convPlan o.convRes + 2048
  | 0x35 => fld (o.w 6) 15 0 + q
  | 0x44 => 2 * 2 ^ fld (o.w 6) 3 0
  | k => if isDynamics k then fld (o.w 6) 8 0 else 0

/-- Heal length H (R398). -/
def Graph.healLength (g : Graph) (q : Nat) (high : Bool) : Nat :=
  cdivN ((g.ops.map fun x => x.2.healLine q high).foldl max 0) q * q + 2 * q

/-- The device may join: READY or RUNNING, FENCED, SUSPECT or JOINING, the partner ACTIVE and the Twin Link up (R399). -/
def State.mayJoin (s : State) : Bool :=
  s.twin.enabled && (decide (s.run = .ready) || decide (s.run = .running)) &&
  (decide (s.twin.state = .fenced) || decide (s.twin.state = .suspect) || decide (s.twin.state = .joining)) &&
  decide (s.twin.partner = .active) && s.twin.linkUp

/-- A join starts: k_c, and the copy is asked for (Table 13-8, LOG and COPY). -/
def State.startJoin (s : State) : State :=
  (s.updTwin fun t =>
    { t with phase := .copy, joinAt := s.boundaryReady 100000, blocks := [], blockSize := 0, joinLog := [], retryAt := none, run := 0, matches_ := 0,
             relayNext := if t.state = .joining then t.relayNext else none, relayIn := if t.state = .joining then t.relayIn else [] }).twinTo .joining

/-- TWIN_JOIN. That the holder's copied state exceeds the shadow is the holder's to know: a free value. -/
def twinJoinSpec : CmdSpec where
  op := 0xA02
  layout := fun p _ => lenIs p 4
  own := fun _ s _ => firstDeny [denyIf (decide (s.twin.phase ≠ .none)) busyDeny, denyIf (!s.mayJoin) stateDeny,
    denyIf (Config.holderTooBig s.free) ⟨.noResource, 0x41⟩]
  act := fun _ s _ _ => { s := { s.startJoin with free := s.free + 1 } }

/-- TWIN_AUTOJOIN_START (R376, R399). -/
def twinAutojoinStart (s : State) : State :=
  if s.autojoin && !s.twin.hold && decide (s.twin.phase = .none) && s.twin.retryAt.isNone && s.mayJoin then s.startJoin else s

/-- JOIN_RETRY: 1 s after a failed join, with AUTOJOIN, while the partner is ACTIVE and HOLD is clear (R376, R400). -/
def joinRetry (s : State) : State :=
  if s.autojoin && !s.twin.hold && decide (s.twin.phase = .none) && (s.twin.retryAt.any fun t => decide (t ≤ s.now)) && s.mayJoin then s.startJoin else s

/-- Lowest copy block not yet received. -/
def Twin.lowestMissing (t : Twin) : Nat := ((List.range (t.blocks.length + 1)).find? fun n => !t.blocks.contains n).getD 0

/-- The copied state takes the place of the device's (Table 13-8, CATCHUP; R458): processing goes on from boundary b. -/
def State.adopt (s : State) (c : Copied) (b : Int) : State :=
  let s1 := { s with rate := c.rate, logQ := c.logQ, cfg := c.cfg, changes := c.changes, handles := c.handles,
                     nextOrder := (c.changes.map fun (x : Change) => x.order).foldl max s.nextOrder + 1 }
  let delays := match c.cfg.graph with | some a => if c.running then s1.delaysOf a.graph b else [] | none => []
  let audio := { s.audio.stop with outs := [], mem := c.mem, objs := c.objs, lines := c.lines, slotsConv := c.slots, ord := c.ord, delays := delays,
                                   next := if c.running then some (fdivI b s1.q) else none }
  let run : RunState := if s.run = .halted then .halted else if c.running then .running else .ready
  { s1 with audio := audio, run := run, chans := AMap.mapVal s1.chans fun x => { x with set := none } }

/-- What only a join copies: open sets, ports, streams and areas. -/
def State.adoptPorts (s : State) (c : Copied) : State :=
  let s1 := c.sets.foldl (fun (s : State) x => s.updChan x.1 fun k => { k with set := some x.2 }) s
  { s1 with sap := { s1.sap with groups := c.groups, sets := c.sapSets }, net := { s1.net with rx := c.rx, tx := c.tx },
            zen := { s1.zen with maps := c.maps, drops := c.drops, inserts := c.inserts } }

/-- The shadow is committed: the replay starts at k_c, and healing ends H samples later (R398, R399). -/
def State.joinCommit (s : State) (c : Copied) (k : Int) : State :=
  let s1 := (s.adopt c k).adoptPorts c
  s1.updTwin fun t => { t with phase := .catchup, joinAt := k, healTo := k + s1.graphNow.healLength s1.q s1.highRate, blocks := [], blockSize := 0 }

/-- A copy block arrives: number, octets valid, and what block 0 holds; with the last one, whether the CRC-64 agrees and the state
that the blocks spell. The answer says whether the shadow is committed. -/
def State.takeBlock (s : State) (x : CopyBlock) (crcOk : Bool) (image : Copied) : State × Bool :=
  if decide (s.twin.phase ≠ .copy) || s.twin.blocks.contains x.num then (s.twlStale, false)
  else
    let s1 := (s.bump rTwlCopycnt).updTwin fun t =>
      { t with blocks := x.num :: t.blocks, blockSize := if x.num = 0 then x.size else t.blockSize, snapKib := if x.num = 0 then cdivN x.size 1024 else t.snapKib,
               joinAt := if x.num = 0 then x.k else t.joinAt }
    if s1.twin.blocks.contains 0 && decide (s1.twin.blockSize ≤ s1.twin.lowestMissing * s1.blockOctets) then
      if crcOk then (s1.joinCommit image s1.twin.joinAt, true) else (s1.updTwin fun t => { t with blocks := [], blockSize := 0 }, false)
    else (s1, false)

/-- The replay has reached the current quantum. -/
def State.caughtUp (s : State) : Bool := match s.audio.next with | some k => decide (s.index < s.readyIndex k) | none => true

/-- JOIN_CATCHUP_DONE (Table 13-8). -/
def joinCatchupDone (s : State) : State :=
  if decide (s.twin.phase = .catchup) && s.caughtUp then s.updTwin fun t => { t with phase := .heal } else s

/-- JOIN_HEAL_DONE: at index k_c + H (Table 13-8). -/
def joinHealDone (s : State) : State :=
  if decide (s.twin.phase = .heal) && decide (s.twin.healTo ≤ s.index) then s.updTwin fun t => { t with phase := .verify, matches_ := 0 } else s

/-! ### Frames (R386, Table 13-5) -/

/-- Control blocks 1 to 8. -/
def TwlFrame.control (f : TwlFrame) : List Nat :=
  let sig := f.sig.getD (0, 0, false)
  [f.epoch % 2 ^ 32 + f.state.code * 2 ^ 32 + flagBit f.secondary 35 + flagBit f.renew 36 + flagBit f.ack 37 + flagBit f.claim 38 + flagBit f.detach 39 +
     flagBit f.unrelayed 40 + flagBit f.fenceReq 41 + flagBit f.fenceForce 42,
   f.h.toNat + flagBit f.handover 32 + flagBit f.hack 33 + flagBit f.commit 34 + flagBit f.cancel 35 + flagBit f.urgent 36,
   sig.2.1,
   sig.1.toNat + flagBit f.sig.isSome 32 + flagBit sig.2.2 33,
   f.copyMissing % 2 ^ 32 + flagBit f.copyReq 32,
   f.serial, 0, 0]

/-- The blocks of mirror samples, two channels in each, and of their SUBST bits. -/
def TwlFrame.mirrorBlocks (f : TwlFrame) (n : Nat) : List Nat :=
  let xs := fillTo (2 * n) (some 0) f.mirror
  let bits := nsum (xs.zipIdx.map fun x => flagBit x.1.isNone x.2)
  ((pairUp xs).map fun x => (lo32 (x.2.getD 0)).toNat + (lo32 (x.1.getD 0)).toNat * 2 ^ 32) ++
  (List.range (n / 32)).map fun j => bits / 2 ^ (64 * j) % 2 ^ 64

/-- The close section: its header and 255 entries. -/
def TwlFrame.closeBlocks (f : TwlFrame) : List Nat :=
  match f.close with
  | some c =>
    ((lo32 c.index).toNat + 2 ^ 32 + flagBit c.overflow 33 + c.entries.length * 2 ^ 34) ::
      fillTo 255 0 (c.entries.map fun e => e.chan + e.first * 2 ^ 13 + e.count * 2 ^ 19 + flagBit e.subst 26 + (lo32 e.value).toNat * 2 ^ 32)
  | none => List.replicate 256 0

/-- The relay section: its header and 2,040 octets. -/
def TwlFrame.relayOctets (f : TwlFrame) : List Nat :=
  match f.relay with
  | some x => blockOctets (x.seq + 4 * x.words.length * 2 ^ 16) ++ fillTo 2040 0 (x.words.flatMap octets)
  | none => List.replicate 2048 0

/-- The copy section: its header, and n octets of the image, which is the device's own. -/
def TwlFrame.copyOctets (f : TwlFrame) (n : Nat) : List Nat :=
  match f.copy with
  | some x => blockOctets (x.num % 2 ^ 32 + x.octets * 2 ^ 32 + 2 ^ 48) ++
      fillTo n 0 ((List.range x.octets).map fun i => (Config.copyOctet [x.num, x.size, x.crc, x.k.toNat] i).toNat)
  | none => List.replicate (8 + n) 0

/-- The octets that a frame carries in order, from octet 1 of the start block up to the end block. -/
def TwlFrame.octets (f : TwlFrame) : List Nat :=
  let high := decide (2 ≤ f.rate)
  [0x10, 0] ++ ((List.range 5).map fun i => f.label / 2 ^ (8 * i) % 256) ++
    (f.control ++ f.mirrorBlocks (if high then 2048 else 4096) ++ f.closeBlocks).flatMap blockOctets ++
    f.relayOctets ++ f.copyOctets (if high then 11200 else 26880)

/-- The frame check of R349. -/
def TwlFrame.crc (f : TwlFrame) : Word := w32 (crc32 f.octets)

/-- The frame passes its check (R386). -/
def TwlFrame.intact (f : TwlFrame) : Bool := f.framed && decide (f.check = f.crc)

/-- The frame with its check in its end block. -/
def TwlFrame.sealed (f : TwlFrame) : TwlFrame := { f with check := f.crc }

/-- TWIN_LINK_FRAME_LAUNCH at the start of a media period (Table 13-5). -/
def twinLinkFrameLaunch (s : State) : State :=
  let l := s.index
  if !(s.twin.enabled || s.twin.outDetach) || s.pd.testBit 13 = false || decide (s.twin.launched = some l) then s
  else
    let holds := decide (s.twin.state = .active)
    let mirror := if holds then s.mirrorAt (l - 1) else []
    let block := s.nextBlock
    let t := block.2.twin
    let sec := t.nextSection
    let hand := match t.outHand, t.outHack, t.outCommit, t.outCancel with
      | some x, _, _, _ => some x.1 | none, some h, _, _ => some h | none, none, some h, _ => some h | none, none, none, h => h
    let f : TwlFrame :=
      { label := zenLabel l, rate := s.rate, start := s.now, epoch := if t.outHand.isSome then t.seen + 1 else t.epoch, state := t.state, secondary := s.secondary,
        renew := t.outRenew, ack := t.outAck, claim := t.outClaim, detach := t.outDetach, unrelayed := t.unrelayed,
        fenceReq := t.outFence.isSome, fenceForce := t.outFence = some true, h := (hand.map lo32).getD 0, handover := t.outHand.isSome,
        hack := t.outHand.isNone && t.outHack.isSome, commit := t.outHand.isNone && t.outHack.isNone && t.outCommit.isSome,
        cancel := t.outHand.isNone && t.outHack.isNone && t.outCommit.isNone && t.outCancel.isSome,
        urgent := t.outHand.any (·.2), sig := t.outSig.map fun x => (lo32 x.index, x.value, x.excuse),
        copyMissing := if t.phase = .copy then t.lowestMissing else 0, copyReq := t.phase = .copy, serial := Config.serial.toNat,
        mirror := mirror, close := if holds then t.outClose else none, relay := sec.1, copy := block.1 }
    let used := sec.2
    let done := { used with
      outRenew := false, outAck := false, outClaim := false, outDetach := false, outFence := none, outHand := none,
      outHack := if f.hack then none else used.outHack, outCommit := if f.commit then none else used.outCommit,
      outCancel := if f.cancel then none else used.outCancel, outSig := none, outClose := none, launched := some l, sent := some f.sealed,
      mirrorOut := if holds then ((l - 1, mirror) :: used.mirrorOut).take (4 * s.q + 8) else [] }
    { block.2 with twin := done }

/-- The Twin Link recovers after 64 intact frames in a row; an IN_STEP partner of a holder with UNRELAYED joins again (R394). -/
def State.linkRecovers (s : State) (f : TwlFrame) : State :=
  if decide (64 ≤ s.twin.intact) && decide (s.twin.pstate ≠ 2) then
    let s1 := s.updTwin fun t => { t with pstate := 2, unver := false }
    if f.unrelayed && decide (s1.twin.state = .inStep) then (s1.updTwin fun t => { t with relayNext := none, relayIn := [], gapAt := none }).twinTo .joining else s1
  else s

/-- The join log is full: 512 MiB of mirror words (R400). -/
def State.logFull (s : State) : Bool :=
  (decide (s.twin.phase = .copy) || decide (s.twin.phase = .catchup)) &&
  decide (2 ^ 29 < s.twin.mirrorIn.length * 4 * s.graphNow.mirrorKeys.length)

/-- A holder's mirror and close sections are kept: in a join from k_c on (R390, R399). -/
def State.keepMirror (s : State) (n : Int) (f : TwlFrame) : State :=
  if f.state ≠ .active then s
  else
    let from_ := if decide (s.twin.phase = .copy) || decide (s.twin.phase = .catchup) then min s.twin.joinAt (s.index - 4 * s.q - 8) else s.index - 4 * s.q - 8
    let closes := match f.close with | some c => c :: s.twin.closes | none => s.twin.closes
    s.updTwin fun t => { t with mirrorIn := ((n - 1, f.mirror) :: t.mirrorIn).filter fun x => decide (from_ ≤ x.1),
                                closes := closes.filter fun c => decide (from_ ≤ c.index) }

/-- The partner's signature arrives (R396). -/
def State.takeSig (s : State) (x : Word × Nat × Bool) : State :=
  let n := nearestIndex x.1 s.index
  (s.updTwin fun t => { t with partnerSigs := (⟨n, x.2.1, x.2.2⟩ :: t.partnerSigs).take 16 }).compareSig n

/-- The epoch under which a frame's renewal counts: a frame that carries HANDOVER has the next epoch in its place (R380, R383). -/
def TwlFrame.renewEpoch (f : TwlFrame) (t : Twin) : Nat := if f.handover then max t.partnerEpoch t.epoch else f.epoch

/-- What a frame says of the partner. -/
def State.hearFrame (s : State) (n : Int) (f : TwlFrame) : State :=
  let t := s.timeAtTick f.start - s.twin.delay * nsUnit
  s.updTwin fun u =>
    { u with frameAt := some s.now, heard := true, partner := f.state, partnerSecondary := f.secondary, partnerSerial := f.serial,
             partnerEpoch := if f.handover then u.partnerEpoch else f.epoch, seen := max u.seen f.epoch, intact := min 64 (u.intact + 1),
             skew := satBits 32 (fdivI (t - s.startOf n) nsUnit),
             stepSince := if decide (u.state = .active) && decide (f.state = .inStep) then some (u.stepSince.getD s.now) else none }

/-- TWIN_LINK_FRAME_RECEIVED (R377, R381, R386, R388, R390, R394, R396, R399, R400). Handover, fence, detach and copy sections and the
relay section are taken by events of their own. -/
def twinLinkFrameReceived (f : TwlFrame) (s : State) : State :=
  if !s.twin.enabled || !s.twin.lock then s
  else
    let n := s.labelIndex f.label
    if !f.intact || decide (n < s.index - 2) || decide (s.index + 2 < n) then
      ((s.bump rTwlChkcnt).setEvt rTwlEvt 1).updTwin fun t => { t with intact := 0 }
    else
      let s1 := ((s.bump rTwlFramecnt).hearFrame n f).linkRecovers f
      let s2 := if f.renew then s1.renewed (f.renewEpoch s1.twin) else s1
      let s3 := if f.ack then s2.ackReceived else s2
      let s4 := (s3.keepMirror n f).copyAsked f.copyReq f.copyMissing
      let s5 := match f.sig with | some x => s4.takeSig x | none => s4
      if decide (s5.twin.phase ≠ .none) && (decide (f.state ≠ .active) || s5.logFull) then s5.joinFails else s5

/-- TWL_LOCK_LOSS (R386, R394, R400): commands not yet relayed count as unrelayed. -/
def twlLockLoss (s : State) : State :=
  if !s.twin.lock then s
  else
    let lost := decide (s.twin.state = .active) && (!s.twin.relayOut.isEmpty || !s.twin.relayWords.isEmpty)
    let s1 := ((s.bump rTwlLockcnt).setEvt rTwlEvt 0).updTwin fun t =>
      { t with lock := false, intact := 0, pstate := if t.pstate = 0 then 0 else 3, unver := t.unver || t.standby, unrelayed := t.unrelayed || lost,
               relayOut := [], relayWords := [], relayCut := 0, relaySec := none, relayNext := none, relayIn := [], gapAt := none, capture := none }
    if s1.twin.phase = .copy then s1.joinFails else s1

/-- TWL_BLOCK_LOCK_GAIN with the one-way delay measured, in ns (R394). -/
def twlBlockLockGain (delay : Nat) (s : State) : State :=
  if s.twin.lock then s
  else (s.setEvt rTwlEvt 0).updTwin fun t => { t with lock := true, intact := 0, delay := delay % 2 ^ 20, pstate := if decide (t.pstate = 0) && t.enabled then 1 else t.pstate }

/-! ### Forwarded commands (R391, R423) -/

/-- The holder's reply, or the device's own for want of one, completes the command that waits on a channel (R423). -/
def State.relayAnswer (s : State) (n : Nat) (op : Nat) (p : Packet) (r : Reply) : State :=
  let s1 := s.updChan n fun c => { (c.enter p.tag (p.check op) r) with hold := none }
  if suppressed p r.status then s1 else s1.emit n r

/-- RELAY_FORWARD_TIMEOUT on a channel: 10 ms after forwarding (R423). -/
def relayForwardTimeout (n : Nat) (s : State) : State :=
  match (s.chan n).hold with
  | some (.relay op p sent) =>
    if sent + ticksOfMs 10 ≤ s.now then s.relayAnswer n op p (mkReply op p .partnerFault 2 s.index []) else s
  | _ => s

end Sys2Proof.Machine
end

