-- ==== Sys2Proof/Machine/Memory.lean ====
section
/-! DEFINITION. The bus matrix, the DRAM controller and snapshots: decode and placement of addresses, transactions, the DRAM commands,
refresh and self-refresh, and STATE_SAVE and STATE_RESTORE (R456 to R458, R488 to R512). -/
namespace Sys2Proof.Machine

/-! ### Addresses (R488 to R490, R505) -/

/-- Target port of an internal address, by number; none where nothing is mapped (R488, R489, Table 17-1). -/
def State.busTarget (s : State) (a : Nat) : Option Nat :=
  if a < 0x6000000 then some (a / 0x300000 / 4)
  else if 0x10000000 ≤ a ∧ a < 0x10C00000 then some 11
  else if 0x20000000 ≤ a ∧ a < 0x20010000 then (if (a - 0x20000000) / 1024 ≤ 35 ∧ a % 1024 < blockSpan ((a - 0x20000000) / 1024) then some 9 else none)
  else if 0x30000000 ≤ a ∧ a < 0x30400000 then some 12
  else if 0x40000000 ≤ a ∧ a < 0x40010080 then some 13
  else if 0x400000000 ≤ a ∧ a < 0x400000000 + s.dramMiB * 2 ^ 20 then some 8
  else if 2 ^ 47 ≤ a ∧ a < 2 ^ 48 then some 10 else none

/-- A place in the DRAM: channel, bank, row and column. -/
structure DramPlace where
  chan : Nat
  bank : Nat
  row : Nat
  column : Nat
  deriving DecidableEq, Repr

/-- Where a device offset lies with interleave grain g (R505). -/
def dramPlace (g a : Nat) : DramPlace :=
  let c := a / (4 * g) * g + a % g
  let row := c / 32768
  { chan := a / g % 4, bank := (c / 2048 % 16) ^^^ (row % 16), row := row, column := c / 2 % 1024 }

/-- Samples of a Dike channel's delay line: one slot of 98,304, or two at the high rates (R197). -/
def dlySize (high : Bool) : Nat := if high then 196608 else 98304

/-- Offset in the DRAM of the first slot of a Dike channel's delay line: slot c, or slot 2c at the high rates, of 393,216 octets each (R197,
Table 17-5). -/
def dlySlot (high : Bool) (chan : Nat) : Nat := (if high then 2 * chan else chan) * 393216

/-- Offset in the DRAM of a media index in a channel's delay line (R197). -/
def dlyOffset (high : Bool) (chan : Nat) (n : Int) : Nat := dlySlot high chan + 4 * (n % (dlySize high : Int)).toNat

/-! ### Transactions (R499, R500) -/

/-- BUS_TRANSACTION_TIMEOUT: master, ID and address of the transaction that is retired; one to an unmapped address is never answered
(R499). -/
def busTransactionTimeout (m id addr : Nat) (s : State) : State :=
  if bitOf (s.reg rBmxIso) m then s
  else
    let s1 := (((s.bump rBmxHangcnt).setReg rBmxHangmst (w32 (m % 16 + id % 64 * 2 ^ 8))).setReg rBmxHangadlo (w32 addr)).setReg rBmxHangadhi (w32 (addr / 2 ^ 32 % 2 ^ 16))
    let s2 := { s1 with mem := { s1.mem with retired := s1.mem.retired ++ if (s.busTarget addr).isSome then [(m, id)] else [] } }
    (s2.setEvt rBmxEvt 0).logNow evBusHang [m, addr]

/-- BUS_LATE_RESPONSE: a response to a retired transaction is discarded and counted (R500). -/
def busLateResponse (m id : Nat) (s : State) : State :=
  if s.mem.retired.contains (m, id) then
    ({ s with mem := { s.mem with retired := s.mem.retired.erase (m, id) } }.bump rBmxLatersp).setEvt rBmxEvt 4
  else s

/-! ### Polder words (R494, R495) -/

/-- POLDER_SCRUB: the word at an offset is checked, by the scrub or by an access of a master; the outcome is none, a corrected error, or an
uncorrectable one, which halts a RUNNING device unless the master is M15, whose read returns ones (R494; taken as the MW2 read of the
host, log entry 36). -/
def polderScrub (off : Nat) (err : Option Bool) (master : Option Nat) (s : State) : State :=
  match err with
  | none => s
  | some false =>
    (((s.bump rBmxEcccor).setReg rBmxEccaddr (w32 (off % 2 ^ 27))).setEvt rBmxEvt 1).logNow evEccCorrected [off]
  | some true =>
    let s1 := (((s.bump rBmxEccunc).setReg rBmxEccaddr (w32 (off % 2 ^ 27 + 2 ^ 31))).setEvt rBmxEvt 2).logNow evEccUncorrected [off]
    match master with
    | none => s1
    | some m => if m = 15 then { s1 with read := 0xFFFFFFFF } else s1.halted 3

/-! ### DRAM_START (R503, R504) -/

/-- All-bank refresh time in ns by density code (Table 17-6). -/
def allBankNs (density : Nat) : Nat := if density = 0 then 180 else if density = 1 then 210 else if density = 2 then 280 else 380

/-- CK in MHz (Table 17-3). -/
def ckMhz (op : Nat) : Nat := if op = 0 then 800 else if op = 1 then 400 else 200

/-- Timing word n of a density and an operating point; the all-bank refresh time is Table 17-6's, the rest JESD209-5's. -/
def timingWord (density op n : Nat) : Word :=
  let w := Config.dramTiming density op n
  if n = 2 then w32 (cdivN (allBankNs density * ckMhz op) 1000 + fld w 31 16 * 2 ^ 16)
  else if n = 3 then w32 (fld w 15 0) else w

/-- Write a timing set (Table 17-8). -/
def State.putTiming (s : State) (setB : Bool) (op : Nat) : State :=
  let density := fld (((s.boardSection 1).getD []).headD 0) 1 0
  (List.range 4).foldl (fun (s : State) n => s.setReg ((if setB then rDrmTmgb else rDrmTmga) + 4 * n) (timingWord density op n)) s

/-- The interface delays of an operating point (Table 17-4). -/
def State.putDelays (s : State) (op : Nat) : State :=
  let ws := (s.boardSection 2).getD []
  (List.range 16).foldl (fun (s : State) n => s.setReg (rDrmDly + 4 * n) (ws.getD (16 * op + n) 0)) s

/-- Highest operating point permitted (Table 17-4). -/
def State.opLimit (s : State) : Nat := fld (((s.boardSection 1).getD []).headD 0) 9 8

/-- Channels that fail to start: a manufacturer ID that differs, with TEST a pattern that fails. What the dies answer is free. -/
def State.dramBad (s : State) (test : Bool) : Nat :=
  let id := fld (((s.boardSection 1).getD []).headD 0) 23 16
  (if id = 0 then 0 else (Config.dramMismatch s.free).toNat) ||| (if test then (Config.dramTestFail s.free).toNat else 0)

/-- MR4 rate codes as a register word (Table 17-8). -/
def rateWord (rates : List Nat) : Word := w32 (nsum (rates.zipIdx.map fun (x : Nat × Nat) => x.1 % 32 * 2 ^ (8 * x.2)))

/-- The DRAM runs (R503, R504). -/
def State.dramStarted (s : State) (op grain : Nat) : State :=
  let rates := (List.range 4).map fun c => (Config.dramRate s.free c).toNat
  let s1 := { s with dramOn := true, pd := s.pd ||| 2 ^ 14, free := s.free + 1, dram := { op := op, grain := grain, rates := rates } }
  ((s1.putTiming false op).putDelays op).setReg rDrmTemp (rateWord rates)

/-- DRAM_START. -/
def dramStartSpec : CmdSpec where
  op := 0xB01
  state := fun _ s => denyIf s.dramOn ⟨.wrongState, 0x23⟩
  layout := fun p _ => firstDeny [lenIs p 5,
    denyIf (reservedSet (p.w 4) (mask 1 0 + mask 11 8 + mask 16 16) || decide (8 < fld (p.w 4) 11 8)) fieldDeny]
  own := fun p s _ => firstDeny [denyIf ((s.boardSection 1).isNone || (s.boardSection 2).isNone) ⟨.wrongState, 0x22⟩,
    denyIf (decide (s.opLimit < fld (p.w 4) 1 0)) fieldDeny,
    denyIf (decide (s.dramBad (bitOf (p.w 4) 16) ≠ 0)) (badParam (0x60 + s.dramBad (bitOf (p.w 4) 16)))]
  act := fun p s _ _ => { s := s.dramStarted (fld (p.w 4) 1 0) (fld (p.w 4) 11 8), words := [w32 s.dramMiB, w32 1072] }
  onDeny := fun _ _ s => { s with free := s.free + 1 }

/-! ### Refresh and self-refresh (R507 to R509) -/

/-- State of a DRAM channel. -/
def State.dramChan (s : State) (c : Nat) : SelfRefresh := s.dram.chans.getD c .active

/-- Put a channel's state. -/
def State.putDramChan (s : State) (c : Nat) (x : SelfRefresh) : State := { s with dram := { s.dram with chans := s.dram.chans.set c x } }

/-- DRAM_REFRESH of a bank with the neighbour rows refreshed with it (R507, R508). -/
def dramRefresh (c neighbours : Nat) (s : State) : State :=
  if s.dramOn && decide (s.dramChan c = .active) then (if neighbours = 0 then s else s.bump rDrmNrcnt neighbours) else s

/-- DRAM_MR4_POLL: the codes read, and whether a channel reports over-temperature or does not answer (R507). -/
def dramMr4Poll (rates : List Nat) (fault : Bool) (s : State) : State :=
  if !s.dramOn then s
  else
    let new := (List.range 4).map fun c => rates.getD c 0 % 32
    let s1 := if fault then s else
      ((if new = s.dram.rates then s else s.setEvt rDrmEvt 1).setReg rDrmTemp (rateWord new))
    let s2 := if fault then s1 else { s1 with dram := { s1.dram with rates := new } }
    if fault then (s2.setEvt rDrmEvt 2).halted 4 else s2

/-- DRAM_SELF_REFRESH_ENTRY of an idle channel; a request before the entry command abandons it (R509). -/
def dramSelfRefreshEntry (c : Nat) (request : Bool) (s : State) : State :=
  if s.dramOn && bitOf (s.reg rDrmCtl) 0 && (decide (s.run = .ready) || decide (s.run = .halted)) && decide (c < 4) && decide (s.dramChan c = .active) &&
    s.dram.change.isNone then
    if request then s.bump rDrmSrabort else (s.bump rDrmSrcnt).putDramChan c (.entered s.now)
  else s

/-- DRAM_SELF_REFRESH_EXIT: a waiting request is served after the minimum residency of 15 ns (R509). -/
def dramSelfRefreshExit (c : Nat) (s : State) : State :=
  match s.dramChan c with
  | .entered t => if t + 6 ≤ s.now then (s.bump rDrmSrwait).putDramChan c .active else s
  | .active => s

/-- Worst added latency of a request during self-refresh entry, in tenths of ns (R509, Table 17-6). -/
def srWorst (density op : Nat) : Nat := 150 + 40000 / ckMhz op + 10 * allBankNs density + 75

/-! ### Operating points (R510) -/

/-- Index of the first sink deadline after now. -/
def State.nextDeadline (s : State) : Int := s.deadlineIndex (fdivI (s.index - (2 * s.q + 1 : Nat)) s.q + 1)

/-- DRAM_OPPOINT. -/
def dramOppointSpec : CmdSpec where
  op := 0xB02
  state := fun _ s => denyIf (!s.dramOn) stateDeny
  layout := fun p s => firstDeny [lenIs p 5, denyIf (reservedSet (p.w 4) (mask 1 0) || decide (s.opLimit < fld (p.w 4) 1 0)) fieldDeny]
  own := fun p s _ => firstDeny [denyIf s.dram.change.isSome busyDeny,
    denyIf (decide ((9 : Rat) / 10 * (dramPeak (fld (p.w 4) 1 0) : Rat) < s.graphNow.dramRate s)) ⟨.overBudget, 0x16⟩]
  act := fun p s _ _ =>
    let n := fld (p.w 4) 1 0
    if n = s.dram.op then { s := s }
    else
      let x : OpChange := { packet := p, target := n, after := s.nextDeadline, switching := decide (s.run ≠ .running) }
      { s := ({ s with dram := { s.dram with change := some x } }.putTiming (!s.dram.setB) n).updChan p.ch fun c => { c with hold := some .reply }, silent := true }

/-- DRAM_OPPOINT_SWITCH: at the first sink deadline after acceptance requests are held (R510, step 3). -/
def dramOppointSwitch (s : State) : State :=
  match s.dram.change with
  | some x =>
    if decide (s.run ≠ .running) || decide (x.after ≤ s.index) then { s with dram := { s.dram with change := some { x with switching := true } } } else s
  | none => s

/-- DRAM_OPPOINT_DONE: the timing sets are swapped, the requests go on, and the command is answered (R510, step 5). -/
def dramOppointDone (s : State) : State :=
  match s.dram.change with
  | some x =>
    if !x.switching then s
    else
      let s1 := { s with dram := { s.dram with op := x.target, setB := !s.dram.setB, change := none, chans := List.replicate 4 .active } }
      let s2 := ((s1.putDelays x.target).setEvt rDrmEvt 0).updChan x.packet.ch fun c => { c with hold := none }
      s2.answer 0xB02 x.packet .ok 0 s2.index
  | none => s

/-! ### STATE_SAVE and STATE_RESTORE (R456 to R458) -/

/-- A host address that cannot be used (R436, R490). -/
def hostAddrBad (lo hi : Word) : Bool := decide (u64 lo hi % 64 ≠ 0) || decide (2 ^ 47 ≤ u64 lo hi)

/-- The fields that STATE_SAVE and STATE_RESTORE share. -/
def saveWordsBad (p : Packet) : Bool :=
  reservedSet (p.w 4) (mask 1 0 + mask 8 8) || (bitOf (p.w 4) 8 && hostAddrBad (p.w 5) (p.w 6))

/-- The store that a save or restore names cannot be reached (R436, R456). -/
def storeDeny (p : Packet) (s : State) : Option Deny := denyIf (if bitOf (p.w 4) 8 then !s.pcie else !s.dramOn) stateDeny

/-- STATE_SAVE: the reply comes when the snapshot is complete. Size and CRC-64 of the image are free values. -/
def stateSaveSpec : CmdSpec where
  op := 0xB03
  layout := fun p s => firstDeny [lenIs p 8, denyIf (saveWordsBad p) fieldDeny, storeDeny p s]
  own := fun p s _ => firstDeny [denyIf (s.mem.save.isSome || decide (s.twin.phase = .copy)) busyDeny,
    denyIf (bitOf (p.w 4) 8 && decide ((p.w 7).toNat < cdivN (64 + s.imageFacts.1.1) 1024)) ⟨.noResource, 0x43⟩]
  act := fun p s i _ =>
    let f := s.imageFacts
    let x : Save := { packet := p, boundary := i, body := if s.run = .running then none else some (s.copied i), size := f.1.1, crc := f.1.2 }
    { s := { f.2 with mem := { f.2.mem with save := some x } }.updChan p.ch fun c => { c with hold := some .reply }, silent := true }

/-- At its boundary a save begins to capture. -/
def State.saveBegin (s : State) (b : Int) : State :=
  match s.mem.save with
  | some x => if decide (x.boundary = b) && x.body.isNone then { s with mem := { s.mem with save := some { x with body := some (s.copied b) } } } else s
  | none => s

/-- An operation completed its instance of the quantum before the boundary: its state is captured. -/
def State.saveOp (s : State) (k : Int) (i : Nat) : State :=
  match s.mem.save with
  | some x =>
    if (k + 1) * s.q = x.boundary then
      { s with mem := { s.mem with save := some { x with body := x.body.map fun b => b.recapture s x.boundary i } } }
    else s
  | none => s

/-- The sixteen header words of a snapshot (R457); the reserved ones are zero. -/
def snapshotHeader (version : Word) (x : Save) (b : Copied) : List Word :=
  [0x4B534E50, 1, w32 siliconRevision, version, w32 (b.rate + b.logQ * 2 ^ 4), w32 x.size, lo32 x.boundary, hi32 x.boundary,
   w32 x.crc, w32 (x.crc / 2 ^ 32), w32 ((b.cfg.graph.map fun a => a.graph.ops.length).getD 0), 0, 0, 0, 0, 0]

/-- A word of a snapshot's header. -/
def Snapshot.word (x : Snapshot) (i : Nat) : Word := x.header.getD i 0

/-- The capture index that a snapshot's header gives. -/
def Snapshot.index (x : Snapshot) : Int := s64 (x.word 6) (x.word 7)

/-- STATE_SAVE_COMPLETE: the snapshot is stored and the command answered (R456, R457). -/
def stateSaveComplete (s : State) : State :=
  match s.mem.save with
  | some x =>
    match x.body.orElse fun _ => if s.processing then none else some (s.copied x.boundary) with
    | some b =>
      if !s.pastBoundary x.boundary then s
      else
        let kib := cdivN (64 + x.size) 1024
        let snap : Snapshot := { header := snapshotHeader s.fwVersion x b, body := b }
        let mem := if bitOf (x.packet.w 4) 8 then { s.mem with save := none, host := AMap.put s.mem.host (u64 (x.packet.w 5) (x.packet.w 6)) snap }
          else { s.mem with save := none, slots := AMap.put s.mem.slots (fld (x.packet.w 4) 1 0) snap }
        let s1 := { s with mem := mem }.updChan x.packet.ch fun c => { c with hold := none }
        s1.answer 0xB03 x.packet .ok 0 s1.index [w32 kib, w32 x.crc, w32 (x.crc / 2 ^ 32), lo32 x.boundary, hi32 x.boundary]
    | none => s
  | none => s

/-- The snapshot that a restore names. -/
def State.snapshotAt (s : State) (p : Packet) : Option Snapshot :=
  if bitOf (p.w 4) 8 then AMap.find s.mem.host (u64 (p.w 5) (p.w 6)) else AMap.find s.mem.slots (fld (p.w 4) 1 0)

/-- The snapshot's state takes the place of the device's; changes whose index has passed are dropped (R60, R458). -/
def State.restored (s : State) (x : Snapshot) : State :=
  let s1 := { (s.adopt { x.body with running := false } x.index) with build := none }
  let gone := s1.changes.filter fun c => decide (s1.effIndex c < s1.index)
  let s2 := gone.foldl (fun (s : State) c => s.logAt evApplyDropped c.index [shownChannel (c.packets.headD { ch := 0 }).ch, (c.packets.headD { ch := 0 }).tag.toNat]) s1
  { s2 with changes := s2.changes.filter fun c => !gone.contains c, load := match s2.cfg.graph with | some a => highestLoad a.loads | none => (0, 0) }

/-- The checks of R458 on a snapshot's header, in order. The CRC-64 in words 8 and 9 was taken over the body that stands behind the
header, and nothing in the model alters that body, so the third check never fails. -/
def State.snapshotDeny (s : State) (x : Snapshot) : Option Deny :=
  firstDeny [denyIf (decide (x.word 0 ≠ 0x4B534E50) || decide (fld (x.word 1) 15 0 ≠ 1)) (badParam 0xFFF8),
    denyIf (decide (fld (x.word 2) 15 0 ≠ siliconRevision) || decide (fld (x.word 3) 31 24 ≠ fld s.fwVersion 31 24)) (badParam 0xFFF6)]

/-- STATE_RESTORE. A place that holds no snapshot of this device has no magic word. -/
def stateRestoreSpec : CmdSpec where
  op := 0xB04
  state := fun _ s => denyIf (decide (s.twin.state ≠ .detached) && decide (s.twin.state ≠ .fenced)) stateDeny
  layout := fun p s => firstDeny [lenIs p 7, denyIf (saveWordsBad p) fieldDeny, storeDeny p s]
  own := fun p s _ => firstDeny [denyIf s.mem.save.isSome busyDeny, match s.snapshotAt p with | some x => s.snapshotDeny x | none => some (badParam 0xFFF8)]
  act := fun p s _ _ => { s := match s.snapshotAt p with | some x => s.restored x | none => s }

end Sys2Proof.Machine
end

