-- ==== Sys2Proof/Machine/Quanta.lean ====
section
/-! DEFINITION. The course of a quantum: readiness, mirrored or not, completion of instances, wait limits and the sink deadline, with what
ports, twin and captures do at each (R30, R32, R235, R245 to R248, R382, R389, R390, R396, R456). -/
namespace Sys2Proof.Machine

/-! ### Readiness -/

/-- Samples of the own receivers: what the input rings hold (R32). -/
def State.ownInput (s : State) (key : Nat) (n : Int) : Int := (s.ringAt key n).getD 0

/-- Changes due before the end of quantum k take effect, and captures at its boundary begin. -/
def State.reachQuantum (s : State) (k : Int) : State := (((s.captureBegin (k * s.q)).saveBegin (k * s.q)).drainQuantum k).stopDone

/-- Missing inputs are substituted, and quantum k enters processing (R32, R235). -/
def State.startQuantum (s : State) (k : Int) (val : State → Nat → Int → Int) : State :=
  let s1 := (s.streamSubst (k * s.q)).zenSubst (k * s.q)
  s1.beginQuantum k (val s1)

/-- Quantum k is the one that comes next, or none is in processing and its readiness has come. -/
def State.quantumNear (s : State) (k : Int) : Bool :=
  if s.processing then decide (s.audio.next = some k) && decide (s.readyIndex k ≤ s.indexSeen (k * s.q)) else s.readyReached k

/-- QUANTUM_READINESS (R30, R235); the holder closes its mirror; a partner that mirrors waits for MIRROR_READY or MIRROR_FALLBACK. -/
def quantumReadiness (k : Int) (s : State) : State :=
  if !s.quantumNear k || (s.processing && s.twin.mirrors) then s
  else
    let s1 := s.reachQuantum k
    let s2 := if s1.quantumDue k && !s1.twin.mirrors then (s1.startQuantum k State.ownInput).mirrorClose (k * s.q) else s1
    s2.captureEnd

/-- MIRROR_READY: mirrored values stand in for the own receivers' (R390). -/
def mirrorReady (k : Int) (s : State) : State :=
  if !s.twin.mirrors || decide (s.audio.next ≠ some k) || !s.twin.mirrorWhole (k * s.q) s.q then s
  else
    let s1 := s.reachQuantum k
    if s1.processing && decide (s1.audio.next = some k) then
      let keys := s1.graphNow.mirrorKeys
      (s1.startQuantum k fun t key n => t.twin.mirrorValue keys (k * s.q) key n).updTwin fun t => { t with local_ := false }
    else s1

/-- Fallback time of quantum k: a sample period, 5 µs and TWL_DELAY after readiness (R390). -/
def State.fallbackTime (s : State) (k : Int) : Int := s.startOf (s.readyIndex k + 1) + ((5000 + s.twin.delay : Nat) : Int) * nsUnit

/-- MIRROR_FALLBACK: the own receivers, LOCAL, counted and excused (R390). -/
def mirrorFallback (k : Int) (s : State) : State :=
  if !s.twin.mirrors || decide (s.audio.next ≠ some k) || decide (s.time < s.fallbackTime k) then s
  else
    let s1 := s.reachQuantum k
    if s1.processing && decide (s1.audio.next = some k) then
      (((s1.startQuantum k State.ownInput).bump rTwlMirlate).setEvt rTwlEvt 3).updTwin fun t =>
        { t with local_ := true, excused := (k * s.q) :: t.excused }
    else s1

/-! ### Instances -/

/-- Captures take the state of operations whose instances of quantum k are complete. -/
def State.captureOps (s : State) (k : Int) (ops : List Nat) : State := (ops.foldl (fun (s : State) x => (s.captureOp k x).saveOp k x) s).captureEnd

/-- The operations of an instance of quantum k. -/
def State.instOps (s : State) (k : Int) (i : Inst) : List Nat := ((s.runNumbered k).map fun r => r.opsOf s.q i).getD []

/-- The instance stands open in quantum k. -/
def State.instOpen (s : State) (k : Int) (i : Inst) : Bool := (s.runNumbered k).any fun r => r.open_.contains i

/-- INSTANCE_COMPLETE with the captures that follow (R235, R399, R456). -/
def instanceCompleted (k : Int) (i : Inst) (s : State) : State :=
  let done := instanceComplete k i s
  if s.instOpen k i && !done.instOpen k i then done.captureOps k (s.instOps k i) else done

/-- WAIT_TIMEOUT: the quantum's signature is excused (R245, R396). -/
def waitTimedOut (k : Int) (i : Inst) (s : State) : State :=
  let done := waitTimeout k i s
  if s.instOpen k i && !done.instOpen k i then
    (done.updTwin fun t => { t with excused := if t.enabled then (k * s.q) :: t.excused else t.excused }).captureOps k (s.instOps k i)
  else done

/-! ### Sink deadlines -/

/-- A claim that was not in step ramps every transmit sink over 256 samples (R382). -/
def State.claimRamp (s : State) (r : QRun) : State :=
  match s.twin.rampFrom with
  | none => s
  | some h =>
    let first := r.first s.q + r.shift
    let ramp := fun (x : Int × Int) =>
      if decide (first ≤ x.1) && decide (x.1 < first + s.q) && decide (h ≤ x.1) && decide (x.1 < h + 256) then (x.1, rhe (x.2 * (x.1 - h + 1)) 256) else x
    let outs := s.audio.outs.map fun kv => if kv.1 < tapKey 0 then (kv.1, kv.2.map ramp) else kv
    { s with audio := { s.audio with outs := outs }, twin := { s.twin with rampFrom := if h + 256 ≤ first + s.q then none else some h } }

/-- An excusing condition of R396 holds at the sink deadline of a quantum: a sink misses or ramps in, an instance is retired, or a
convolution block is late. -/
def State.excusing (s : State) (r : QRun) : Bool :=
  !(s.judgeSinks r).2.isEmpty || (r.sinks.any fun x => AMap.has s.audio.misses (sinkKey x.1 x.2)) ||
  ((s.runBefore r).any fun b => !b.open_.isEmpty) ||
  ((r.graph.ofKind 0x20).any fun x => !r.cfg.cancelled x.1 (r.first s.q) && !(s.lateBlocks r x.1 x.2).isEmpty)

/-- Quantum k is at its sink deadline and nothing is processed for it: streams send zeros (R38, R329). That they do so too while the device
is READY before a start, or HALTED, is the model's reading (DEDUCED, log entry 68). -/
def State.idleSend (s : State) (k : Int) : State :=
  if s.audio.next.isSome || (s.audio.runs.any fun r => decide (k ≤ r.k)) || decide (s.net.idle = some k) || decide (s.index < s.deadlineIndex k) ||
    decide (s.deadlineIndex (k + 1) ≤ s.index) then s
  else
    let t := s.streamSend (k * s.q)
    { t with net := { t.net with idle := some k } }

/-- SINK_DEADLINE (R246 to R248): transmit DMA takes the quantum, streams send it, and it is signed; after a stop, the last quantum is
retired, and streams send zeros (R38). -/
def sinkDeadline (k : Int) (s : State) : State :=
  match s.deadlineDue k with
  | none => (match s.lastRun k with
    | some b => (s.retireRun b).captureOps b.k (b.open_.flatMap (b.opsOf s.q))
    | none => s).idleSend k
  | some r =>
    let s1 := ((s.deadline r).claimRamp r).streamSend (r.first s.q + r.shift)
    let s2 := if s.twin.enabled then s1.signQuantum r (s.excusing r) else s1
    match s.runBefore r with
    | some b => s2.captureOps b.k (b.open_.flatMap (b.opsOf s.q))
    | none => s2

end Sys2Proof.Machine
end

