-- ==== Sys2Proof/Machine/RegView.lean ====
section
/-! DEFINITION. What the registers show (R467 to R487, and the register tables of the other chapters): registers whose value follows from
the rest of the state, the interrupt sources, IRQ_N, and the SPI status octet. -/
namespace Sys2Proof.Machine

/-- Blocks that take posted writes (Table 16-2). -/
def blockPosted (b : Nat) : Bool := [2, 5, 6, 20, 21, 22, 23, 24, 25, 26, 27, 28, 29, 30, 31, 32, 33, 34, 35].contains b

/-- Bits 0 and 1 of a posted block's status register (R472). -/
def State.postedBits (s : State) (b : Nat) : Nat := flagBit (AMap.has s.posted b) 0 + flagBit (bitOf (s.reg (b * 1024)) 1) 1

/-! ### Interrupt sources (R479, R481) -/

/-- A block source: an enabled event bit is set. -/
def State.blockSource (s : State) (evt en : Nat) : Bool := (s.reg evt &&& s.reg en) != 0

/-- SAPG sources by group (IRQ_SAPG). -/
def State.irqSapg (s : State) : Nat := nsum ((List.range 12).map fun g => flagBit (s.blockSource (rSapgEvt + 0x400 * g) (rSapgEvten + 0x400 * g)) g)

/-- Source i of Table 16-3. -/
def State.irqSource (s : State) (i : Nat) : Bool :=
  if i < 8 then decide ((s.chan i).rprod ≠ (s.chan i).rcons) && bitOf (s.reg (rCmdCfg + 32 * i)) 1
  else match i with
    | 8 => !(s.chan 8).out.isEmpty
    | 9 => s.blockSource rEvtEvt rEvtEvten
    | 10 => s.blockSource rSchEvt rSchEvten
    | 11 => decide (s.irqSapg ≠ 0)
    | 12 => s.blockSource rTimEvt rTimEvten
    | 13 => s.blockSource rClkEvt rClkEvten
    | 18 => s.blockSource rSteEvt rSteEvten
    | 19 => s.blockSource rZenEvt rZenEvten || s.blockSource rZenNevt rZenNevten
    | 23 => s.blockSource rTwnEvt rTwnEvten
    | 24 => s.blockSource rTwlEvt rTwlEvten
    | 25 => s.blockSource rTapEvt rTapEvten
    | 26 => s.blockSource rRpcEvt rRpcEvten
    | 27 => s.blockSource rDrmEvt rDrmEvten
    | 28 => s.blockSource rBmxEvt rBmxEvten
    | _ =>
      if 14 ≤ i ∧ i ≤ 17 then s.blockSource (rMacEvt + 0x400 * (i - 14)) (rMacEvten + 0x400 * (i - 14))
      else if 20 ≤ i ∧ i ≤ 22 then s.blockSource (rZenEvt + 0x400 * (i - 19)) (rZenEvten + 0x400 * (i - 19)) else false

/-- IRQ_PEND. -/
def State.irqPend (s : State) : Nat := nsum ((List.range 29).map fun i => flagBit (s.irqSource i) i)

/-- IRQ_PIN.ASSERT (R481). -/
def State.irqPin (s : State) : Bool := (w32 s.irqPend &&& s.reg rIrqEnpin) != 0

/-- IRQ_N is low: from READY on under R481, before it always (Table 18-4, step 8). -/
def State.irqLow (s : State) : Bool := !s.takes || s.irqPin

/-- The SPI status octet (Table 14-5, R412). -/
def State.spiStatus (s : State) : Nat :=
  flagBit (s.takes && (s.chan 8).waiting.isEmpty && s.replyRoom 8) 0 + flagBit (!(s.chan 8).out.isEmpty) 1 + flagBit s.irqPin 2 + flagBit s.spi.lost 3

/-! ### GLB, IRQ, CMD, EVT, TAP -/

/-- Blocks from `first` on whose WLOST is set (R482). -/
def State.wlostBits (s : State) (first n : Nat) : Nat :=
  nsum ((List.range n).map fun i => flagBit (blockPosted (first + i) && bitOf (s.reg ((first + i) * 1024)) 1) i)

/-- GLB and IRQ registers that follow from the state. -/
def State.viewGlb (s : State) (a : Nat) : Option Nat :=
  if a = rGlbState then some (s.run.code + s.twin.state.code * 2 ^ 4 + flagBit s.dramOn 7 + s.halt * 2 ^ 8 + s.pd % 2 ^ 16 * 2 ^ 16)
  else if a = rGlbRev then some (siliconRevision + fuseLetter * 2 ^ 16)
  else if a = rGlbWlost0 then some (s.wlostBits 0 32)
  else if a = rGlbWlost1 then some (s.wlostBits 32 4)
  else if a = rIrqPend then some s.irqPend
  else if a = rIrqPin then some (b2n s.irqPin)
  else if a = rIrqSapg then some s.irqSapg
  else none

/-- CMD_GSTAT: channels enabled, and those that execute a command. -/
def State.cmdGstat (s : State) : Nat :=
  nsum ((List.range 8).map fun n => flagBit (bitOf (s.reg (rCmdCfg + 32 * n)) 0) n + flagBit ((s.chan n).hold.isSome) (8 + n))

/-- CMD registers that follow from the state (Table 16-6). -/
def State.viewCmd (s : State) (a : Nat) : Option Nat :=
  if a = rCmdGstat then some s.cmdGstat
  else if a = rCmdSpi then some (s.spiStatus % 16)
  else if rCmdCfg ≤ a ∧ a < rCmdCfg + 256 then
    let c := s.chan ((a - rCmdCfg) / 32)
    if (a - rCmdCfg) % 32 = 0x0C then some c.ctail.toNat
    else if (a - rCmdCfg) % 32 = 0x10 then some c.rcons.toNat
    else if (a - rCmdCfg) % 32 = 0x14 then some (c.chead.toNat + c.rprod.toNat * 2 ^ 16)
    else none
  else none

/-- EVT and TAP registers that follow from the state. -/
def State.viewEvt (s : State) (a : Nat) : Option Nat :=
  if a = rEvtNewest then some s.newest else if a = rEvtOldest then some s.oldest
  else if a = rTapStatus then some (s.postedBits 34) else if a = rTapStreams then some s.sap.taps.length else none

/-! ### Clocks and time (Tables 10-8 and 10-9) -/

/-- Synthesisers that run: MCG g of a master group from its arming on, MCG12 while WCLK_OUT is in use. -/
def State.mcgLock (s : State) : Nat :=
  nsum ((List.range 12).map fun g => flagBit ((s.sapGroup g).master && decide ((s.sapGroup g).state ≠ .off)) g) + flagBit (bitOf s.tu.mcg 12) 12

/-- Low and high word of a nonnegative or two's-complement 64-bit value. -/
def half (v : Int) (high : Bool) : Nat := if high then (hi32 v).toNat else (lo32 v).toNat

/-- CLK registers. -/
def State.viewClk (s : State) (a : Nat) : Option Nat :=
  if a = rClkStatus then
    some (s.postedBits 6 + flagBit s.tu.refLost 2 + nsum (s.tu.locks.zipIdx.map fun (x : Bool × Nat) => flagBit x.1 (3 + x.2)))
  else if a = rClkGood then some s.tu.good.toNat
  else if a = rClkMcg then some s.mcgLock
  else if a = rClkRefcnt then some (s.refCount s.refWindows)
  else none

/-- TIM registers. -/
def State.viewTim (s : State) (a : Nat) : Option Nat :=
  let u := s.tu
  if a = rTimStatus then
    some (s.postedBits 5 + flagBit u.snapValid 2 + flagBit u.runs 3 + flagBit u.servo.rlim 4 + u.servo.state.code * 2 ^ 5 + u.source.code * 2 ^ 8)
  else firstHit [(decide (a = rTimRawlo), half u.snapRaw false), (decide (a = rTimRawhi), half u.snapRaw true),
    (decide (a = rTimNslo), half (fdivI u.snapTime nsUnit) false), (decide (a = rTimNshi), half (fdivI u.snapTime nsUnit) true),
    (decide (a = rTimFrac), half u.snapTime false), (decide (a = rTimMedlo), half u.snapIndex false), (decide (a = rTimMedhi), half u.snapIndex true),
    (decide (a = rTimRatelo), u.rate % 2 ^ 32), (decide (a = rTimRatehi), u.rate / 2 ^ 32 % 2 ^ 16),
    (decide (a = rTimTheta), half (satBits 32 (fdivI u.servo.theta nsUnit)) false), (decide (a = rTimPathdly), half (satBits 32 (fdivI u.ptp.meanDelay nsUnit)) false),
    (decide (a = rTimPpslo), half (fdivI u.ppsTime nsUnit) false), (decide (a = rTimPpshi), half (fdivI u.ppsTime nsUnit) true),
    (decide (a = rTimPpscnt), u.ppsCount % 2 ^ 32), (decide (a = rTimOrigin), half u.origin false), (decide (a = rTimOriginhi), half u.origin true)]

/-! ### Engines (Tables 06-3 and 08-5) -/

/-- Dike channels' state between quanta. -/
def State.dikeMems (s : State) : List DikeMem :=
  (s.graphNow.ofKind 0x28).flatMap fun x => match (AMap.find s.audio.mem x.1).map OpMem.st with | some (OpState.dike ds) => ds | _ => []

/-- DKE and SCH registers. -/
def State.viewEngine (s : State) (a : Nat) : Option Nat :=
  firstHit [(decide (a = rDkeStatus), s.postedBits 33 + flagBit s.dramOn 2), (decide (a = rDkeChans), s.cfg.dike.length),
    (decide (a = rDkeMuted), s.dikeMems.countP fun d => decide (d.mgain = 0)), (decide (a = rDkeLimact), s.dikeMems.countP fun d => decide (d.g < 2 ^ 30)),
    (decide (a = rSchStatus), s.postedBits 32 + flagBit (decide (s.run = .running)) 2 + flagBit (decide (poolSize ≤ s.audio.ready.length)) 3),
    (decide (a = rSchInflight), s.inFlight + s.regFld rSchInflight 23 16 * 2 ^ 16), (decide (a = rSchReady), s.audio.ready.length + s.regFld rSchReady 28 16 * 2 ^ 16),
    (decide (a = rSchBitmap), s.audio.bitmap.length)]

/-! ### Ports (Tables 09-7, 11-8, 11-9, 12-6) -/

/-- Code of a group state (Table 09-9). -/
def SapState.code : SapState → Nat
  | .off => 0 | .armed => 1 | .quiet => 2 | .run => 3 | .stopped => 4 | .ratehold => 5 | .rejoin => 6 | .closing => 7

/-- The witness entry shown (SAPG_WTSEL). -/
def State.witnessHead (s : State) : Option Witness := (s.sap.witness.getD (s.regFld rSapgWtsel 1 0) {}).fifo.head?

/-- SAPG registers. -/
def State.viewSapg (s : State) (a : Nat) : Option Nat :=
  let g := (a - rSapgStatus) / 0x400
  let o := (a - rSapgStatus) % 0x400
  let x := s.sapGroup g
  if o = 0 then some (x.state.code + flagBit (s.fencedAt s.index) 3 + x.set.getD 15 * 2 ^ 4 + x.xrun % 16 * 2 ^ 8)
  else if o = 4 then some x.cfg0.toNat
  else if o = 8 then some x.cfg1.toNat
  else if g ≠ 0 then none
  else
    let h := s.witnessHead
    firstHit [(decide (a = rSapgWitlvl), nsum (s.sap.witness.zipIdx.map fun (u : WitnessUnit × Nat) => u.1.fifo.length % 128 * 2 ^ (8 * u.2))),
      (decide (a = rSapgWts0), h.elim 0 fun w => half w.index false), (decide (a = rSapgWts1), h.elim 0 fun w => half w.ns false),
      (decide (a = rSapgWts2), h.elim 0 fun w => half w.ns true), (decide (a = rSapgWts3), h.elim 0 fun w => 1 + flagBit w.gap 1)]

/-- MAC registers. -/
def State.viewMac (s : State) (a : Nat) : Option Nat :=
  let m := (a - rMacStatus) / 0x400
  let x := s.mac m
  match (a - rMacStatus) % 0x400 with
  | 0 => some (s.postedBits (20 + m) + flagBit x.link 2 + fld (x.w 4) 5 4 * 2 ^ 4 + flagBit x.heldUntil.isSome 6 + flagBit x.pausing 7)
  | 4 => some (x.w 4).toNat
  | 8 => some (x.w 5).toNat
  | 0xC => some (fld (x.w 6) 15 0)
  | 0x10 => some (min x.fill (2 ^ 18 - 1))
  | _ => none

/-- STE registers. -/
def State.viewSte (s : State) (a : Nat) : Option Nat :=
  firstHit [(decide (a = rSteStatus), s.postedBits 24), (decide (a = rSteRxcount), s.net.rx.length + s.net.rxChans * 2 ^ 16),
    (decide (a = rSteTxcount), s.net.tx.length + s.net.txChans * 2 ^ 16), (decide (a = rSteDown), s.net.rx.vals.countP (·.down))]

/-- Codes of ZEN_STATUS.PSTATE and ROLE. -/
def ZenPortState.code : ZenPortState → Nat
  | .off => 0 | .training => 1 | .up => 2 | .down => 3
/-- Codes of ZEN_STATUS.ROLE. -/
def ZenRole.code : ZenRole → Nat
  | .unused => 0 | .upstream => 1 | .downstream => 2 | .branch => 3

/-- ZEN port registers. -/
def State.viewZenPort (s : State) (p o : Nat) : Option Nat :=
  let x := s.zport p
  match o with
  | 0 => some (s.postedBits (25 + p) + flagBit x.lock 2 + flagBit x.hiber 3 + x.state.code * 2 ^ 4 +
      (if s.zenOn p then (zenRole s.zen.mode p).code else 0) * 2 ^ 6 + flagBit (s.headShown p) 8)
  | 4 => some (x.peer + x.peerPort * 2 ^ 12 + flagBit x.peerValid 14)
  | 8 => some x.delay
  | 0xC => some x.arrive
  | 0x10 => some (half x.lastLabel false)
  | _ => none

/-- ZEN node registers, in block 25. -/
def State.viewZenNode (s : State) (a : Nat) : Option Nat :=
  let t := s.topology
  let z := s.zen
  let map := z.mapAt s.index
  firstHit [(decide (a = rZenNode), z.node + flagBit z.isRoot 12 + flagBit z.rootEn 13 + z.mode * 2 ^ 14 + s.topoState t * 2 ^ 16 + flagBit z.budget 19 +
      z.topGen * 2 ^ 20 + flagBit z.pmis 28 + flagBit z.clash.isSome 29),
    (decide (a = rZenRoot), z.root + (if z.enabled then t.order.length else 0) * 2 ^ 16), (decide (a = rZenPoff), z.p + (if z.enabled then t.pmin z.mode s.fs else 0) % 2 ^ 13 * 2 ^ 16),
    (decide (a = rZenLapdly), if z.enabled then t.dlap z.mode % 2 ^ 24 else 0), (decide (a = rZenMapchk), map.check + map.areas.length * 2 ^ 16)]

/-! ### Twin (Tables 13-12 and 13-13) -/

/-- TWN_LEASE: age of the last renewal in µs, PINOK, LINKOK, ALIVEIN. -/
def State.twnLease (s : State) : Nat :=
  let t := s.twin
  let near := fun (x : Option Nat) => x.any fun y => decide (s.now < y + ticksOfUs 1100)
  let last := if t.state = .active then t.sentAt else t.renewAt
  (if t.enabled then min 1023 ((s.now - last) / 400) else 0) + flagBit (near t.pulseAt) 16 + flagBit (near t.frameAt) 17 + flagBit t.aliveIn 18

/-- TWN registers. -/
def State.viewTwn (s : State) (a : Nat) : Option Nat :=
  let t := s.twin
  let sig := t.sigs.head?
  firstHit [(decide (a = rTwnStatus), s.twnStatus), (decide (a = rTwnCfg), (s.reg rTwnCfg).toNat / 2 * 2 + b2n t.enabled), (decide (a = rTwnEpoch), t.epoch % 2 ^ 32),
    (decide (a = rTwnLease), s.twnLease), (decide (a = rTwnSiglo), sig.elim 0 fun x => x.value % 2 ^ 32), (decide (a = rTwnSighi), sig.elim 0 fun x => x.value / 2 ^ 32 % 2 ^ 32),
    (decide (a = rTwnSigidx), sig.elim 0 fun x => half x.index false), (decide (a = rTwnHeal), s.healRemain), (decide (a = rTwnSkew), half (satBits 32 t.skew) false),
    (decide (a = rTwnPhase), half s.largestResidual false % 2 ^ 16)]

/-- TWL registers. -/
def State.viewTwl (s : State) (a : Nat) : Option Nat :=
  let t := s.twin
  firstHit [(decide (a = rTwlStatus), s.postedBits 29 + flagBit t.lock 2 + t.pstate % 4 * 2 ^ 3), (decide (a = rTwlDelay), t.delay % 2 ^ 20),
    (decide (a = rTwlMirror), s.graphNow.mirrorKeys.length % 2 ^ 14), (decide (a = rTwlSnapkib), t.snapKib % 2 ^ 24)]

/-! ### Memory (Tables 17-7 and 17-8) -/

/-- Polder states from polder `first` on. -/
def State.polst (s : State) (first : Nat) : Nat := nsum ((List.range 16).map fun i => (s.mem.polders.getD (first + i) .off).code * 4 ^ i)

/-- The tick of the last read of a measured register. -/
def State.readTick (s : State) (a : Nat) : Nat := AMap.getD s.mem.readAt a 0

/-- Time has passed since a measured register was last read and its RC field cleared (R12). -/
def State.unread (s : State) (a : Nat) : Bool := !AMap.has s.mem.readAt a || decide (s.readTick a < s.now)

/-- BMX registers. -/
def State.viewBmx (s : State) (a : Nat) : Option Nat :=
  if rBmxOutst ≤ a ∧ a < rBmxOutst + 64 then
    let v := (Config.outstanding s.now ((a - rBmxOutst) / 4)).toNat
    let cur := min 64 (v % 128)
    some (if s.takes then cur + (if s.unread a then max cur (min 64 (v / 128)) else cur) * 2 ^ 16 else 0)
  else firstHit [(decide (a = rBmxStatus), s.postedBits 31 + flagBit (s.mem.polders.contains .retain) 2), (decide (a = rBmxPolst0), s.polst 0), (decide (a = rBmxPolst1), s.polst 16)]

/-- DRM registers. -/
def State.viewDrm (s : State) (a : Nat) : Option Nat :=
  let d := s.dram
  firstHit [(decide (a = rDrmStatus), s.postedBits 30 + flagBit s.dramOn 2 + d.op % 4 * 2 ^ 3 + flagBit d.setB 5 + flagBit (!s.dramOn || d.change.isSome) 6 +
      nsum (d.chans.zipIdx.map fun (x : SelfRefresh × Nat) => flagBit (decide (x.1 ≠ .active)) (7 + x.2))),
    (decide (a = rDrmCfg), if s.dramOn then fld ((s.boardSection 1).elim 0 fun ws => ws.headD 0) 1 0 + d.grain % 16 * 2 ^ 4 + s.dramMiB % 2 ^ 15 * 2 ^ 16 else 0),
    (decide (a = rDrmFwdcnt), if s.dramOn && s.unread a then (Config.dramForwarded (s.readTick a) s.now).toNat else 0),
    (decide (a = rDrmLatmax), if s.dramOn && s.unread a then (Config.dramLatency (s.readTick a) s.now).toNat else 0)]

/-! ### RPC and FUS (Tables 18-8 and 18-9) -/

/-- A block that owns a ball has configured it (R524; which configuration does so is the model's reading of the ball's net). -/
def State.ballConf (s : State) (n : BallNet) : Bool :=
  match n with
  | .sapD p => AMap.has s.sap.groups (p / 4)
  | .sapBclk g => AMap.has s.sap.groups g
  | .sapFs g => AMap.has s.sap.groups g
  | .dram _ _ => s.dramOn
  | .dramRst => s.dramOn
  | .eth m _ _ => (s.mac m).enabled
  | .zl m _ _ => s.zenOn m
  | .twl _ _ => s.twin.enabled
  | .pcie _ _ _ => s.pd.testBit 15
  | .mclkIn n => decide (s.tu.source = .mclk) && decide (s.tu.mclkIn = n)
  | .wclkIn => decide (s.tu.source = .wclk)
  | .wclkOut => decide (s.tu.wclkMode ≠ 0)
  | .ppsOut => s.tu.ppsEnable
  | .startOut => s.sap.sets.any fun x => x.2.startOut
  | .leaseOut => s.twin.enabled
  | .aliveOut => s.twin.enabled
  | .leaseIn => s.twin.enabled
  | .aliveIn => s.twin.enabled
  | .irqN => s.takes
  | .gpio n => bitOf (s.reg rRpcGpio) (16 + n)
  | _ => false

/-- A level driven on a ball. -/
def Pad.driven (v : Bool) : Pad := if v then .high else .low

/-- LEASE_OUT is high: in a pulse of 2.0 µs, a renewal, or of 1.0 µs, an acknowledgement (R377, Table 13-4). -/
def State.leaseHigh (s : State) : Bool := s.twin.pulseOut.any fun x => decide (s.now < x.1 + ticksOfUs (if x.2 then 2 else 1))

/-- What stands on ball i: its code of the fuse map until the block that owns it has configured it, code 0 for a map that failed its check;
then the level driven. None where the level follows a signal in time (ports, lanes, the DRAM bus) or comes from outside (R481, R524, R525,
R549, and what follows Table 19-9). -/
def State.pad (s : State) (i : Nat) : Option Pad :=
  let n := ballNet i
  if n = .thermAlertN then some (if s.rpc.therm then .low else .hiZ)
  else if !s.ballConf n then (if n.supply then none else some (Pad.ofCode (if s.rpc.fuseRead && s.rpc.fuseOk then fuseCode i else 0)))
  else match n with
    | .irqN => some (if s.irqLow then .low else .hiZ)
    | .gpio k => some (.driven (bitOf (s.reg rRpcGpio) k))
    | .wclkOut => some (.driven s.wclkOut)
    | .ppsOut => some (.driven s.ppsOut)
    | .startOut => some (.driven s.startOutHigh)
    | .leaseOut => some (.driven s.leaseHigh)
    | .aliveOut => some (.driven s.twin.aliveOut)
    | .dramRst => some .high
    | _ => none

/-- Mask of the RPC status bits of the rails below warning. -/
def Rpc.warned (r : Rpc) (rail : Nat) : Bool := r.warn.any fun x => decide (x.rail = rail)

/-- RPC_VCORE or RPC_VAON: the level now, and the lowest since the last read, which is no higher; the Reset column until READY (DESIGN CHOICE,
log entry 4). -/
def State.railWord (s : State) (a now low : Nat) : Nat :=
  if s.takes then now + min now (min low (s.regFld a 27 16)) * 2 ^ 16 else s.regFld a 27 16 * 2 ^ 16

/-- RPC registers. -/
def State.viewRpc (s : State) (a : Nat) : Option Nat :=
  firstHit [(decide (a = rRpcStatus), s.postedBits 2 + flagBit (s.rpc.warned 0) 2 + flagBit (s.rpc.warned 1) 3 + flagBit s.keepOk 4),
    (decide (a = rRpcPdstat), s.pd % 2 ^ 16 + s.rpc.busy % 2 ^ 16 * 2 ^ 16),
    (decide (a = rRpcVcore), s.railWord rRpcVcore (Config.vddCore s.free).toNat (Config.vddLow s.free 0).toNat),
    (decide (a = rRpcVaon), s.railWord rRpcVaon (Config.vddAon s.free).toNat (Config.vddLow s.free 1).toNat), (decide (a = rRpcKeepcrc), s.keepCrc.toNat),
    (decide (a = rRpcGpioin), if s.takes then (Config.gpioIn s.free).toNat else 0)]

/-- The ball that FUS_BALLSEL selects; higher values act as 1,443. -/
def State.ballSel (s : State) : Nat := min 1443 (s.regFld rFusBallsel 10 0)

/-- FUS registers: the fused fields show 0 until the macro is read. -/
def State.viewFus (s : State) (a : Nat) : Option Nat :=
  let show_ := fun (n : Nat) => if s.rpc.fuseRead then n else 0
  firstHit [(decide (a = rFusStatus), s.postedBits 35 + flagBit s.rpc.fuseOk 2), (decide (a = rFusMap), show_ (fuseLetter + gradeLetter * 2 ^ 8)),
    (decide (a = rFusSerlo), show_ (Config.serial.toNat % 2 ^ 32)), (decide (a = rFusSerhi), show_ (Config.serial.toNat / 2 ^ 32)),
    (decide (a = rFusBallcode), (if s.rpc.fuseRead && s.rpc.fuseOk then fuseCode s.ballSel else 0) + flagBit (s.ballConf (ballNet s.ballSel)) 8),
    (decide (a = rFusCrc), show_ Config.fuseCrc.toNat)]

/-! ### The value of a register -/

/-- Registers whose value follows from the state, by block. -/
def State.view (s : State) (a : Nat) : Option Nat :=
  let b := a / 1024
  if b ≤ 1 then s.viewGlb a
  else if b = 2 then s.viewRpc a
  else if b = 3 then s.viewTwn a
  else if b = 4 then s.viewCmd a
  else if b = 5 then s.viewTim a
  else if b = 6 then s.viewClk a
  else if b = 7 then s.viewEvt a
  else if b ≤ 19 then s.viewSapg a
  else if b ≤ 23 then s.viewMac a
  else if b = 24 then s.viewSte a
  else if b ≤ 28 then (if a % 1024 < 0x40 then s.viewZenPort (b - 25) (a % 1024) else if b = 25 then s.viewZenNode a else none)
  else if b = 29 then s.viewTwl a
  else if b = 30 then s.viewDrm a
  else if b = 31 then s.viewBmx a
  else if b ≤ 33 then s.viewEngine a
  else if b = 34 then s.viewEvt a
  else s.viewFus a

/-- What a read of the register at a decoded MW0 offset returns; 0 where no register lies (R470). -/
def State.regValue (s : State) (a : Nat) : Word :=
  if (regRowOf a).isNone then 0 else match s.view a with | some v => w32 v | none => s.reg a

end Sys2Proof.Machine
end

