-- ==== Sys2Proof/Machine/Power.lean ====
section
/-! DEFINITION. Power domains, blocks and their resets (R25 to R28, R448, R516 to R519, R528, R529, R535): what a graph uses, what a reset
clears, RESET_SCOPE, and RPC_PDREQ. -/
namespace Sys2Proof.Machine

/-! ### What is in use (Tables 01-7 and 18-5) -/

/-- The graphs committed: in force, and accepted for later. -/
def State.committed (s : State) : List Graph := s.graphNow :: s.pendingGraphs

/-- A committed graph has an operation of one of some kinds. -/
def State.usesKinds (s : State) (ks : List Nat) : Bool := s.committed.any fun g => g.ops.any fun x => ks.contains x.2.kind

/-- An operation is placed on Reed cluster n (R231). -/
def State.usesCluster (s : State) (n : Nat) : Bool :=
  (s.cfg.graph.any fun a => a.clusters.vals.contains n) || s.changes.any fun c => c.graph.any fun g => (g.admitted s fun _ => 0).clusters.vals.contains n

/-- A graph needs the DRAM. -/
def State.usesDram (s : State) : Bool := s.committed.any fun g => decide (0 < g.dramRate s)

/-- Operations whose ports belong to SAP group g. -/
def State.usesGroup (s : State) (g : Nat) : Bool := s.committed.any fun gr => gr.sapOps.any fun x => decide (x.2.sapPort / 4 = g)

/-- Streams or PTP use MAC m. -/
def State.usesMac (s : State) (m : Nat) : Bool :=
  (s.net.rx.any fun x => decide (x.2.mac = m) || (x.2.dual && decide (x.2.mac2 = m))) ||
  (s.net.tx.any fun x => decide (x.2.mac = m) || (x.2.dual && decide (x.2.mac2 = m))) || (s.tu.ptp.enabled && decide (s.tu.ptp.mac = m))

/-- A block is in use while RUNNING (Table 18-5). -/
def State.blockUsed (s : State) (code : Nat) : Bool :=
  match code with
  | 0x01 => true
  | 0x02 => s.usesKinds [0x18, 0x19]
  | 0x03 => s.usesKinds [0x20]
  | 0x04 => true
  | 0x24 => !s.net.rx.isEmpty || !s.net.tx.isEmpty
  | 0x2C => s.twin.enabled
  | 0x30 => s.dramOn
  | 0x31 => !s.sap.taps.isEmpty
  | c =>
    if 0x08 ≤ c ∧ c ≤ 0x0D then s.usesCluster (c - 8)
    else if 0x10 ≤ c ∧ c ≤ 0x1B then s.usesGroup (c - 0x10)
    else if 0x20 ≤ c ∧ c ≤ 0x23 then s.usesMac (c - 0x20)
    else if 0x28 ≤ c ∧ c ≤ 0x2B then s.zenOn (c - 0x28)
    else false

/-- The codes of Table 18-5. -/
def blockKnown (c : Nat) : Bool :=
  [1, 2, 3, 4, 0x24, 0x2C, 0x30, 0x31].contains c || (decide (0x08 ≤ c) && decide (c ≤ 0x0D)) || (decide (0x10 ≤ c) && decide (c ≤ 0x1B)) ||
  (decide (0x20 ≤ c) && decide (c ≤ 0x23)) || (decide (0x28 ≤ c) && decide (c ≤ 0x2B))

/-- Blocks of a domain (Table 18-5). -/
def domainBlocks (d : Nat) : List Nat :=
  match d with
  | 2 => [1, 2, 3, 4]
  | 11 => span 0x10 12
  | 12 => span 0x20 5
  | 13 => span 0x28 5
  | 14 => [0x30]
  | 15 => [0x31]
  | n => if 5 ≤ n ∧ n ≤ 10 then [0x08 + (n - 5)] else []

/-- Master port of a block (Table 18-5). -/
def blockPort (c : Nat) : Option Nat :=
  match c with
  | 0x02 => some 3 | 0x03 => some 4 | 0x04 => some 5 | 0x24 => some 12 | 0x2C => some 2 | 0x31 => some 15
  | c => if 0x08 ≤ c ∧ c ≤ 0x0D then some (c - 2) else if 0x10 ≤ c ∧ c ≤ 0x1B then some 0 else if 0x20 ≤ c ∧ c ≤ 0x23 then some 12
    else if 0x28 ≤ c ∧ c ≤ 0x2B then some 1 else none

/-- The domain that a domain requires (Table 01-7). -/
def domainNeeds (d : Nat) : Option Nat := if d = 0 then none else if d = 1 then some 0 else if d = 2 then some 1 else some 2

/-- A domain and every domain that requires it, directly or through others (R517). -/
def domainClosure (d : Nat) : List Nat := if d = 1 then span 1 15 else if d = 2 then span 2 14 else [d]

/-- A committed graph uses a domain (R27). -/
def State.graphUses (s : State) (d : Nat) : Bool :=
  match d with
  | 3 => s.committed.any fun g => !(g.convPolders s.highRate).isEmpty
  | 4 => true
  | 11 => s.usesKinds [0x01, 0x08]
  | 12 => s.usesKinds [0x02, 0x09]
  | 13 => s.usesKinds [0x03, 0x0A]
  | 14 => s.usesDram
  | 15 => s.usesKinds [0x04, 0x0B]
  | n => if 5 ≤ n ∧ n ≤ 10 then s.usesCluster (n - 5) else true

/-- A domain, or one that requires it, is in use while RUNNING. -/
def State.domainUsed (s : State) (d : Nat) : Bool :=
  (domainClosure d).any fun x => (s.cfg.graph.isSome && s.graphUses x) || (domainBlocks x).any fun b => s.blockUsed b

/-! ### Register blocks at reset -/

/-- Blocks of registers take their reset values, but for RWS fields. -/
def State.resetRegs (s : State) (blocks : List Nat) : State :=
  { s with regs := s.regs.filter (fun x => !blocks.contains (x.1 / 1024)), posted := s.posted.filter fun x => !blocks.contains x.1 }

/-! ### What a BLOCK reset clears (Table 18-5, R529) -/

/-- Operations of a Reed cluster lose their state (R28). -/
def State.resetCluster (s : State) (n : Nat) : State :=
  let placed := (s.cfg.graph.elim [] (·.clusters)).filter fun x => decide (x.2 = n)
  { s with audio := { s.audio with mem := s.audio.mem.filter fun x => !(placed.any fun y => decide (y.1 = x.1)) } }

/-- The convolution area is lost: filters in force, swaps and histories; the staging slots are DRAM and stay, but for those that a swap
held. -/
def State.resetConvArea (s : State) : State :=
  { s with cfg := { s.cfg with conv := [] },
           audio := { s.audio with slotsConv := s.audio.slotsConv.filter fun x => decide (x.2.phase ≠ .swapping),
                                   mem := s.audio.mem.filter fun x => match x.2.st with | .conv _ _ _ => false | _ => true } }

/-- The CVE is lost, its staging slots FREE (Table 05-2). -/
def State.resetConv (s : State) : State := { s.resetConvArea with audio := { s.resetConvArea.audio with slotsConv := [] } }

/-- Object state is lost; C is that of the last mesh since the last WARM reset (R80). -/
def State.resetSerpent (s : State) : State :=
  { s with cfg := { s.cfg with serpent := { centre := s.cfg.serpent.centre } }, audio := { s.audio with objs := [] } }

/-- Polders 16 to 31 are lost (Table 17-2): object histories; graph buffers, delayed edges, Sluice banks and crossfades; scheduler
lists, tag histories and operation state. -/
def State.resetPolB (s : State) : State :=
  { s with cfg := { s.cfg with sluice := {} }, chans := AMap.mapVal s.chans fun c => { c with hist := [] },
           audio := { s.audio.stop with objs := AMap.mapVal s.audio.objs fun m => { m with hist := [] }, rings := [], outs := [], bufs := [],
                                        lines := [], mem := [], delays := [] } }

/-- Sluice and Dike settings take their defaults. -/
def State.resetSluice (s : State) : State :=
  { s with cfg := { s.cfg with sluice := {}, dike := dikeReplaced none [] s.graphNow s.curFirst, stopRamp := none },
           audio := { s.audio with mem := s.audio.mem.filter fun x => match x.2.st with | .dike _ => false | _ => true } }

/-- A MAC takes its reset values; its Damuri channel is disabled. -/
def State.resetMac (s : State) (m : Nat) : State :=
  (({ s with net := { s.net with macs := AMap.del s.net.macs m } }.resetRegs [20 + m]).resetChannel (9 + m))

/-- A SAP group is OFF, its registers at their reset values; the witness units at 0x040 of group 0 serve every group and stay. -/
def State.resetGroup (s : State) (g : Nat) : State :=
  let groups := AMap.del s.sap.groups g
  { s with sap := { s.sap with groups := groups, sets := s.sap.sets.filter fun y => groups.any fun x => decide (x.2.set = some y.1) },
           regs := s.regs.filter fun x => !(decide (x.1 / 1024 = 8 + g) && decide (x.1 % 1024 < 0x40)) }

/-- The DRAM controller is stopped; what the DRAM held is lost. -/
def State.resetDram (s : State) : State :=
  { s with dramOn := false, dram := {}, mem := { s.mem with slots := [], save := none } }.resetRegs [30]

/-- The PCIe endpoint and the tap DMA: the link is down and the command channels are reset (R518). -/
def State.resetPcie (s : State) : State :=
  ((List.range 8).foldl (fun (s : State) n => s.resetChannel n)
    { s with pcie := false, msixEnable := false, msixMask := false, sap := { s.sap with tapOut := [] } }).resetRegs [34]

/-- The Twin Link lane (R394). -/
def State.resetTwl (s : State) : State := ((twlLockLoss s).updTwin fun t => { t with pstate := 0 }).resetRegs [29]

/-- A block's contents take their reset values (R516, R529). -/
def State.resetBlock (s : State) (code : Nat) : State :=
  match code with
  | 0x01 => { s with audio := { s.audio.stop with outs := [], delays := [] } }.resetRegs [32]
  | 0x02 => s.resetSerpent
  | 0x03 => s.resetConv
  | 0x04 => s.resetSluice.resetRegs [33]
  | 0x24 => { s with net := { s.net with rx := [], tx := [], txOld := [] } }.resetRegs [24]
  | 0x2C => s.resetTwl
  | 0x30 => s.resetDram
  | 0x31 => s.resetPcie
  | c =>
    if 0x08 ≤ c ∧ c ≤ 0x0D then s.resetCluster (c - 8)
    else if 0x10 ≤ c ∧ c ≤ 0x1B then s.resetGroup (c - 0x10)
    else if 0x20 ≤ c ∧ c ≤ 0x23 then s.resetMac (c - 0x20)
    else if 0x28 ≤ c ∧ c ≤ 0x2B then (s.updZport (c - 0x28) fun _ => {}).resetRegs [25 + (c - 0x28)]
    else s

/-! ### What a DOMAIN reset clears (Table 01-7, R516, R517) -/

/-- The contents of one domain. -/
def State.resetContents (s : State) (d : Nat) : State :=
  match d with
  | 2 => { s with cfg := { serpent := { centre := s.cfg.serpent.centre } }, audio := {}, changes := s.changes.filter (fun c => c.graph.isNone), build := none,
                  mem := { polders := s.mem.polders, slots := s.mem.slots, host := s.mem.host } }.resetRegs [31, 32, 33]
  | 3 => s.resetConvArea.eachPolder fun p x => if p < 16 then .off else x
  | 4 => s.resetPolB.eachPolder fun p x => if p < 16 then x else .off
  | 11 => { s with sap := { taps := s.sap.taps, tapDone := s.sap.tapDone } }.resetRegs ((List.range 12).map (8 + ·))
  | 12 => ((List.range 4).foldl (fun (s : State) m => s.resetMac m) { s with net := {} }).resetRegs [24]
  | 13 => ({ s with zen := {} }.resetRegs [25, 26, 27, 28]).resetTwl
  | 14 => s.resetDram
  | 15 => s.resetPcie
  | n => if 5 ≤ n ∧ n ≤ 10 then s.resetCluster (n - 5) else s

/-- Bit d of the domains on and released. -/
def State.powered (s : State) (d : Nat) : Bool := s.pd.testBit d

/-- Set or clear a domain's bit. -/
def State.setPowered (s : State) (d : Nat) (on : Bool) : State :=
  { s with pd := if on then s.pd ||| 2 ^ d else s.pd &&& (65535 - 2 ^ d) }

/-- A domain is held in reset, its contents lost. -/
def State.domainDown (s : State) (d : Nat) : State := (s.resetContents d).setPowered d false

/-- A domain and those that require it are held in reset (R517). -/
def State.closureDown (s : State) (d : Nat) : State := ((domainClosure d).reverse).foldl (fun (s : State) x => if s.powered x then s.domainDown x else s) s

/-- Clock numbers of CLK_GOOD that a domain waits on: CLK_CTRL 4; CLK_CORE 2 and CLK_FAB 3; CLK_DRAM 27; CLK_PCIE 28. -/
def domainClocks (d : Nat) : List Nat :=
  if d = 1 then [4] else if d = 2 then [2, 3] else if 5 ≤ d ∧ d ≤ 10 then [2] else if d = 14 then [27] else if d = 15 then [28] else if d = 0 then [] else [3]

/-- RPC_PDREQ asks for a domain, or the device switches it by itself. -/
def State.domainWanted (s : State) (d : Nat) : Bool := decide (d ≤ 4) || (decide (d ≠ 14) && bitOf (s.reg rRpcPdreq) d)

/-- A domain leaves reset, when what it requires is on; polders are filled and turned on (R493, Table 18-4); the event log of PD_CTRL,
lost with it, starts with RESET (DESIGN CHOICE, log entry 35). -/
def State.domainUp (s : State) (d : Nat) : State :=
  if (domainNeeds d).any fun x => !s.powered x then s
  else
    let s1 := s.setPowered d true
    if d = 1 then (s1.logNow evReset [(s.reg rRpcLastcause).toNat]).twinWarmed
    else if d = 3 then s1.eachPolder fun p x => if p < 16 then .on else x
    else if d = 4 then s1.eachPolder fun p x => if p < 16 then x else .on
    else s1

/-! ### RESET_SCOPE (R448) -/

/-- RESET_SCOPE: the reply goes first; the request waits for RESET_SCOPE_APPLY. -/
def resetScopeSpec : CmdSpec where
  op := 0x018
  layout := fun p _ =>
    let reach := fld (p.w 4) 1 0
    let dom := fld (p.w 4) 7 4
    firstDeny [lenIs p 5, denyIf (reservedSet (p.w 4) (mask 1 0 + mask 15 4) || decide (reach = 3) || (decide (reach = 1) && decide (dom ≤ 1)) ||
      (decide (reach = 2) && !blockKnown (fld (p.w 4) 15 8))) fieldDeny]
  own := fun p s _ =>
    let reach := fld (p.w 4) 1 0
    denyIf (decide (s.run = .running) && ((decide (reach = 1) && s.domainUsed (fld (p.w 4) 7 4)) || (decide (reach = 2) && s.blockUsed (fld (p.w 4) 15 8)))) stateDeny
  act := fun p s _ _ =>
    { s := { s with pendReset := some { reach := fld (p.w 4) 1 0 + 1, domain := fld (p.w 4) 7 4, block := fld (p.w 4) 15 8, replied := s.now } } }

/-! ### RPC_PDREQ (R26, R27, R535) -/

/-- Domains that the host switches. -/
def hostDomains : List Nat := [5, 6, 7, 8, 9, 10, 11, 12, 13, 15]

/-- A change of domain d to `on` is refused. -/
def State.pdRefused (s : State) (d : Nat) (on : Bool) : Bool :=
  if on then !s.powered 2
  else s.graphUses d && s.cfg.graph.isSome || (decide (d = 13) && s.twin.enabled) || (decide (d = 12) && s.net.macs.any fun x => x.2.enabled) ||
    (decide (d = 15) && (!s.sap.taps.isEmpty || (List.range 8).any fun n => bitOf (s.reg (rCmdCfg + 32 * n)) 0))

/-- The domains whose request a value changes. -/
def State.pdChanges (s : State) (v : Word) : List (Nat × Bool) :=
  (hostDomains.filter fun d => bitOf v d != bitOf (s.reg rRpcPdreq) d).map fun d => (d, bitOf v d)

/-- RPC_PDREQ_WRITE: refused into RPC_PDERR, or taken; domains to be switched off are first asked to be idle (R528, R535, R536). -/
def rpcPdreqWrite (v : Word) (s : State) : State :=
  let ch := s.pdChanges v
  match ch.find? fun x => s.pdRefused x.1 x.2 with
  | some x => (s.setReg rRpcPderr (w32 (0x0108 + x.1 * 2 ^ 16))).setEvt rRpcEvt 4
  | none =>
    let req := nsum ((List.range 16).map fun i => flagBit (if hostDomains.contains i then bitOf v i else bitOf (s.reg rRpcPdreq) i) i)
    let s1 := s.setReg rRpcPdreq (w32 req)
    let off := (ch.filter fun x => !x.2).map Prod.fst
    let busy := ch.foldl (fun b x => b ||| 2 ^ x.1) s1.rpc.busy
    let ports := (off.flatMap fun d => (domainBlocks d).filterMap blockPort).eraseDups
    let reqs : List IdleRequest := if off.isEmpty then [] else [⟨none, ports, off, s.now⟩]
    { s1 with rpc := { s1.rpc with busy := busy, idle := s1.rpc.idle ++ reqs } }

end Sys2Proof.Machine
end

