-- ==== Sys2Proof/Machine/Delivery.lean ====
section
/-! DEFINITION. How commands reach the interpreter and replies leave it (R405 to R433): steps 1 to 5 of Table 14-7, the order of service,
PCIe rings, SPI, UDP, the in-band areas, and the relay sections and copy blocks of the Twin Link. -/
namespace Sys2Proof.Machine

/-! ### The catalogue (Table 15-2) -/

/-- Every command of the catalogue. -/
def catalogue : List CmdSpec :=
  [pingSpec, getInfoSpec, getStatusSpec, setRateSpec, startProcessingSpec, stopProcessingSpec, fwUpdateBeginSpec, fwUpdateDataSpec,
   fwUpdateCommitSpec, resetScopeSpec, boardTableLoadSpec, channelConfigSpec, graphBeginSpec, graphAddOpSpec, graphConnectSpec,
   graphCommitSpec, graphQueryCostSpec, pathLatencySpec, opCancelSpec, safeSetBeginSpec, safeSetCommitSpec, layoutLoadSpec, meshLoadSpec,
   objectCreateSpec, trajAppendSpec, trajFlushSpec, objectParamsSpec, zoneMaskSpec, soundSpeedSpec, objectQuerySpec, routeSetSpec,
   routeClearSpec, xpointSetSpec, xpointBlockSpec, busCreateSpec, gainSetSpec, fadeParamsSpec, filterLoadBeginSpec, filterLoadDataSpec,
   filterLoadEndSpec, filterSwapSpec, convQuerySpec, dikeConfigSpec, outputMuteSpec, ditherConfigSpec, outputDelaySpec, sapConfigSpec,
   sapArmSpec, sapStopSpec, tapConfigSpec, timeConfigSpec, ptpConfigSpec, timeQuerySpec, mediaClockSpec, macConfigSpec, streamRxAddSpec,
   streamTxAddSpec, streamRemoveSpec, shaperSetSpec, pauseConfigSpec, zenConfigSpec, zenMapSpec, zenDropSpec, zenInsertSpec,
   zenTopologySpec, twinConfigSpec, twinJoinSpec, twinHandoverSpec, twinStatusSpec, twinFenceSpec, dramStartSpec, dramOppointSpec,
   stateSaveSpec, stateRestoreSpec, keepWriteSpec, keepReadSpec, meterSubscribeSpec, eventReadSpec, counterReadSpec]

/-- The command of an opcode; none where it is not defined. -/
def specOf (op : Nat) : Option CmdSpec := catalogue.find? fun c => decide (c.op = op)

/-! ### Steps 1 to 5 of Table 14-7 -/

/-- A GROUP packet refused for any reason marks the open set failed (R67). -/
def State.memberFailed (s : State) (ch : Nat) (p : Packet) : State :=
  if p.group then s.updChan ch fun k => { k with set := k.set.map fun g => { g with refused := g.refused + 1 } } else s

/-- Refusal at steps 1 to 4: answered, counted, not entered in the tag history (R427, R433). -/
def State.turnAway (s : State) (ch kind : Nat) (r : Reply) (p : Packet) : State := ((s.memberFailed ch p).violation ch kind p.tag).emit ch r

/-- The reply of R425 to a packet whose tag is not new. -/
def Channel.stale (c : Channel) (op : Nat) (p : Packet) (now : Int) : Option Reply :=
  match c.place p.tag (p.check op) with
  | .new => none
  | .duplicate e => some { e.reply with status := .okDuplicate, detail := e.reply.status.code }
  | .conflict => some (mkReply op p .tagConflict 0 now [])
  | .stale => some (mkReply op p .tagStale 0 now [])

/-- Steps 4 and 5, and the command. -/
def State.takePacketOf (s : State) (op : Nat) (p : Packet) : State :=
  match (s.chan p.ch).stale op p s.index with
  | some r =>
    let s1 := (if r.status.good then s else s.memberFailed p.ch p).violation p.ch 5 p.tag
    if suppressed p r.status then s1 else s1.emit p.ch r
  | none =>
    match specOf op with
    | some c => c.interpret p s
    | none => (((breakChain op p s).memberFailed p.ch p).violation p.ch 6 p.tag).refuse op p ⟨.badOpcode, 0⟩

/-- A packet as it came off a transport of channel ch: steps 1 to 3, then the rest (R427). -/
def State.takeWords (s : State) (ch : Nat) (x : Waiting) : State :=
  let w := fun (i : Nat) => x.words.getD i 0
  let len := fld (w 0) 15 0
  let h := packetOf ((List.range (max 4 (min 1024 len))).map w) ch
  let heard := fld (w 1) 15 8
  let echo := fun (st : Status) (d : Nat) => ({ mkReply h.1 h.2 st d s.index [] with ch := heard } : Reply)
  if fld (w 1) 7 0 ≠ headerCheck (w 0) (w 1) (w 2) (w 3) then s.turnAway ch 0 (echo .badCheck 1) h.2
  else if heard ≠ ch then s.turnAway ch (if heard = 15 then 11 else 1) (echo .badCheck 2) h.2
  else if len < 4 ∨ 1024 < len then s.turnAway ch 2 (echo .badLength 1) h.2
  else if 4 * len ≠ x.octets then s.turnAway ch 2 (echo .badLength 2) h.2
  else s.takePacketOf h.1 h.2

/-! ### In-band messages (R418 to R421) -/

/-- Fragments of a message, 120 octets each. -/
def fragmentsOf (dest src seq total : Nat) : Nat → Nat → List Word → List Fragment
  | 0, _, _ => []
  | fuel + 1, n, ws =>
    let left := total - 120 * n
    let f : Fragment := { dest := dest, src := src, seq := seq, frag := n, last := decide (left ≤ 120), octets := min 120 left, words := ws.take 30 }
    if left ≤ 120 then [f] else f :: fragmentsOf dest src seq total fuel (n + 1) (ws.drop 30)

/-- Send a message of whole words to a node in an in-band area; without the Zenel Link it is lost. -/
def State.sendMessage (s : State) (area dest : Nat) (ws : List Word) : State :=
  if !s.zen.enabled then s
  else
    let key := dest * 2 + area
    let seq := (AMap.getD s.zen.msgSeq key 255 + 1) % 256
    let fs := fragmentsOf dest s.zen.node seq (4 * ws.length) 35 0 ws
    { s with zen := { s.zen with msgSeq := AMap.put s.zen.msgSeq key seq, outband := s.zen.outband ++ fs.map fun f => (area, f) } }

/-- The node an in-band channel serves: the one configured, or the first heard since its reset (R421). -/
def Channel.node (c : Channel) : Option Nat := if c.filter ≠ 0 then some c.filter else c.source.map Prod.fst

/-- Replies of channel 13 or 14 go to its source as messages. -/
def State.flushInband (s : State) (ch : Nat) : State :=
  let rs := (s.chan ch).out
  let s1 := s.updChan ch fun c => { c with out := [] }
  match (s.chan ch).node with
  | some n => rs.foldl (fun (s : State) r => s.sendMessage (ch - 13) n r.raw) s1
  | none => s1

/-! ### UDP (R416, R417) -/

/-- Send a datagram of a UDP channel in transmit queue 4 of its MAC. -/
def State.sendDatagram (s : State) (ch addr port : Nat) (ws : List Word) : State :=
  s.originate (ch - 9) 4 (.control ch addr port ws) (46 + 4 * ws.length)

/-- The replies gathered go out. -/
def State.sendGathered (s : State) (ch : Nat) : State :=
  match (s.chan ch).gather with
  | some g => (s.updChan ch fun c => { c with gather := none }).sendDatagram ch g.addr g.port g.words
  | none => s

/-- A reply joins those to the same datagram while they fit in the MTU; a notification goes out by itself. -/
def State.udpReply (s : State) (ch : Nat) (r : Reply) : State :=
  let c := s.chan ch
  if r.notify then
    (if c.noteAddr ≠ 0 then s.sendDatagram ch c.noteAddr c.notePort r.raw
     else match c.source with | some d => s.sendDatagram ch d.1 d.2 r.raw | none => s)
  else
    let own : Gather := ⟨c.peer.1, c.peer.2.1, c.peer.2.2, r.raw⟩
    match c.gather with
    | some g =>
      if g.gram = own.gram ∧ 28 + 4 * (g.words.length + r.raw.length) ≤ (s.mac (ch - 9)).mtu then
        s.updChan ch fun k => { k with gather := some { g with words := g.words ++ r.raw } }
      else (s.sendGathered ch).updChan ch fun k => { k with gather := some own }
    | none => s.updChan ch fun k => { k with gather := some own }

/-- Replies of a UDP channel: gathered, and sent when no packet of their datagram waits any more. -/
def State.flushUdp (s : State) (ch : Nat) : State :=
  let s1 := (s.chan ch).out.foldl (fun (s : State) r => s.udpReply ch r) (s.updChan ch fun c => { c with out := [] })
  let c := s1.chan ch
  match c.gather with
  | some g => if c.hold.isNone && c.waiting.all fun x => decide (x.gram ≠ g.gram) then s1.sendGathered ch else s1
  | none => s1

/-- Notifications and replies leave by their transports. -/
def State.flushOut (s : State) : State :=
  let s1 := (List.range 15).foldl (fun (s : State) n => s.flushNotes n 256) s
  let s2 := (span 9 4).foldl (fun (s : State) n => if (s.chan n).out.isEmpty && (s.chan n).gather.isNone then s else s.flushUdp n) s1
  ([13, 14].foldl (fun (s : State) n => if (s.chan n).out.isEmpty then s else s.flushInband n) s2).ptpFlush

/-! ### The order of service (R428) -/

/-- The interpreter may take a packet of channel n. -/
def State.servable (s : State) (n : Nat) : Bool :=
  s.takes && (s.chan n).hold.isNone && !(s.chan n).waiting.isEmpty && s.replyRoom n

/-- The next packet of channel n has URGENT set. -/
def State.nextUrgent (s : State) (n : Nat) : Bool := match (s.chan n).waiting with | x :: _ => bitOf (x.words.getD 0 0) 19 | [] => false

/-- The channel to serve next: urgent ones in ascending number, else in turn after the last served. -/
def State.nextChannel (s : State) : Option Nat :=
  let ready := (List.range 15).filter s.servable
  match ready.find? s.nextUrgent with
  | some n => some n
  | none => (((List.range 15).map fun i => (s.served + 1 + i) % 15).find? fun n => ready.contains n)

/-- Serve the first packet of channel n. -/
def State.serveOne (s : State) (n : Nat) : State :=
  match (s.chan n).waiting with
  | [] => s
  | x :: rest =>
    let s1 := { s.updChan n fun c => { c with waiting := rest, peer := (x.source.1, x.source.2, x.gram) } with served := n }
    (s1.takeWords n x).flushOut

/-- Serve what can be served. -/
def State.serve : Nat → State → State
  | 0, s => s
  | fuel + 1, s => match s.nextChannel with | some n => State.serve fuel (s.serveOne n) | none => s

/-! ### Interrupt messages (R480) -/

/-- Vector i is masked, by itself or with its function. -/
def State.vectorMasked (s : State) (i : Nat) : Bool := s.msixMask || bitOf (s.reg (rIrqMsixctl + 16 * i)) 0

/-- The message of vector i, from its entry of the MSI-X table (Table 16-5). -/
def State.messageOf (s : State) (i : Nat) : Message :=
  { vector := i, data := s.reg (rIrqMsixdata + 16 * i),
    addr := (s.reg (rIrqMsixaddrhi + 16 * i)).toNat * 2 ^ 32 + (s.reg (rIrqMsixaddrlo + 16 * i)).toNat }

/-- Vector i sends its message, or its PBA bit sets in place of sending. -/
def State.sendVector (s : State) (i : Nat) : State :=
  if s.msixEnable && s.irqSource i && bitOf (s.reg rIrqEnmsi) i && bitOf (s.reg rIrqArmed) i then
    if s.vectorMasked i then s.orReg rIrqPba0 (2 ^ i)
    else { ((s.clrReg rIrqArmed (2 ^ i)).clrReg rIrqPba0 (2 ^ i)).bump rIrqMsicnt with messages := s.messages ++ [s.messageOf i] }
  else s

/-- Every vector whose conditions hold. -/
def State.sendVectors (s : State) : State := (List.range 29).foldl (fun (s : State) i => s.sendVector i) s

/-- A disabled channel whose command has had its reply is reset (R484). -/
def State.closeChannels (s : State) : State :=
  (List.range 8).foldl (fun (s : State) n =>
    if (s.chan n).closing && (s.chan n).hold.isNone then (s.updChan n fun c => { c with closing := false }).resetChannel n else s) s

/-- What follows an effect without any further event: waiting packets are served, replies and notifications leave, REFCLK counts are
judged, and interrupt messages go out. -/
def State.settle (s : State) : State :=
  ((((State.serve (nsum ((List.range 15).map fun n => (s.chan n).waiting.length)) s).flushOut).closeChannels).judgeRefclk).sendVectors

/-! ### PCIe rings (R410, R420) -/

/-- PCIE_COMMAND_FETCH: channel n takes the packet at its command head, whose ring entry holds `words`. In REMOTE mode it goes on unchecked. -/
def pcieCommandFetch (n : Nat) (words : List Word) (s : State) : State :=
  let c := s.chan n
  if n < 8 && s.takes && s.pcie && bitOf (s.reg (rCmdCfg + 32 * n)) 0 && decide (c.chead ≠ c.ctail) && s.replyRoom n && c.hold.isNone then
    let len := fld (words.getD 0 0) 15 0
    let s1 := s.updChan n fun c => { c with chead := c.chead + 1 }
    match c.remote with
    | some (node, ch) => s1.sendMessage (ch - 13) node ((List.range (max 4 (min 1024 len))).map fun i => words.getD i 0)
    | none => s1.updChan n fun c => { c with waiting := c.waiting ++ [⟨words, 4 * len, (0, 0), 0⟩] }
  else s

/-! ### SPI (R412 to R414) -/

/-- The status octet is shifted out, which clears LOST (Table 14-5). -/
def State.spiOpen (s : State) : State := { s with spi := { lost := false, status := s.spiStatus } }

/-- A PKT_WRITE is discarded. -/
def State.spiLost (s : State) (kind : Nat) (tag : BitVec 16) : State := { (s.dropPacket 8 kind tag) with spi := { s.spi with lost := true } }

/-- SPI_PKT_WRITE with the octets of the transaction after the instruction, and the words they make. -/
def spiPktWrite (octets : Nat) (words : List Word) (s : State) : State :=
  let rdy := s.spiStatus.testBit 0
  let s1 := s.spiOpen
  let w := fun (i : Nat) => words.getD i 0
  let tag := BitVec.ofNat 16 (fld (w 1) 31 16)
  let good := decide (fld (w 1) 7 0 = headerCheck (w 0) (w 1) (w 2) (w 3))
  if octets < 16 then s1.spiLost 3 tag
  else if !rdy then s1.spiLost 4 tag
  else if decide (octets ≠ 4 * fld (w 0) 15 0) && !good then s1.spiLost 2 tag
  else s1.updChan 8 fun c => { c with waiting := c.waiting ++ [⟨words, octets, (0, 0), 0⟩] }

/-- SPI_PKT_READ: the oldest packet, or a w0 of 0; it leaves the store only when it was read whole (R414). -/
def spiPktRead (whole : Bool) (s : State) : State :=
  let s1 := s.spiOpen
  match (s.chan 8).out with
  | [] => { s1 with spi := { s1.spi with miso := [0] } }
  | r :: rest =>
    let s2 := { s1 with spi := { s1.spi with miso := r.raw } }
    if whole then s2.updChan 8 fun c => { c with out := rest } else s2

/-- SPI_STATUS. -/
def spiStatusRead (s : State) : State := s.spiOpen

/-! ### UDP datagrams (R416, R417) -/

/-- The packets of a datagram, in order: each as the transport bounds it. -/
def datagramPackets (src : Nat × Nat) (gram : Nat) : Nat → Nat → List Word → List Waiting
  | 0, _, _ => []
  | fuel + 1, octets, ws =>
    let w := fun (i : Nat) => ws.getD i 0
    let len := fld (w 0) 15 0
    if octets < 16 then []
    else if fld (w 1) 7 0 ≠ headerCheck (w 0) (w 1) (w 2) (w 3) then [⟨ws, octets, src, gram⟩]
    else if decide (len < 4) || decide (octets < 4 * len) then [⟨ws, octets, src, gram⟩]
    else ⟨ws.take len, 4 * len, src, gram⟩ :: datagramPackets src gram fuel (octets - 4 * len) (ws.drop len)

/-- Packets enter a UDP channel's queue of 64; one that finds it full is discarded and counted. -/
def State.queuePacket (s : State) (ch : Nat) (x : Waiting) : State :=
  if 64 ≤ (s.chan ch).waiting.length then s.dropPacket ch 4 (BitVec.ofNat 16 (fld (x.words.getD 1 0) 31 16))
  else s.updChan ch fun c => { c with waiting := c.waiting ++ [x] }

/-- UDP_DATAGRAM_RECEIVED on MAC m from a source address and port: its octets and the words they make. -/
def udpDatagramReceived (m src port octets : Nat) (words : List Word) (s : State) : State :=
  let ch := 9 + m
  if decide (4 ≤ m) || !s.udpOn m || !s.takes then s
  else if s.sourceForeign m src then s.macStat m 11
  else
    let gram := (s.chan ch).grams + 1
    let s1 := s.updChan ch fun c => { c with grams := gram, source := some (src, port) }
    (datagramPackets (src, port) gram (octets / 16 + 1) octets words).foldl (fun (s : State) x => s.queuePacket ch x) s1

/-! ### In-band fragments (R419 to R421) -/

/-- The message that a source is sending in an area. -/
def Zen.inboxOf (z : Zen) (area src : Nat) : Option Inbox := z.inbox.find? fun x => decide (x.area = area) && decide (x.src = src)

/-- Replace a source's message. -/
def State.putInbox (s : State) (x : Inbox) : State :=
  { s with zen := { s.zen with inbox := x :: s.zen.inbox.filter fun y => !(decide (y.area = x.area) && decide (y.src = x.src)) } }

/-- The octets and words of a message whose fragments are all there. -/
def Inbox.message (x : Inbox) : Option (Nat × List Word) :=
  match x.frags.find? (·.last) with
  | none => none
  | some l =>
    let fs := (List.range (l.frag + 1)).map fun n => x.frags.find? fun f => decide (f.frag = n)
    if fs.any Option.isNone then none
    else
      let os := (fs.filterMap id).flatMap fun f => (f.words.flatMap octets).take f.octets
      some (os.length, wordsOfOctets os)

/-- The PCIe channel in REMOTE mode that is bound to a node and an in-band channel (R420). -/
def State.remoteRing (s : State) (node ch : Nat) : Option Nat := (List.range 8).find? fun n => decide ((s.chan n).remote = some (node, ch))

/-- A whole message: a reply goes into the reply ring bound to its source; any other is a packet of channel 13 or 14, from the source
that the channel serves (R420, R421). -/
def State.takeMessage (s : State) (area src octets : Nat) (ws : List Word) : State :=
  let ch := 13 + area
  match (if bitOf (ws.headD 0) 16 then s.remoteRing src ch else none), replyOf ws with
  | some n, some r => (s.updChan n fun c => { c with notes := c.notes ++ [r] }).flushNotes n 256
  | _, _ =>
    let c := s.chan ch
    if !c.enabled || !s.takes then s
    else if c.node.any fun n => decide (n ≠ src) then s.dropPacket ch 10 (BitVec.ofNat 16 (fld (ws.getD 1 0) 31 16))
    else s.updChan ch fun c => { c with source := some (src, 0), waiting := c.waiting ++ [⟨ws, octets, (src, 0), 0⟩] }

/-- INBAND_FRAGMENT_RECEIVED in area 0 or 1, addressed to this node. -/
def inbandFragmentReceived (area : Nat) (f : Fragment) (s : State) : State :=
  if !s.zen.enabled || decide (f.dest ≠ s.zen.node) || decide (2 ≤ area) then s
  else
    let fresh : Inbox := { area := area, src := f.src, seq := f.seq, since := s.index }
    let x := match s.zen.inboxOf area f.src with | some x => if x.seq = f.seq then x else fresh | none => fresh
    if x.complete || x.frags.any fun g => decide (g.frag = f.frag) then s
    else
      let y := { x with frags := f :: x.frags }
      match y.message with
      | some (n, ws) => (s.putInbox { y with frags := [], complete := true }).takeMessage area f.src n ws
      | none => s.putInbox y

/-- INBAND_MESSAGE_TIMEOUT: a message incomplete for 64 periods is discarded and counted (R419). -/
def inbandMessageTimeout (area src : Nat) (s : State) : State :=
  match s.zen.inboxOf area src with
  | some x =>
    if x.complete || decide (s.index < x.since + 64) then s
    else
      { s with zen := { s.zen with inbox := s.zen.inbox.filter fun y => !(decide (y.area = area) && decide (y.src = src)) } }.dropPacket (13 + area) 10 0
  | none => s

/-! ### Relay sections (R391 to R393, R422 to R424) -/

/-- The index of a START_IN start goes to the waiting set that a relayed SAP_ARM made (R392). -/
def State.relayedStart (s : State) (e : RelayEntry) : State :=
  { s with sap := { s.sap with sets := AMap.mapVal s.sap.sets fun x =>
      if x.waiting && x.arm.any fun p => decide (p.tag = e.packet.tag) && decide (p.ch = e.packet.ch) then x.place s e.index else x } }

/-- A partner executes a relayed entry; one without a reply is a START_IN index. -/
def State.runEntry (s : State) (e : RelayEntry) : State :=
  match e.reply, specOf e.op with
  | some r, some c => c.relayed e.packet e.index r s
  | none, _ => s.relayedStart e
  | _, _ => s

/-- The channel that an entry's reply belongs to waits for it. -/
def State.awaits (s : State) (e : RelayEntry) (tag : BitVec 16) : Option (Nat × Packet) :=
  match (s.chan e.origin).hold with
  | some (.relay op p _) => if p.tag = tag then some (op, p) else none
  | _ => none

/-- An entry of type 1 at the partner (R392, R424). -/
def State.takeExecuted (s : State) (sec : Nat) (e : RelayEntry) : State :=
  let late := decide (s.twin.state = .inStep) && s.readyReached (s.quantumOf e.index)
  let runs := decide (s.twin.state = .inStep) || decide (s.twin.state = .suspect) || (decide (s.twin.state = .joining) && s.twin.joined)
  let s1 :=
    if late then s.relayLate
    else if runs then s.runEntry e
    else if s.twin.phase = .copy then s.updTwin fun t => { t with joinLog := t.joinLog ++ [(sec, e)] }
    else s
  match e.reply with
  | none => s1
  | some r =>
    match s1.awaits e r.tag with
    | some (op, p) => s1.relayAnswer e.origin op p r
    | none => s1.updChan e.origin fun c => c.enter e.packet.tag (e.packet.check e.op) r

/-- An entry of type 2: the holder's reply to a forwarded packet that it did not execute (R422, R423). -/
def State.takeReplyOnly (s : State) (e : RelayEntry) : State :=
  match e.reply with
  | none => s
  | some r => match s.awaits e r.tag with | some (op, p) => s.relayAnswer e.origin op p r | none => s

/-- The holder's reply to a forwarded packet goes back in an entry of type 2. -/
def State.relayReply (s : State) (origin op : Nat) (p : Packet) (r : Reply) : State :=
  s.updTwin fun t => { t with relayOut := t.relayOut ++ [⟨2, origin, 0, op, p, some r⟩] }

/-- An entry of type 3: the holder executes the packet on channel 15, from step 4 on (R422, R423). -/
def State.takeForwarded (s : State) (e : RelayEntry) : State :=
  if s.twin.state ≠ .active then s
  else
    let p := { e.packet with ch := 16 + e.origin }
    match (s.chan p.ch).stale e.op p s.index with
    | some r => ((if r.status.good then s else s.memberFailed p.ch p).violation p.ch 5 p.tag).relayReply e.origin e.op p r
    | none =>
      let s1 := (s.takePacketOf e.op p).updChan p.ch fun c => { c with out := [] }
      if s.twin.relayOut.length < s1.twin.relayOut.length then s1
      else match (s1.chan p.ch).entry p.tag with | some h => s1.relayReply e.origin e.op p h.reply | none => s1

/-- RELAY_SECTION_RECEIVED (R393, R422). -/
def relaySectionReceived (x : RelaySection) (s : State) : State :=
  if !s.twin.enabled || !s.twin.lock then s
  else
    let r := s.takeSection x
    r.2.foldl (fun (s : State) e =>
      if e.kind = 1 then (if s.twin.state = .active then s else s.takeExecuted x.seq e) else if e.kind = 2 then s.takeReplyOnly e else if e.kind = 3 then s.takeForwarded e else s) r.1

/-! ### Copy blocks (R399) -/

/-- JOIN_COPY_BLOCK: with the last block, whether the CRC-64 agrees and the state that the blocks spell. Entries logged and already in
the snapshot are dropped; the others are executed. -/
def joinCopyBlock (x : CopyBlock) (crcOk : Bool) (image : Copied) (s : State) : State :=
  let r := s.takeBlock x crcOk image
  if r.2 then
    let log := r.1.twin.joinLog.filter fun e => let d := (e.1 + 2 ^ 16 - image.relaySeq) % 2 ^ 16; decide (0 < d) && decide (d < 2 ^ 15)
    log.foldl (fun (s : State) e => s.runEntry e.2) (r.1.updTwin fun t => { t with joinLog := [] })
  else r.1

end Sys2Proof.Machine
end

