-- ==== Sys2Proof/Machine/Access.lean ====
section
/-! DEFINITION. Accesses of the host (R12, R13, R410, R411, R415, R467 to R484): decoding of the three windows, writes and reads by access
type, posted writes, bit aliases, SPI register accesses, ring indices, and the interrupt vectors. -/
namespace Sys2Proof.Machine

/-! ### Decoding (R468 to R470, Table 16-2) -/

/-- Block index of an MW0 offset: from 36 on, bit 15 is ignored (R469). -/
def mw0Block (off : Nat) : Nat := let b := off / 1024 % 64; if 36 ≤ b then b - 32 else b

/-- The offset at which the register of an MW0 access lies (R469, R470). -/
def mw0Decode (off : Nat) : Nat := let b := mw0Block off; b * 1024 + off % 1024 % blockSpan b / 4 * 4

/-- Power domain that holds a block, where it can be off (R475). -/
def blockDomain (b : Nat) : Option Nat :=
  if 20 ≤ b ∧ b ≤ 24 then some 12 else if 25 ≤ b ∧ b ≤ 29 then some 13 else if b = 30 then some 14 else if b = 34 then some 15 else none

/-- The domain of a block is off. -/
def State.blockOff (s : State) (b : Nat) : Bool := (blockDomain b).any fun d => !s.powered d

/-! ### Refused and discarded accesses (R468, R475, R478) -/

/-- GLB_LASTBAD. -/
def State.lastBad (s : State) (win off : Nat) (power : Bool) : State :=
  s.setReg rGlbLastbad (w32 (off % 2 ^ 24 + win % 4 * 2 ^ 24 + flagBit power 26))

/-- A write is discarded (GLB_BADACC). -/
def State.badAccess (s : State) (win off : Nat) : State := (s.bump rGlbBadacc).lastBad win off false

/-- An access to a block that is off is refused (GLB_OFFACC). -/
def State.offAccess (s : State) (win off : Nat) : State := (s.bump rGlbOffacc).lastBad win off true

/-! ### Access types (Table 00-4) -/

/-- Mask of a field. -/
def RegField.mask (f : RegField) : Nat := (2 ^ (f.hi + 1 - f.lo) - 1) * 2 ^ f.lo

/-- What a write leaves in a field. -/
def RegField.written (f : RegField) (old v : Word) : Word :=
  let m := w32 f.mask
  match f.acc with
  | .rw => v &&& m
  | .rws => v &&& m
  | .ro => old &&& m
  | .rc => old &&& m
  | .w1c => old &&& m &&& ~~~v
  | .wo => 0

/-- What a write leaves in a register. -/
def RegRow.written (r : RegRow) (old v : Word) : Word := r.fields.foldl (fun acc f => acc ||| f.written old v) 0

/-- What a read leaves in a register: its RC fields clear, to what their column Reset gives. -/
def RegRow.afterRead (r : RegRow) (old : Word) : Word :=
  r.fields.foldl (fun acc f => acc ||| (if f.acc = .rc then r.resetWord &&& w32 f.mask else old &&& w32 f.mask)) 0

/-- Bits of a register that a bit alias keeps: its RW and RWS fields (R477). -/
def RegRow.kept (r : RegRow) : Word := r.fields.foldl (fun acc f => if f.acc = .rw ∨ f.acc = .rws then acc ||| w32 f.mask else acc) 0

/-! ### PCIe channel registers (R410, R411, R484) -/

/-- Where entry i of channel n's command ring lies in host memory (R410, R484). -/
def State.commandSlot (s : State) (n i : Nat) : Nat :=
  (s.reg (rCmdBasehi + 32 * n)).toNat * 2 ^ 32 + (s.reg (rCmdBaselo + 32 * n)).toNat + i % s.ringK n * 4096

/-- Where entry i of channel n's reply ring lies: after the K entries of the command ring (R484). -/
def State.replySlot (s : State) (n i : Nat) : Nat := s.commandSlot n i + s.ringK n * 4096

/-- Where channel n's status block lies: after both rings (R484). -/
def State.statusAddr (s : State) (n : Nat) : Nat := s.commandSlot n 0 + 2 * s.ringK n * 4096

/-- The 64 octets of a status block (R410). -/
def Channel.statusBlock (c : Channel) : List Word := [w32 c.status.1.toNat, w32 c.status.2.toNat] ++ List.replicate 14 0

/-- The replies in channel n's ring that the host has not consumed, each with the address of its entry (R410). -/
def State.replyRing (s : State) (n : Nat) : List (Nat × List Word) :=
  let c := s.chan n
  c.out.zipIdx.map fun (x : Reply × Nat) => (s.replySlot n ((c.rprod - BitVec.ofNat 16 c.out.length).toNat + x.2), x.1.raw)

/-- An index written out of range is ignored, counted and logged (R411, R433). -/
def State.ringError (s : State) (n : Nat) : State := ((s.bump (rCmdRingerr + 32 * n)).logNow evCmdRingErr).violation n 9 0

/-- CMD_CTAILn (R410, R411). -/
def State.writeCtail (s : State) (n : Nat) (v : BitVec 16) : State :=
  if s.ringK n < (v - (s.chan n).chead).toNat then s.ringError n else s.updChan n fun c => { c with ctail := v }

/-- CMD_RCONSn: entries go back to the device, which sends what it held (R410, R411). -/
def State.writeRcons (s : State) (n : Nat) (v : BitVec 16) : State :=
  let c := s.chan n
  if s.ringK n < (c.rprod - v).toNat then s.ringError n
  else s.updChan n fun c => { c with rcons := v, out := c.out.drop (c.out.length - (c.rprod - v).toNat) }

/-- CMD_CFGn.EN rises: the ring indices become 0, and the status block is written (R484). -/
def State.channelOn (s : State) (n : Nat) : State :=
  (s.updChan n fun c => { c with enabled := true, chead := 0, rprod := 0, ctail := 0, rcons := 0, status := (0, 0), out := [], closing := false }).orReg (rCmdCfg + 32 * n) 1

/-- CMD_CFGn.EN falls: fetching stops; the channel is reset when nothing executes any more (R484). -/
def State.channelOff (s : State) (n : Nat) : State :=
  let s1 := (s.updChan n fun c => { c with enabled := false }).clrReg (rCmdCfg + 32 * n) 1
  if (s.chan n).hold.isSome then s1.updChan n fun c => { c with closing := true } else s1.resetChannel n

/-- A write of CMD_CFGn: while EN is 1, LOG2K is discarded (R484). -/
def State.writeCmdCfg (s : State) (n : Nat) (v : Word) : State :=
  let a := rCmdCfg + 32 * n
  let was := bitOf (s.reg a) 0
  let s1 := s.setFld a 1 1 (b2n (bitOf v 1))
  let s2 := if was then s1 else s1.setFld a 7 4 (fld v 7 4)
  if bitOf v 0 && !was then s2.channelOn n else if !bitOf v 0 && was then s2.channelOff n else s2

/-- A write to the registers of PCIe channel n, at offset o of its 32 bytes. -/
def State.writeChannel (s : State) (n o : Nat) (v : Word) : State :=
  let on := bitOf (s.reg (rCmdCfg + 32 * n)) 0
  match o with
  | 0x00 => s.writeCmdCfg n v
  | 0x04 => if on then s else s.setFld (rCmdBaselo + 32 * n) 31 12 (fld v 31 12)
  | 0x08 => if on then s else s.setReg (rCmdBasehi + 32 * n) v
  | 0x0C => s.writeCtail n (BitVec.ofNat 16 (fld v 15 0))
  | 0x10 => s.writeRcons n (BitVec.ofNat 16 (fld v 15 0))
  | _ => s

/-! ### Interrupt vectors (R480) -/

/-- IRQ_EOI re-arms vectors; the reserved bits are ignored. -/
def irqEoi (v : Word) (s : State) : State := s.orReg rIrqArmed (v.toNat % 2 ^ 29)

/-- A vector that is masked no more: its PBA bit clears. -/
def State.unheld (s : State) (i : Nat) : State := if s.vectorMasked i then s else s.clrReg rIrqPba0 (2 ^ i)

/-- IRQ_MSIX_UNMASK: a vector's mask clears, or the function's. -/
def irqMsixUnmask (i : Option Nat) (s : State) : State :=
  match i with
  | some n => if n < 32 then (s.clrReg (rIrqMsixctl + 16 * n) 1).unheld n else s
  | none => (List.range 32).foldl (fun (s : State) n => s.unheld n) { s with msixMask := false }

/-- PCIE_LINK_CHANGE: the link, and the MSI-X Enable and Function Mask bits that its configuration leaves (R436, R480, R487). -/
def pcieLinkChange (up enable mask : Bool) (s : State) : State :=
  if up && !s.powered 15 then s
  else
    let s1 := { s with pcie := up, msixEnable := enable, msixMask := mask }
    if mask then s1 else (List.range 32).foldl (fun (s : State) n => s.unheld n) s1

/-! ### A write takes effect -/

/-- A write to a register whose fields follow Table 00-4 alone. -/
def State.writePlain (s : State) (a : Nat) (v : Word) : State :=
  match regRowOf a with | some r => s.setReg a (r.written (s.reg a) v) | none => s

/-- A value written to a decoded MW0 offset takes effect. -/
def State.writeReg (s : State) (a : Nat) (v : Word) : State :=
  let m := (a - rMacStatus) / 0x400
  let o := (a - rMacStatus) % 0x400
  if rCmdCfg ≤ a ∧ a < rCmdCfg + 256 then s.writeChannel ((a - rCmdCfg) / 32) ((a - rCmdCfg) % 32) v
  else if a = rIrqEoi then irqEoi v s
  else if rIrqMsixaddrlo ≤ a ∧ a < rIrqMsixaddrlo + 512 then
    let s1 := s.writePlain a (if a % 16 = 0 then v &&& ~~~3 else v)
    if a % 16 = 12 then s1.unheld ((a - rIrqMsixaddrlo) / 16) else s1
  else if a = rTimCtl then (if bitOf v 0 then timSnap s else s)
  else if a = rSapgWtpop then sapgWtpop v s
  else if a = rRpcPdreq then rpcPdreqWrite v s
  else if a = rTwnStatus then (if bitOf v 10 then s.updTwin fun t => { t with alarm := false } else s)
  else if rMacStatus ≤ a ∧ a < rSteStatus ∧ (o = 0x20 ∨ o = 0x24) then macRxtailWrite m ((o - 0x20) / 4) (fld v 11 0) [] s
  else if rMacStatus ≤ a ∧ a < rSteStatus ∧ (o = 0x30 ∨ o = 0x34) then macTxtailWrite m ((o - 0x30) / 4) (fld v 11 0) [] s
  else s.writePlain a v

/-! ### Posted writes (R472 to R474) -/

/-- The pending write of a block takes effect (POSTED_WRITE_COMPLETE). -/
def postedWriteComplete (b : Nat) (s : State) : State :=
  match AMap.find s.posted b with
  | some x => { s with posted := AMap.del s.posted b }.writeReg x.off x.value
  | none => s

/-- POSTED_WRITE_TIMEOUT: a write that has not taken effect 10 µs after its acceptance is discarded (R474). -/
def postedWriteTimeout (b : Nat) (s : State) : State :=
  match AMap.find s.posted b with
  | some x => if x.since + ticksOfUs 10 ≤ s.now then { s with posted := AMap.del s.posted b }.orReg (b * 1024) 2 else s
  | none => s

/-- A whole-word write to a decoded offset arrives: at a posted block it waits, or is lost while another waits (R472). -/
def State.hostWrite (s : State) (a : Nat) (v : Word) : State :=
  let b := a / 1024
  if blockPosted b && decide (a % 1024 ≠ 0) then
    if AMap.has s.posted b then s.orReg (b * 1024) 2 else { s with posted := AMap.put s.posted b ⟨a, v, s.now⟩ }
  else s.writeReg a v

/-- The same for a write that reaches register a of window `win` at window offset `off`: a block that is off refuses it (R475). -/
def State.hostWriteAt (s : State) (win off a : Nat) (v : Word) : State :=
  if s.blockOff (a / 1024) then s.offAccess win off else s.hostWrite a v

/-! ### Bit aliases (R477) -/

/-- MW0 offset and bit of an MW1 offset. -/
def aliasOf (off : Nat) : Nat × Nat := (mw0Decode (off / 128 % 1024 * 4), off % 128 / 4)

/-- The word that an alias write puts to the register: RW and RWS bits as they are, W1C and WO bits 0, the aliased bit as given. -/
def State.aliasWord (s : State) (a bit : Nat) (v : Bool) : Word :=
  let keep := match regRowOf a with | some r => s.regValue a &&& r.kept | none => 0
  (keep &&& ~~~(w32 (2 ^ bit))) ||| w32 (flagBit v bit)

/-- BIT_ALIAS_WRITE at an MW1 offset, with the data word. -/
def bitAliasWrite (off : Nat) (v : Word) (s : State) : State :=
  if s.powered 1 then s.hostWriteAt 1 off (aliasOf off).1 (s.aliasWord (aliasOf off).1 (aliasOf off).2 (bitOf v 0)) else s

/-! ### Writes and reads of the windows -/

/-- REGISTER_WRITE: window, offset, byte enables and data of one doubleword (R468, R472, R475, R478). -/
def registerWrite (win off be : Nat) (v : Word) (s : State) : State :=
  if !s.powered 1 then s
  else if win = 2 ∨ be % 16 ≠ 15 then s.badAccess win off
  else if win = 1 then bitAliasWrite off v s
  else s.hostWriteAt 0 off (mw0Decode off) v

/-- Port rings of an operation (R478). -/
def Op.portRings (o : Op) : Nat := if isReceiver o.kind then o.nout else if isTransmitter o.kind then o.nin else 0

/-- The delay lines that leave an operation, by output port and within a port as they were added. -/
def Graph.delayLines (g : Graph) (i : Nat) : List Edge :=
  sortBy (fun a b => decide (a.sport ≤ b.sport)) ((g.edgesFrom i).filter fun e => decide (e.delay ≠ 0))

/-- Octets of the buffers of an operation: ports, port rings and delay lines (R478). -/
def Graph.opOctets (g : Graph) (q i : Nat) (o : Op) : Nat :=
  o.bufferOctets q + nsum ((g.delayLines i).map fun e => 8 * (e.delay + q))

/-- Where the buffers of an operation begin (R478). -/
def State.bufferBase (s : State) (i : Nat) : Nat :=
  (Config.bufferBase (s.graphNow.ops.map fun x => (x.1, s.graphNow.opOctets s.q x.1 x.2)) i).toNat % 0xC00000

/-- The value of the highest index in a slot of a ring. -/
def ringSlot (l : List (Int × Int)) (slots j : Nat) : Option Int :=
  ((l.filter fun x => decide (x.1 % (slots : Int) = j)).foldl (fun (b : Option (Int × Int)) x =>
    match b with | some y => if y.1 < x.1 then some x else some y | none => some x) none).map Prod.snd

/-- A slot of an input ring of four quanta: index n in slot n mod 4Q. What waits in a jitter buffer or for the playout offset is not in
the ring yet (R17, R32). -/
def State.inputSlot (s : State) (key j : Nat) : Option Int :=
  let here := (AMap.getD s.audio.rings key []).filter fun x =>
    decide (key < netKey 0 0) || decide (tapKey 0 ≤ key) || s.audio.next.all fun (k : Int) => decide (x.1 < k * s.q)
  ringSlot here (4 * s.q) j

/-- A slot of an output ring of three quanta, in the port format (R17, R260). -/
def State.outputSlot (s : State) (key j : Nat) : Option Int := (ringSlot (AMap.getD s.audio.outs key []) (3 * s.q) j).map (satBits 32)

/-- A slot of a delay line: index n in slot n mod (D + Q), with the label that the quantum of an ordinal has now (R49, R478). -/
def State.lineSlot (s : State) (e : Edge) (j : Nat) : Option Int :=
  match s.audio.lines.find? fun l => decide (l.edge = e), s.audio.next with
  | some l, some k =>
    let label := fun (ord : Nat) => (k - ((s.audio.ord : Int) - ord)) * s.q
    some ((ringSlot (l.chunks.flatMap fun (c : Nat × List Int) => c.2.zipIdx.map fun (v : Int × Nat) => (label c.1 + (v.2 : Int), v.1)) (e.delay + s.q) j).getD 0)
  | _, _ => none

/-- The word at an octet offset of an operation's delay lines, one after another. -/
def State.linesWord (s : State) : List Edge → Nat → Option Int
  | [], _ => none
  | e :: es, r =>
    if r < 8 * (e.delay + s.q) then (s.lineSlot e (r / 8)).map fun v => if r % 8 = 4 then v / 2 ^ 32 else v
    else s.linesWord es (r - 8 * (e.delay + s.q))

/-- The word at an octet offset of an operation's buffers: output ports, port rings, delay lines (R46, R478). -/
def State.bufferOf (s : State) (i : Nat) (o : Op) (r : Nat) : Option Int :=
  let ports := 16 * s.q * o.nout
  let ring := if isReceiver o.kind then 16 * s.q else 12 * s.q
  if r < ports then
    (AMap.find (AMap.getD s.audio.bufs i []) (r / (16 * s.q) * 128 + r % (16 * s.q) / 8)).map fun v => if r % 8 = 4 then v / 2 ^ 32 else v
  else if r - ports < ring * o.portRings then
    let p := (r - ports) / ring
    let j := (r - ports) % ring / 4
    if isReceiver o.kind then s.inputSlot (o.ringKeys.getD p 0) j else s.outputSlot (o.sendKeys.getD p 0) j
  else s.linesWord (s.graphNow.delayLines i) (r - ports - ring * o.portRings)

/-- A word of graph buffer memory; what nothing has written yet, or no rule places, is free (R46, R478). -/
def State.bufferAt (s : State) (off : Nat) : Word :=
  let hit := s.graphNow.ops.findSome? fun x =>
    let b := s.bufferBase x.1
    if decide (b ≤ off) && decide (off < b + s.graphNow.opOctets s.q x.1 x.2) then s.bufferOf x.1 x.2 (off - b) else none
  match hit with | some v => lo32 v | none => Config.bufferWord s.free off

/-- An entry of the operation directory (R478). -/
def State.directoryWord (s : State) (i : Nat) (second : Bool) : Word :=
  match s.graphNow.op i with
  | none => 0
  | some o =>
    if second then w32 (o.nout % 256 + o.portRings % 256 * 2 ^ 8 + (s.graphNow.delayLines i).length % 2 ^ 16 * 2 ^ 16)
    else w32 (s.bufferBase i)

/-- A word of MW2 (R478). -/
def State.mw2Word (s : State) (off : Nat) : Word :=
  let o := off % 2 ^ 24 / 4 * 4
  if o < 0xC00000 then s.bufferAt o
  else if o < 0xC20000 then s.directoryWord ((o - 0xC00000) / 8) (decide (o % 8 = 4))
  else 0

/-- Registers of what the device measures and no command of the table gives: their RC fields clear by the moment of the read (R12). -/
def measuredReg (a : Nat) : Bool := decide (a = rDrmFwdcnt) || decide (a = rDrmLatmax) || (decide (rBmxOutst ≤ a) && decide (a < rBmxOutst + 64))

/-- The register at a decoded offset is read, and its RC fields clear (R12); the pause times of a MAC are counted up to now first (R326). -/
def State.readReg (s0 : State) (a : Nat) : State :=
  let s := if rMacStatus ≤ a ∧ a < rSteStatus then s0.pauseCount ((a - rMacStatus) / 0x400) else s0
  let clears := if measuredReg a then { s.mem with readAt := AMap.put s.mem.readAt a s.now } else s.mem
  let s1 := { s with read := s.regValue a, free := s.free + 1, mem := clears }
  match regRowOf a with
  | some r => if r.fields.any fun f => decide (f.acc = .rc) then s1.setReg a (r.afterRead (s.reg a)) else s1
  | none => s1

/-- A read of a decoded offset: a block that is off answers 0 (R475); a pending write takes effect first, but for offset 0 (R473). -/
def State.hostRead (s : State) (win off a : Nat) : State :=
  if s.blockOff (a / 1024) then { s.offAccess win off with read := 0 }
  else (if a % 1024 = 0 then s else postedWriteComplete (a / 1024) s).readReg a

/-- A read of a bit alias: the bit, without the side effect of an RC field (R477). -/
def State.aliasRead (s : State) (off : Nat) : State :=
  let x := aliasOf off
  if s.blockOff (x.1 / 1024) then { s.offAccess 1 off with read := 0 }
  else
    let s1 := if x.1 % 1024 = 0 then s else postedWriteComplete (x.1 / 1024) s
    { s1 with read := w32 (b2n (bitOf (s1.regValue x.1) x.2)), free := s1.free + 1 }

/-- REGISTER_READ_CLEAR: a read of one doubleword of a window. -/
def registerReadClear (win off : Nat) (s : State) : State :=
  if !s.powered 1 then s
  else if win = 0 then s.hostRead 0 off (mw0Decode off)
  else if win = 1 then s.aliasRead off
  else { s with read := s.mw2Word off, free := s.free + 1 }

/-! ### SPI registers (R415) -/

/-- SPI_REG_READ. -/
def spiRegRead (off : Nat) (s : State) : State :=
  if s.powered 1 then
    let s1 := s.spiOpen.hostRead 0 off (mw0Decode off)
    { s1 with spi := { s1.spi with marker := 0xA5, miso := [s1.read] } }
  else s

/-- SPI_REG_READ_TIMEOUT: the marker 0xFF, four octets 0xFF, and the failure counted; no side effect of the read (R415, R473). -/
def spiRegReadTimeout (s : State) : State :=
  if s.powered 1 then
    let s1 := s.spiOpen
    { s1 with spi := { s1.spi with marker := 0xFF, miso := [0xFFFFFFFF] } }.count 0x16 (8 * 16 + 14)
  else s

/-- SPI_REG_WRITE. -/
def spiRegWrite (off : Nat) (v : Word) (s : State) : State :=
  if s.powered 1 then s.spiOpen.hostWriteAt 0 off (mw0Decode off) v else s

/-! ### Rows for single registers -/

/-- A row of its own for a register at a decoded offset: the write is refused by a block that is off, lost while another one waits, and
takes effect otherwise. -/
def State.rowWrite (s : State) (a : Nat) (f : State → State) : State :=
  let b := a / 1024
  if !s.powered 1 then s
  else if s.blockOff b then s.offAccess 0 a
  else if AMap.has s.posted b then s.orReg (b * 1024) 2
  else f s

/-- CMD_CTAIL_WRITE. -/
def cmdCtailWrite (n : Nat) (v : BitVec 16) (s : State) : State := if n < 8 then s.writeCtail n v else s

/-- CMD_RCONS_WRITE. -/
def cmdRconsWrite (n : Nat) (v : BitVec 16) (s : State) : State := if n < 8 then s.writeRcons n v else s

/-- CMD_CHANNEL_ENABLE: EN rises, with IEN and LOG2K of the same write. -/
def cmdChannelEnable (n : Nat) (ien : Bool) (log2k : Nat) (s : State) : State :=
  if n < 8 then s.writeCmdCfg n (w32 (1 + flagBit ien 1 + log2k % 16 * 2 ^ 4)) else s

/-- CMD_CHANNEL_DISABLE: EN falls, with IEN of the same write. -/
def cmdChannelDisable (n : Nat) (ien : Bool) (s : State) : State := if n < 8 then s.writeCmdCfg n (w32 (flagBit ien 1)) else s

end Sys2Proof.Machine
end

