-- ==== Sys2Proof/Machine/Reset.lean ====
section
/-! DEFINITION. The Reset and Power Controller (R310, R513 to R537, R549): reset sources and their reach, COLD and WARM resets, the release
sequence, clock-good, idle requests, power domains, the supplies, and THERM_ALERT_N. -/
namespace Sys2Proof.Machine

/-! ### Sources (R513 to R515) -/

/-- The effective reach: the widest asserted; 4 when nothing is. -/
def Rpc.reach (r : Rpc) : Nat := r.sources.foldl (fun m x => min m x.reach) 4

/-- The widest source asserted, the first of its reach. -/
def Rpc.widest (r : Rpc) : Option ResetSource := r.sources.find? fun x => decide (x.reach = r.reach)

/-- The value of RPC_LASTCAUSE for a source (Table 18-8). -/
def ResetSource.word (x : ResetSource) : Word := w32 (x.cause % 256 + x.reach % 4 * 2 ^ 8 + x.domain % 16 * 2 ^ 12 + x.block % 256 * 2 ^ 16)

/-- Change the RPC. -/
def State.updRpc (s : State) (f : Rpc → Rpc) : State := { s with rpc := f s.rpc }

/-- A source is asserted; RPC_LASTCAUSE takes the widest one when the reach widens or a new reset begins (R515). -/
def State.noteSource (s : State) (x : ResetSource) : State :=
  let begins := decide (2 ≤ x.reach) && decide (2 ≤ s.rpc.reach)
  let s1 := s.updRpc fun r => { r with sources := r.sources ++ [x] }
  if decide (x.reach < s.rpc.reach) || begins then
    (match s1.rpc.widest with | some y => s1.setReg rRpcLastcause y.word | none => s1)
  else s1

/-- Count a WARM reset, or a DOMAIN or BLOCK reset (RPC_RESETCNT). -/
def State.countReset (s : State) (part : Bool) : State :=
  if part then s.setFld rRpcResetcnt 31 16 (min 65535 (s.regFld rRpcResetcnt 31 16 + 1))
  else s.setFld rRpcResetcnt 15 0 (min 65535 (s.regFld rRpcResetcnt 15 0 + 1))

/-! ### Records in keep SRAM (R534, Table 18-7) -/

/-- Write a reset record. -/
def State.resetRecord (s : State) : State :=
  let h := keepWord s.keep 0xF000
  let slots := keepWord s.keep 0xF004
  let slot := fld slots 5 0
  let s1 := s.keepWrite (0xF040 + 32 * slot)
    [s.reg rRpcLastcause, lo32 s.ns, hi32 s.ns, lo32 s.index, w32 (s.run.code + s.twin.state.code * 2 ^ 4), 0, 0, 0]
  s1.keepWrite 0xF000 [w32 (min 65535 (fld h 15 0 + 1) + fld h 31 16 * 2 ^ 16), w32 ((slot + 1) % 64 + fld slots 13 8 * 2 ^ 8)]

/-- Write a brownout record: rail, bucket, duration in µs, and the device time in ns at its onset. -/
def State.brownoutRecord (s : State) (rail bucket dur : Nat) (ns : Int) : State :=
  let h := keepWord s.keep 0xF000
  let slots := keepWord s.keep 0xF004
  let slot := fld slots 13 8
  let s1 := s.keepWrite (0xF840 + 16 * slot) [w32 (rail % 2 + bucket % 8 * 2 ^ 8), w32 dur, lo32 ns, hi32 ns]
  s1.keepWrite 0xF000 [w32 (fld h 15 0 + min 65535 (fld h 31 16 + 1) * 2 ^ 16), w32 (fld slots 5 0 + (slot + 1) % 64 * 2 ^ 8)]

/-! ### COLD and WARM resets (R516, Table 18-2) -/

/-- Mask of a register's RWS fields. -/
def RegRow.rws (r : RegRow) : Nat := nsum (r.fields.map fun f => if f.acc = .rws then f.mask else 0)

/-- The registers that outlive a WARM reset: RWS fields, RPC_LASTCAUSE and RPC_RESETCNT. -/
def warmRegs (m : AMap Word) : AMap Word :=
  m.filterMap fun (x : Nat × Word) =>
    if x.1 = rRpcLastcause ∨ x.1 = rRpcResetcnt then some x
    else match regRowOf x.1 with
      | some r => if r.rws = 0 then none else some (x.1, (r.resetWord &&& ~~~(w32 r.rws)) ||| (x.2 &&& w32 r.rws))
      | none => none

/-- The Twin Unit after a WARM reset: FENCED while ENABLE is kept (R376). -/
def Twin.warm (t : Twin) (now : Nat) : Twin :=
  if t.enabled then
    { state := .fenced, enabled := true, fenced := true, renewAt := now, pstate := 1,
      left := if t.left.isSome then t.left else if t.state = .fenced then none else some t.state }
  else {}

/-- A WARM reset: every domain but PD_AON loses its contents; the device is LOADING. -/
def State.warmReset (s : State) : State :=
  { State.reset with now := s.now, free := s.free, pending := s.pending, run := .loading, pd := 1, log := [], regs := warmRegs s.regs,
                     tu := { s.timeWarm.tu with mcg := 0, refFrom := s.now, refSeen := 0 }, keep := s.keep, keepCrc := s.keepCrc, keepDue := true,
                     twin := s.twin.warm s.now, rpc := { s.rpc with idle := [], busy := 0, waits := [], stepAt := s.now } }

/-- A COLD reset: everything is lost; the fuse macro is read again (R516, R525, R526). -/
def State.coldReset (s : State) : State :=
  { State.reset with now := s.now, free := s.free + 1, pending := s.pending, run := .loading, pd := 1, log := [],
                     regs := [(rRpcLastcause, s.reg rRpcLastcause)], tu := { refFrom := s.now },
                     rpc := { sources := s.rpc.sources, warn := s.rpc.warn, therm := s.rpc.therm, stepAt := s.now, fuseRead := true,
                              fuseOk := Config.fuseValid s.free } }

/-! ### Clock-good (R20, R520, R521) -/

/-- Clock-good of a clock, numbered as in CLK_GOOD: CLK_REF 0, CLK_AON 1, CLK_CORE 2, CLK_FAB 3, CLK_CTRL 4, CLK_CNT 5, CLK_SAPGn 6 + n,
CLK_MACm 18 + m, CLK_ZLp 22 + p, CLK_TWL 26, CLK_DRAM 27, CLK_PCIE 28. -/
def State.clockGood (s : State) (c : Nat) : Bool := bitOf s.tu.good c

/-- The clocks that a domain waits on are good. -/
def State.domainClocked (s : State) (d : Nat) : Bool := (domainClocks d).all s.clockGood

/-- A source holds a domain in reset by its own scope (R514, R517). -/
def State.domainHeld (s : State) (d : Nat) : Bool := s.rpc.sources.any fun x => decide (x.reach = 2) && (domainClosure x.domain).contains d

/-- A domain leaves reset, or waits for its clocks. -/
def State.tryUp (s : State) (d : Nat) : State :=
  if s.domainHeld d || s.powered d then s
  else if s.domainClocked d then s.domainUp d
  else s.updRpc fun r => { r with waits := if r.waits.contains d then r.waits else r.waits ++ [d], stepAt := s.now }

/-- A domain and those that require it leave reset, as they are wanted; PD_DRAM, which no request names, when it is the one reset. -/
def State.closureUp (s : State) (d : Nat) : State :=
  (domainClosure d).foldl (fun (s : State) x => if s.domainWanted x || (decide (x = 14) && decide (d = 14)) then s.tryUp x else s) s

/-- PLL of a clock (Table 01-5), by its bit in CLK_STATUS.LOCK. -/
def pllOf (c : Nat) : Option Nat := if c = 2 then some 0 else if c = 3 then some 1 else if c = 4 then some 2 else if c = 5 then some 3 else if c = 27 then some 4 else none

/-- The clock of a PLL. -/
def pllClock (p : Nat) : Nat := if p = 0 then 2 else if p = 1 then 3 else if p = 2 then 4 else if p = 3 then 5 else 27

/-- Master ports isolated give way when their block or domain leaves reset (R501). -/
def State.clearIso (s : State) (ports : List Nat) : State :=
  if ports.isEmpty then s else s.clrReg rBmxIso (nsum (ports.eraseDups.map fun p => 2 ^ p))

/-- Master ports of the blocks that a source resets. -/
def ResetSource.ports (x : ResetSource) : List Nat :=
  (if x.reach = 3 then [x.block] else (domainClosure x.domain).flatMap domainBlocks).filterMap blockPort |>.eraseDups

/-! ### Release (R520, R523, Table 18-4) -/

/-- Clocks held under R521. -/
def State.heldClocks (s : State) : List Nat := (List.range 32).filter fun c => bitOf (s.reg rRpcHeld) c

/-- Steps 3 and 4: PD_CTRL is released, the log starts with RESET, keep SRAM is judged, and PD_FAB follows when its clocks are good. -/
def State.enterBoot (s : State) : State :=
  let s1 := { s with run := .boot, pd := 3, log := [], rpc := { s.rpc with stepAt := s.now } }
  let s2 := (s1.logNow evReset [(s.reg rRpcLastcause).toNat]).keepCheck
  let s3 := s2.heldClocks.foldl (fun (s : State) _ => s.logNow evClockNotGood) s2.twinWarmed
  s3.tryUp 2

/-- No source of reach WARM or wider is asserted, so the release may go on. -/
def State.releasing (s : State) : Bool := decide (2 ≤ s.rpc.reach)

/-- The release goes on as far as clock-good lets it; with a fuse map that failed its check the device stays in LOADING (R525). -/
def State.release (s : State) : State :=
  if decide (s.run = .loading) && s.releasing && s.rpc.fuseOk && s.clockGood 4 then s.enterBoot else s

/-- The scope of a DOMAIN or BLOCK source leaves reset (R514, R520). -/
def State.freeScope (s : State) (x : ResetSource) : State := (if x.reach = 2 then s.closureUp x.domain else s).clearIso x.ports

/-- A source releases (R514). -/
def State.dropSource (s : State) (x : ResetSource) : State :=
  let wide := s.rpc.reach
  let s1 := s.updRpc fun r => { r with sources := r.sources.erase x }
  if x.reach ≤ 1 then (if decide (wide ≤ 1) && s1.releasing then { s1 with rpc := { s1.rpc with stepAt := s1.now } }.release else s1)
  else if s1.run = .loading ∨ s1.run = .boot then s1 else s1.freeScope x

/-- RESET_SOURCE_RELEASE of the first source asserted with a cause. -/
def resetSourceRelease (cause : Nat) (s : State) : State :=
  match s.rpc.sources.find? fun x => decide (x.cause = cause) with
  | some x => if cause = 9 then s else s.dropSource x
  | none => s

/-! ### Assertion -/

/-- The scope of a DOMAIN or BLOCK source is held in reset (R516, R517, R529). -/
def State.holdScope (s : State) (x : ResetSource) : State :=
  let s1 := s.countReset true
  if x.reach = 2 then s1.closureDown x.domain else s1.resetBlock x.block

/-- A source is asserted: COLD and WARM resets apply at once; DOMAIN and BLOCK resets first ask for idle (R514, R516, R528). -/
def State.assertSource (s : State) (x : ResetSource) : State :=
  if s.rpc.sources.contains x then s
  else
    let old := s.rpc.reach
    let s1 := s.noteSource x
    if x.reach = 0 then (if old = 0 then s1 else s1.coldReset)
    else if x.reach = 1 then (if old ≤ 1 then s1 else (s1.resetRecord.countReset false).warmReset)
    else if s.run = .loading ∨ s.run = .boot then (if x.reach = 2 then s1.closureDown x.domain else s1.resetBlock x.block)
    else s1.updRpc fun r => { r with idle := r.idle ++ [⟨some x, x.ports, if x.reach = 2 then domainClosure x.domain else [], s.now⟩] }

/-- A supply that reaches its reset level: a brownout record with bucket 7 first (R532). -/
def State.brownoutEnds (s : State) (rail : Nat) : State :=
  match s.rpc.warn.find? fun b => decide (b.rail = rail) with
  | some b =>
    (s.updRpc fun r => { r with warn := r.warn.filter fun y => !decide (y.rail = rail) }).brownoutRecord rail 7 (cdivN (s.now - b.since) 400) b.ns
  | none => s

/-- The source that a cause asserts by itself (Table 18-1); the other causes have rows of their own. -/
def State.sourceOf (s : State) (cause : Nat) : Option ResetSource :=
  match cause with
  | 1 => some ⟨1, 0, 0, 0⟩
  | 2 => some ⟨2, 0, 0, 0⟩
  | 3 => some ⟨3, 1, 0, 0⟩
  | 4 => some ⟨4, 1, 0, 0⟩
  | 5 => some (if bitOf (s.reg rRpcCtl) 0 then ⟨5, 2, 15, 0⟩ else ⟨5, 1, 0, 0⟩)
  | _ => none

/-- RESET_SOURCE_ASSERT of causes 0x01 to 0x05. -/
def resetSourceAssert (cause : Nat) (s : State) : State :=
  match s.sourceOf cause with
  | some x =>
    if s.rpc.sources.any fun y => decide (y.cause = cause) then s
    else (if cause = 2 then s.brownoutEnds 1 else if cause = 3 then s.brownoutEnds 0 else s).assertSource x
  | none => s

/-- POWER_ON_TIMER: the supplies have been good for 1 ms. -/
def powerOnTimer (s : State) : State := resetSourceRelease 1 s

/-- FIRMWARE_WATCHDOG: asserted from the expiry until its WARM reset is applied (R519). -/
def firmwareWatchdog (s : State) : State := if s.powered 1 then (s.assertSource ⟨6, 1, 0, 0⟩).dropSource ⟨6, 1, 0, 0⟩ else s

/-- RESET_SCOPE_APPLY: the reset that RESET_SCOPE asked for, from 100 µs after its reply (R448). -/
def resetScopeApply (s : State) : State :=
  match s.pendReset with
  | some x =>
    if s.now < x.replied + ticksOfUs 100 then s
    else { s with pendReset := none }.assertSource ⟨7, x.reach, if x.reach = 2 then x.domain else 0, if x.reach = 3 then x.block else 0⟩
  | none => s

/-- FENCEREQ_RECEIVED is recorded under cause 0x08; it acts on the output drivers alone (R513, R402). -/
def fenceRequested (force : Bool) (s : State) : State :=
  match s.fenceSelf force with
  | some t => ((t.noteSource ⟨8, 3, 0, 0⟩).updRpc fun _ => t.rpc).countReset true
  | none => s

/-! ### Idle requests and domains (R528, R535, R536) -/

/-- An idle request ends: the reset it precedes applies, at once over when its source has released meanwhile; or its domains may go off. -/
def State.idleDone (s : State) (x : IdleRequest) : State :=
  let s1 := s.updRpc fun r => { r with idle := r.idle.erase x }
  match x.source with
  | some y => if s1.rpc.sources.contains y then s1.holdScope y else (s1.holdScope y).freeScope y
  | none => s1

/-- BLOCK_IDLE_REPORTED for the first idle request whose first port or domain is named by its place in the list. -/
def blockIdleReported (i : Nat) (s : State) : State := match s.rpc.idle[i]? with | some x => s.idleDone x | none => s

/-- IDLETO in ticks. -/
def State.idleLimit (s : State) : Nat := ticksOfUs (max 1 (s.regFld rRpcCtl 15 8))

/-- IDLE_TIMEOUT: the ports are isolated, BUS_HANG is logged with each master, and the reset goes on (R501, R528). -/
def idleTimeout (i : Nat) (s : State) : State :=
  match s.rpc.idle[i]? with
  | some x =>
    if s.now < x.since + s.idleLimit then s
    else
      let s1 := x.ports.foldl (fun (s : State) (p : Nat) => (((s.orReg rBmxIso (2 ^ p)).setEvt rBmxEvt 3).logNow evBusHang [(p : Int)])) s
      s1.idleDone x
  | none => s

/-- DOMAIN_POWER_DONE: a change that RPC_PDREQ asked for is complete; PDDONE sets with the last one. -/
def domainPowerDone (d : Nat) (s : State) : State :=
  if !(s.rpc.busy.testBit d && decide (d < 16)) || s.rpc.idle.any (fun x => x.domains.contains d) then s
  else
    let want := bitOf (s.reg rRpcPdreq) d
    if want && (!s.domainClocked d || s.domainHeld d) then s
    else
      let s1 := if want then (s.domainUp d).clearIso ((domainBlocks d).filterMap blockPort) else s.closureDown d
      let s2 := s1.updRpc fun r => { r with busy := r.busy &&& (65535 - 2 ^ d), waits := r.waits.filter fun x => !decide (x = d) }
      if s2.rpc.busy = 0 then s2.setEvt rRpcEvt 3 else s2

/-! ### Clocks (R292, R309, R310, R520 to R522) -/

/-- Put the clock-good bit of a clock, and the lock of its PLL. -/
def State.putClock (s : State) (c : Nat) (on : Bool) : State :=
  let good := if on then s.tu.good ||| w32 (2 ^ c) else s.tu.good &&& ~~~(w32 (2 ^ c))
  let locks := match pllOf c with | some p => s.tu.locks.set p on | none => s.tu.locks
  { s with tu := { s.tu with good := good, locks := locks, counting := if c = 5 then on else s.tu.counting } }

/-- CLOCK_GOOD_ASSERT: what waits on the clock is released (R520, R522); after a loss of PLL_CNT the servo is in HOLDOVER (R309). -/
def clockGoodAssert (c : Nat) (s : State) : State :=
  if s.clockGood c || decide (29 ≤ c) then s
  else
    let s1 := s.putClock c true
    let s2 := if decide (c = 5) && decide (0 < s.tu.raw) then s1.enterHoldover else s1
    if bitOf (s2.reg rRpcHeld) c then s2
    else if s2.run = .loading then s2.release
    else
      let freed := s2.rpc.sources.filter fun x => decide (x.cause = 9) && s2.domainClocked x.domain
      let s3 := freed.foldl (fun (s : State) x => s.dropSource x) s2
      let up := s3.rpc.waits.filter fun d => s3.domainClocked d && !s3.rpc.busy.testBit d
      let s4 := s3.updRpc fun r => { r with waits := r.waits.filter fun d => !up.contains d }
      let s5 := up.foldl (fun (s : State) d => s.tryUp d) s4
      if s5.run = .boot then s5.tryUp 2 else s5

/-- Block code recorded for a clock that is not good (Table 18-5). -/
def clockBlockCode (c : Nat) : Nat :=
  if c = 2 then 0x01 else if 6 ≤ c ∧ c ≤ 17 then 0x10 + (c - 6) else if 18 ≤ c ∧ c ≤ 21 then 0x20 + (c - 18)
  else if 22 ≤ c ∧ c ≤ 25 then 0x28 + (c - 22) else if c = 26 then 0x2C else if c = 27 then 0x30 else if c = 28 then 0x31 else 0

/-- CLOCK_GOOD_TIMEOUT: a clock-good has not come within 2 ms of the step that waits on it (R521). -/
def clockGoodTimeout (c : Nat) (s : State) : State :=
  let waits := decide (s.run = .loading) || decide (s.run = .boot) || s.rpc.waits.any fun d => (domainClocks d).contains c
  if s.clockGood c || decide (29 ≤ c) || !waits || !s.releasing || bitOf (s.reg rRpcHeld) c || decide (s.now < s.rpc.stepAt + ticksOfMs 2) then s
  else
    let s1 := (s.orReg rRpcHeld (2 ^ c)).setEvt rRpcEvt 2
    let s2 := ((s1.setFld rRpcLastcause 7 0 0x0A).setFld rRpcLastcause 23 16 (clockBlockCode c)).resetRecord
    if s2.powered 1 then s2.logNow evClockNotGood else s2

/-- What PD_CTRL loses when CLK_CTRL is lost: channels, patch, board table, its register blocks, the lease logic, telemetry and the event
log (Table 01-7). -/
def State.resetCtrl (s : State) : State :=
  let s1 := (List.range 16).foldl (fun (s : State) n => s.resetChannel n) s
  let s2 := { s1 with fw := {}, board := [], build := none, changes := [], subs := [], log := [], runs := [], counters := [], spi := {}, posted := [], twin := s1.twin.warm s1.now }
  { s2 with regs := s2.regs.filter fun x => let b := x.1 / 1024; !([0, 1, 4, 7].contains b || (decide (8 ≤ b) && decide (b ≤ 19))) }

/-- The domain that the loss of a PLL resets (R522); none for PLL_CNT. -/
def pllDomain (p : Nat) : Option Nat := if p ≤ 1 then some 2 else if p = 2 then some 1 else if p = 4 then some 14 else none

/-- PLL_LOCK_LOSS: clock-good falls, the loss is counted, and every domain fed is reset; with operations of the graph the device halts
(R310, R522). -/
def pllLockLoss (p : Nat) (s : State) : State :=
  if !(s.tu.locks.getD p false) then s
  else
    let s1 := ((s.putClock (pllClock p) false).setEvt rClkEvt (1 + p)).bump rClkLosscnt
    match pllDomain p with
    | none => s1
    | some d =>
      let used := s1.cfg.graph.isSome && (domainClosure d).any fun x => s1.graphUses x
      let s2 := if used then s1.halted 2 else s1
      let x : ResetSource := ⟨9, 2, d, 0⟩
      if s2.rpc.sources.contains x then s2
      else
        let s3 := ((s2.noteSource x).countReset true).closureDown d
        if d = 1 then s3.resetCtrl else s3

/-! ### READY (Table 18-4, steps 5 to 8) -/

/-- Clocks that run by the end of the release sequence: all but those of the SAP groups, which their balls or synthesisers drive, and
those held. -/
def State.clocksGood (s : State) : State :=
  (([0, 1, 2, 3, 4, 5] ++ span 18 11).filter fun c => !bitOf (s.reg rRpcHeld) c).foldl (fun (s : State) c => s.putClock c true) s

/-- The fuse macro read, if no option loading has read it yet (R525, R526). -/
def State.fusesRead (s : State) : State :=
  if s.rpc.fuseRead then s else { s with free := s.free + 1, rpc := { s.rpc with fuseRead := true, fuseOk := Config.fuseValid s.free } }

/-- The domains that are wanted, not held in reset and on no clock of RPC_HELD are on (Table 18-4, steps 4 to 7). -/
def State.domainsReleased (s : State) : State :=
  (List.range 16).foldl (fun (s : State) d =>
    if s.domainWanted d && !s.domainHeld d && !(domainClocks d).any (fun c => bitOf (s.reg rRpcHeld) c) then s.domainUp d else s) s

/-- READY with the SPI channel enabled, and no domain waiting (Table 18-4, step 8). -/
def State.becomeReady (s : State) : State :=
  { s.updChan 8 fun c => { c with enabled := true } with run := .ready, rpc := { s.rpc with waits := [] } }

/-- READY_ENTRY. -/
def readyEntry (s : State) : State :=
  if decide (s.run = .boot) && s.releasing then s.clocksGood.fusesRead.keepCheck.domainsReleased.becomeReady else s

/-! ### Supplies (R530 to R532) -/

/-- The register of a rail's measurements. -/
def railReg (rail : Nat) : Nat := if rail = 0 then rRpcVcore else rRpcVaon

/-- A lower level is the lowest since the last read. -/
def State.railMin (s : State) (rail mv : Nat) : State := s.setFld (railReg rail) 27 16 (min (s.regFld (railReg rail) 27 16) mv)

/-- SUPPLY_WARNING of a rail, 0 VDD_CORE or 1 VDD_AON, at a level in mV (R531). -/
def supplyWarning (rail mv : Nat) (s : State) : State :=
  if s.rpc.warned rail || decide (2 ≤ rail) then s
  else
    let s1 := s.updRpc fun r => { r with warn := r.warn ++ [⟨rail, s.now, s.ns⟩] }
    (((s1.setEvt rRpcEvt 0).orReg rRpcBkp31 1).railMin rail mv).brownoutHandover

/-- The bucket of R532 for a lowest level in mV. -/
def bucketOf (mv : Nat) : Nat := min 6 ((695 - mv) / 5)

/-- SUPPLY_RECOVERY of a rail whose lowest level in mV was `low` (R532). -/
def supplyRecovery (rail low : Nat) (s : State) : State :=
  match s.rpc.warn.find? fun b => decide (b.rail = rail) with
  | some b =>
    let dur := cdivN (s.now - b.since) 400
    let s1 := (s.updRpc fun r => { r with warn := r.warn.filter fun y => !decide (y.rail = rail) }).railMin rail low
    let s2 := (s1.logNow evBrownoutWarn [rail, bucketOf low, dur]).setReg rRpcBrlast (w32 (rail + bucketOf low * 2 ^ 4 + min (2 ^ 24 - 1) dur * 2 ^ 8))
    ((s2.brownoutRecord rail (bucketOf low) dur b.ns).bump rRpcBrcnt).setEvt rRpcEvt 1
  | none => s

/-! ### THERM_ALERT_N (R549) -/

/-- The highest junction temperature in °C. -/
def tjMax : Int := if Config.gradeE then 105 else 100

/-- THERM_ALERT_CHANGE: the die temperature in 1/256 °C. -/
def thermAlertChange (temp : Int) (s : State) : State :=
  if (tjMax - 5) * 256 ≤ temp then s.updRpc fun r => { r with therm := true }
  else if temp < (tjMax - 10) * 256 then s.updRpc fun r => { r with therm := false } else s

end Sys2Proof.Machine
end

