-- ==== Sys2Proof/Machine/Row.lean ====
section
/-! DEFINITION. The two shapes of a row's meaning: a command packet that the interpreter takes, and an event at its moment. -/
namespace Sys2Proof.Machine

/-- The outcome of a row. -/
abbrev Answer := Host.Outcome State Fault Refusal

/-- An event at environment time t: its effect, and what follows from that at once. -/
def eventRow (f : State → State) (t : Nat) (s : State) : Answer := .next (f (s.atTime t)).settle

/-- A packet of a command of the catalogue that has passed steps 1 to 5 of Table 14-7, at environment time t. -/
def runRow (c : CmdSpec) (t : Nat) (p : Packet) (s : State) : Answer := .next (c.interpret p (s.atTime t)).settle

/-- TIME_STEP_APPLY with the labels of the samples under way (R36). -/
def timeStepRow (s : State) : State :=
  match s.tu.servo.step with
  | some st => if st.boundary ≤ s.index then (timeStepApply s).relabelled st.boundary (s.quantaOf st.delta * s.q) else s
  | none => s

end Sys2Proof.Machine
end

