-- ==== Sys2Proof/Machine/EventsAccess.lean ====
section
/-! DEFINITION. Accesses of the host to registers: one meaning for each row. -/
namespace Sys2Proof.Machine

/-- REGISTER_WRITE (R12). Write to a register field without its own row, taking effect by access type, posting and decode rules. -/
def execRegisterWrite (t : Nat) (win : Nat) (off : Nat) (be : Nat) (v : Word) (s : State) : Answer := eventRow (registerWrite win off be v) t s

/-- REGISTER_READ_CLEAR (R12). Read of an RC field returns its value and clears it. -/
def execRegisterReadClear (t : Nat) (win : Nat) (off : Nat) (s : State) : Answer := eventRow (registerReadClear win off) t s

/-- BIT_ALIAS_WRITE (R477). MW1 write updates one bit of an MW0 register atomically. -/
def execBitAliasWrite (t : Nat) (off : Nat) (v : Word) (s : State) : Answer := eventRow (bitAliasWrite off v) t s

/-- POSTED_WRITE_COMPLETE (R472). A posted write takes effect in its home domain and XBUSY clears. -/
def execPostedWriteComplete (t : Nat) (b : Nat) (s : State) : Answer := eventRow (postedWriteComplete b) t s

/-- POSTED_WRITE_TIMEOUT (R474). A posted write not taken effect after 10 µs is discarded with WLOST. -/
def execPostedWriteTimeout (t : Nat) (b : Nat) (s : State) : Answer := eventRow (postedWriteTimeout b) t s

/-- TIM_SNAP (R315). Writing TIM_CTL.SNAP captures raw count, device time and media index in one cycle. -/
def execTimSnap (t : Nat) (s : State) : Answer := eventRow (fun s => s.rowWrite rTimCtl timSnap) t s

/-- SAPG_WTPOP (R288). Writing SAPG_WTPOP removes the head witness entry of the selected unit. -/
def execSapgWtpop (t : Nat) (v : Word) (s : State) : Answer := eventRow (fun s => s.rowWrite rSapgWtpop (sapgWtpop v)) t s

/-- IRQ_EOI (R480). Writing IRQ_EOI re-arms vectors, sending again if the source is asserted. -/
def execIrqEoi (t : Nat) (v : Word) (s : State) : Answer := eventRow (fun s => s.rowWrite rIrqEoi (irqEoi v)) t s

/-- IRQ_MSIX_UNMASK (R480). Clearing a vector mask sends its held message if conditions still hold. -/
def execIrqMsixUnmask (t : Nat) (i : Option Nat) (s : State) : Answer := eventRow (fun s => s.rowWrite rIrqMsixctl (irqMsixUnmask i)) t s

/-- CMD_CTAIL_WRITE (R410). Writing CMD_CTAILn gives new command entries, or is ignored as a ring error. -/
def execCmdCtailWrite (t : Nat) (n : Nat) (v : BitVec 16) (s : State) : Answer := eventRow (fun s => s.rowWrite rCmdCtail (cmdCtailWrite n v)) t s

/-- CMD_RCONS_WRITE (R410). Writing CMD_RCONSn frees reply entries, or is ignored as a ring error. -/
def execCmdRconsWrite (t : Nat) (n : Nat) (v : BitVec 16) (s : State) : Answer := eventRow (fun s => s.rowWrite rCmdRcons (cmdRconsWrite n v)) t s

/-- CMD_CHANNEL_ENABLE (R484). Setting CMD_CFGn.EN zeroes the ring indices and writes the status block. -/
def execCmdChannelEnable (t : Nat) (n : Nat) (ien : Bool) (log2k : Nat) (s : State) : Answer :=
  eventRow (fun s => s.rowWrite rCmdCfg (cmdChannelEnable n ien log2k)) t s

/-- CMD_CHANNEL_DISABLE (R484). Clearing CMD_CFGn.EN stops fetching and resets the channel after the executing command. -/
def execCmdChannelDisable (t : Nat) (n : Nat) (ien : Bool) (s : State) : Answer :=
  eventRow (fun s => s.rowWrite rCmdCfg (cmdChannelDisable n ien)) t s

/-- MAC_RXTAIL_WRITE (R340). Writing a receive tail gives receive descriptors to the device. -/
def execMacRxtailWrite (t : Nat) (m : Nat) (r : Nat) (tail : Nat) (ds : List GivenDesc) (s : State) : Answer :=
  eventRow (fun s => if m < 4 ∧ r < 2 then s.rowWrite (rMacRxtail + 0x400 * m + 4 * r) (macRxtailWrite m r tail ds) else s) t s

/-- MAC_TXTAIL_WRITE (R339). Writing a transmit tail gives transmit descriptors to the device. -/
def execMacTxtailWrite (t : Nat) (m : Nat) (r : Nat) (tail : Nat) (ds : List GivenDesc) (s : State) : Answer :=
  eventRow (fun s => if m < 4 ∧ r < 2 then s.rowWrite (rMacTxtail + 0x400 * m + 4 * r) (macTxtailWrite m r tail ds) else s) t s

/-- RPC_PDREQ_WRITE (R535). Writing RPC_PDREQ switches host-controlled power domains or is refused into RPC_PDERR. -/
def execRpcPdreqWrite (t : Nat) (v : Word) (s : State) : Answer := eventRow (fun s => s.rowWrite rRpcPdreq (rpcPdreqWrite v)) t s

/-- PCIE_LINK_CHANGE (R436). The PCIe link goes down or comes up, changing whether host-address commands are accepted and whether tap blocks towards the host can be written. -/
def execPcieLinkChange (t : Nat) (up : Bool) (enable : Bool) (mask : Bool) (s : State) : Answer := eventRow (pcieLinkChange up enable mask) t s

end Sys2Proof.Machine
end

