-- ==== Sys2Proof/Machine/EventsEngine.lean ====
section
/-! DEFINITION. What the scheduler and the engines do at their moments: one meaning for each row. -/
namespace Sys2Proof.Machine

/-- TIMED_COMMAND_APPLY (R62). An accepted timed change takes effect when its selected index or quantum boundary arrives. -/
def execTimedCommandApply (t : Nat) (s : State) : Answer := eventRow timedCommandApply t s

/-- QUANTUM_READINESS (R235). At the readiness time of quantum k the scheduler marks every source operation ready and substitutes missing inputs. -/
def execQuantumReadiness (t : Nat) (k : Int) (s : State) : Answer := eventRow (quantumReadiness k) t s

/-- INSTANCE_DISPATCH (R239). The scheduler moves the head of a ready list into a free engine slot or starts the next sequenced pass. -/
def execInstanceDispatch (t : Nat) (l : Nat) (s : State) : Answer := eventRow (instanceDispatch l) t s

/-- INSTANCE_COMPLETE (R235). An instance completes and makes ready every instance whose last dependency it was. -/
def execInstanceComplete (t : Nat) (k : Int) (i : Inst) (s : State) : Answer := eventRow (instanceCompleted k i) t s

/-- SCHEDULER_TICK (R243). At each microsecond tick, delay-list entries whose release tick has arrived move to their ready lists. -/
def execSchedulerTick (t : Nat) (s : State) : Answer := eventRow schedulerTick t s

/-- WAIT_TIMEOUT (R245). A dispatched instance over its wait limit is stopped, its slot freed and its outputs zeroed. -/
def execWaitTimeout (t : Nat) (k : Int) (i : Inst) (s : State) : Answer := eventRow (waitTimedOut k i) t s

/-- SINK_DEADLINE (R246). At the sink deadline of quantum k incomplete sinks miss, old instances are retired and transmit DMA takes the quantum. -/
def execSinkDeadline (t : Nat) (k : Int) (s : State) : Answer := eventRow (sinkDeadline k) t s

/-- FILTER_SWAP_COPY_DONE (R177). The copy of new spectra into the polders completes and the staging slot returns to FREE. -/
def execFilterSwapCopyDone (t : Nat) (i : Nat) (s : State) : Answer := eventRow (filterSwapCopyDone i) t s

end Sys2Proof.Machine
end

