-- ==== Sys2Proof/Machine/EventsMemory.lean ====
section
/-! DEFINITION. What happens in the memory system: one meaning for each row. -/
namespace Sys2Proof.Machine

/-- POLDER_READY (R492). A polder completes FILL or return from RETAIN and waiting accesses proceed. -/
def execPolderReady (t : Nat) (p : Nat) (s : State) : Answer := eventRow (polderReady p) t s

/-- POLDER_SCRUB (R495). Periodic check of polder words corrects or reports ECC errors. -/
def execPolderScrub (t : Nat) (off : Nat) (err : Option Bool) (master : Option Nat) (s : State) : Answer := eventRow (polderScrub off err master) t s

/-- BUS_TRANSACTION_TIMEOUT (R499). A transaction outstanding for WTO µs is retired with an error and logged as BUS_HANG. -/
def execBusTransactionTimeout (t : Nat) (m : Nat) (id : Nat) (addr : Nat) (s : State) : Answer := eventRow (busTransactionTimeout m id addr) t s

/-- BUS_LATE_RESPONSE (R500). A response to a retired transaction is discarded and counted. -/
def execBusLateResponse (t : Nat) (m : Nat) (id : Nat) (s : State) : Answer := eventRow (busLateResponse m id) t s

/-- DRAM_REFRESH (R507). A per-bank refresh interval expires and the bank is refreshed with any pending neighbour refresh. -/
def execDramRefresh (t : Nat) (c : Nat) (neighbours : Nat) (s : State) : Answer := eventRow (dramRefresh c neighbours) t s

/-- DRAM_MR4_POLL (R507). Every 4 ms MR4 is read; rate changes set TEMP and faults set FAULT. -/
def execDramMr4Poll (t : Nat) (rates : List Nat) (fault : Bool) (s : State) : Answer := eventRow (dramMr4Poll rates fault) t s

/-- DRAM_SELF_REFRESH_ENTRY (R509). A channel idle for SRTIME enters self-refresh in READY or HALTED. -/
def execDramSelfRefreshEntry (t : Nat) (c : Nat) (request : Bool) (s : State) : Answer := eventRow (dramSelfRefreshEntry c request) t s

/-- DRAM_SELF_REFRESH_EXIT (R509). A waiting request exits self-refresh after minimum residency and is served. -/
def execDramSelfRefreshExit (t : Nat) (c : Nat) (s : State) : Answer := eventRow (dramSelfRefreshExit c) t s

/-- DRAM_OPPOINT_SWITCH (R510). At the first sink deadline after acceptance requests are held and write queues drained. -/
def execDramOppointSwitch (t : Nat) (s : State) : Answer := eventRow dramOppointSwitch t s

/-- DRAM_OPPOINT_DONE (R510). After self-refresh, relock and timing swap the channels resume and OPDONE sets. -/
def execDramOppointDone (t : Nat) (s : State) : Answer := eventRow dramOppointDone t s

/-- STATE_SAVE_COMPLETE (R456). A snapshot capture completes and STATE_SAVE is answered with size, CRC and index. -/
def execStateSaveComplete (t : Nat) (s : State) : Answer := eventRow stateSaveComplete t s

end Sys2Proof.Machine
end

