-- ==== Sys2Proof/Machine/EventsNet.lean ====
section
/-! DEFINITION. What happens at the media network ports: one meaning for each row. -/
namespace Sys2Proof.Machine

/-- MAC_FRAME_RECEIVED (R317). An intact received frame is classified and passed to one consumer or dropped. -/
def execMacFrameReceived (t : Nat) (m : Nat) (f : RxFrame) (fill : Nat) (s : State) : Answer := eventRow (macFrameReceived m f fill) t s

/-- PAUSE_FRAME_RECEIVED (R318). A received pause frame holds or releases the transmit queues when HONOR is set. -/
def execPauseFrameReceived (t : Nat) (m : Nat) (n : Nat) (s : State) : Answer := eventRow (pauseFrameReceived m n) t s

/-- PAUSE_HOLD_EXPIRY (R318). The hold time of a received pause runs out and the queues resume. -/
def execPauseHoldExpiry (t : Nat) (m : Nat) (s : State) : Answer := eventRow (pauseHoldExpiry m) t s

/-- PAUSE_REPEAT (R319). Half of t_p elapsed with fill above the low watermark repeats the pause frame. -/
def execPauseRepeat (t : Nat) (m : Nat) (fill : Nat) (s : State) : Answer := eventRow (pauseRepeat m fill) t s

/-- MAC_FRAME_TRANSMIT (R322). A MAC starts the next frame by strict priority and shaper credit. -/
def execMacFrameTransmit (t : Nat) (m : Nat) (s : State) : Answer := eventRow (macFrameTransmit m) t s

/-- MAC_FRAME_SENT (R338). A transmitted frame completes and its auxiliary descriptors are written back. -/
def execMacFrameSent (t : Nat) (m : Nat) (aborted : Bool) (s : State) : Answer := eventRow (macFrameSent m aborted) t s

/-- MEDIA_PACKET_LATE_DROP (R324). A media packet not started within 1 ms of queueing is discarded. -/
def execMediaPacketLateDrop (t : Nat) (m : Nat) (s : State) : Answer := eventRow (mediaPacketLateDrop m) t s

/-- MAC_LINK_CHANGE (R325). Link loss or return on a MAC changes stream delivery and raises LINKCHG. -/
def execMacLinkChange (t : Nat) (m : Nat) (up hiber : Bool) (s : State) : Answer := eventRow (macLinkChange m up hiber) t s

/-- STREAM_PACKET_RECEIVED (R332). A stream packet's samples are written to the jitter buffer or discarded as late, early, duplicate or bad. -/
def execStreamPacketReceived (t : Nat) (m : Nat) (r : RtpPacket) (s : State) : Answer := eventRow (streamPacketReceived m r) t s

/-- STREAM_DOWN_TIMEOUT (R335). A receive stream with no accepted packet for 64 packet times enters DOWN. -/
def execStreamDownTimeout (t : Nat) (i : Nat) (s : State) : Answer := eventRow (streamDownTimeout i) t s

end Sys2Proof.Machine
end

