-- ==== Sys2Proof/Machine/EventsReset.lean ====
section
/-! DEFINITION. Resets, clocks, power, supplies and temperature: one meaning for each row. -/
namespace Sys2Proof.Machine

/-- RESET_SOURCE_ASSERT (R514). A reset source asserts, widening the effective reach and entering LOADING. -/
def execResetSourceAssert (t : Nat) (cause : Nat) (s : State) : Answer := eventRow (resetSourceAssert cause) t s

/-- RESET_SOURCE_RELEASE (R514). A reset source releases; when the effective reach is free the release sequence starts. -/
def execResetSourceRelease (t : Nat) (cause : Nat) (s : State) : Answer := eventRow (resetSourceRelease cause) t s

/-- POWER_ON_TIMER (R513). 1 ms after supplies are good the power-on source releases. -/
def execPowerOnTimer (t : Nat) (s : State) : Answer := eventRow powerOnTimer t s

/-- FIRMWARE_WATCHDOG (R519). An unserviced watchdog after 250 ms applies a WARM reset. -/
def execFirmwareWatchdog (t : Nat) (s : State) : Answer := eventRow firmwareWatchdog t s

/-- RESET_SCOPE_APPLY (R448). 100 µs to 1 ms after the reply the requested reset is applied. -/
def execResetScopeApply (t : Nat) (s : State) : Answer := eventRow resetScopeApply t s

/-- CLOCK_GOOD_ASSERT (R520). A clock-good asserting releases the domains or blocks that wait on it. -/
def execClockGoodAssert (t : Nat) (c : Nat) (s : State) : Answer := eventRow (clockGoodAssert c) t s

/-- CLOCK_GOOD_TIMEOUT (R521). A clock-good not asserted within 2 ms holds its blocks in reset and records CLOCK_NOT_GOOD. -/
def execClockGoodTimeout (t : Nat) (c : Nat) (s : State) : Answer := eventRow (clockGoodTimeout c) t s

/-- READY_ENTRY (R520). The release sequence ends in READY, releasing IRQ_N and enabling channel 8. -/
def execReadyEntry (t : Nat) (s : State) : Answer := eventRow readyEntry t s

/-- IDLE_TIMEOUT (R528). A block not idle within IDLETO has its master port completed and isolated. -/
def execIdleTimeout (t : Nat) (i : Nat) (s : State) : Answer := eventRow (idleTimeout i) t s

/-- DOMAIN_POWER_DONE (R536). A requested domain change completes and PDDONE sets. -/
def execDomainPowerDone (t : Nat) (d : Nat) (s : State) : Answer := eventRow (domainPowerDone d) t s

/-- SUPPLY_WARNING (R531). A rail below its warning level raises BROWNOUT_WARN and may start an urgent handover. -/
def execSupplyWarning (t : Nat) (rail : Nat) (mv : Nat) (s : State) : Answer := eventRow (supplyWarning rail mv) t s

/-- SUPPLY_RECOVERY (R532). A rail back above recovery ends the warning and writes the brownout record. -/
def execSupplyRecovery (t : Nat) (rail : Nat) (low : Nat) (s : State) : Answer := eventRow (supplyRecovery rail low) t s

/-- THERM_ALERT_CHANGE (R549). Die temperature crossing a threshold drives or releases THERM_ALERT_N. -/
def execThermAlertChange (t : Nat) (temp : Int) (s : State) : Answer := eventRow (thermAlertChange temp) t s

/-- BLOCK_IDLE_REPORTED (R528). All blocks named by an idle request report idle before IDLETO, so the RPC applies the block or domain reset or switches the domain off. -/
def execBlockIdleReported (t : Nat) (i : Nat) (s : State) : Answer := eventRow (blockIdleReported i) t s

end Sys2Proof.Machine
end

