-- ==== Sys2Proof/Machine/EventsSap.lean ====
section
/-! DEFINITION. What happens at the serial audio ports and taps: one meaning for each row. -/
namespace Sys2Proof.Machine

/-- SAP_CLOCK_START (R266). At frame n_c an armed group enters QUIET and master groups start driving clocks. -/
def execSapClockStart (t : Nat) (g : Nat) (s : State) : Answer := eventRow (sapClockStart g) t s

/-- SAP_DATA_ENABLE (R266). At frame n_d every group of the alignment set enables data and enters RUN. -/
def execSapDataEnable (t : Nat) (n : Nat) (s : State) : Answer := eventRow (sapDataEnable n) t s

/-- START_IN_EDGE (R267). A rising edge on START_IN is timestamped and fixes n_c and n_d of the waiting set. -/
def execStartInEdge (t : Nat) (s : State) : Answer := eventRow startInEdge t s

/-- SAP_CLOSE_DONE (R269). After QS frames in CLOSING a group takes its idle state and returns to OFF. -/
def execSapCloseDone (t : Nat) (g : Nat) (s : State) : Answer := eventRow (sapCloseDone g) t s

/-- SAP_RECEIVE_FRAME (R263). A received SAP frame is labelled with its media index and its samples written to the input ring. -/
def execSapReceiveFrame (t : Nat) (g : Nat) (f : SapFrame) (bits : List (List Bool)) (full : Nat) (s : State) : Answer :=
  eventRow (sapReceiveFrame g f bits full) t s

/-- SAP_TRANSMIT_FRAME (R279). At a transmit frame start the port sends its FIFO sample, or zeros when fenced or starved. -/
def execSapTransmitFrame (t : Nat) (g : Nat) (f : SapFrame) (starved : Nat) (s : State) : Answer := eventRow (sapTransmitFrame g f starved) t s

/-- SAP_CLOCK_STOPPED (R275). No BCLK edge within 4 nominal periods moves the group to STOPPED. -/
def execSapClockStopped (t : Nat) (g : Nat) (s : State) : Answer := eventRow (sapClockStopped g) t s

/-- SAP_RATE_CHECK (R275). At the close of each 256-frame block the mean period is checked and a deviation moves the group to RATEHOLD. -/
def execSapRateCheck (t : Nat) (g : Nat) (sum : Nat) (s : State) : Answer := eventRow (sapRateCheck g sum) t s

/-- SAP_REJOIN_START (R277). The first BCLK edge in STOPPED or RATEHOLD with AUTOREJ set enters REJOIN. -/
def execSapRejoinStart (t : Nat) (g : Nat) (s : State) : Answer := eventRow (sapRejoinStart g) t s

/-- SAP_REJOIN_DONE (R277). After 64 good frames the group is relabelled and enables data at the next quantum boundary. -/
def execSapRejoinDone (t : Nat) (g : Nat) (s : State) : Answer := eventRow (sapRejoinDone g) t s

/-- TAP_BLOCK_READ (R286). At B(k) + Q − 1 the device reads a tap block from the host and substitutes zeros if its header is wrong. -/
def execTapBlockRead (t : Nat) (first : Nat) (k : Int) (block : List Word) (s : State) : Answer := eventRow (tapBlockRead first k block) t s

/-- TAP_BLOCK_WRITE (R286). The device writes a tap block's samples then header towards the host and sets OUTDONE. -/
def execTapBlockWrite (t : Nat) (first : Nat) (k : Int) (s : State) : Answer := eventRow (tapBlockWrite first k) t s

end Sys2Proof.Machine
end

