-- ==== Sys2Proof/Machine/EventsTime.lean ====
section
/-! DEFINITION. What happens to device time and the clocks: one meaning for each row. -/
namespace Sys2Proof.Machine

/-- PTP_SYNC_RECEIVED (R305). A Sync message is timestamped and, if one-step, yields a phase measurement. -/
def execPtpSyncReceived (t : Nat) (h : PtpHeader) (twoStep : Bool) (t1 : Int) (s : State) : Answer := eventRow (ptpSyncReceived h twoStep t1) t s

/-- PTP_FOLLOW_UP_RECEIVED (R305). A Follow_Up matching the pending Sync completes the exchange. -/
def execPtpFollowUpReceived (t : Nat) (h : PtpHeader) (t1 : Int) (s : State) : Answer := eventRow (ptpFollowUpReceived h t1) t s

/-- PTP_DELAY_RESP_RECEIVED (R304). A Delay_Resp updates the mean path delay. -/
def execPtpDelayRespReceived (t : Nat) (h : PtpHeader) (clock : Nat) (t4 : Int) (s : State) : Answer := eventRow (ptpDelayRespReceived h clock t4) t s

/-- PTP_DELAY_REQ_RECEIVED (R301). As master, a received Delay_Req is answered within the rate limit. -/
def execPtpDelayReqReceived (t : Nat) (h : PtpHeader) (s : State) : Answer := eventRow (ptpDelayReqReceived h) t s

/-- PTP_ANNOUNCE_RECEIVED (R301). An Announce feeds foreign-master qualification and BMCA, possibly selecting a new master. -/
def execPtpAnnounceReceived (t : Nat) (h : PtpHeader) (a : PtpAnnounce) (s : State) : Answer := eventRow (ptpAnnounceReceived h a) t s

/-- PTP_SYNC_SEND (R302). As master the port sends Sync and Follow_Up at each sync interval. -/
def execPtpSyncSend (t : Nat) (s : State) : Answer := eventRow ptpSyncSend t s

/-- PTP_ANNOUNCE_SEND (R303). As master the port sends Announce at each announce interval. -/
def execPtpAnnounceSend (t : Nat) (s : State) : Answer := eventRow ptpAnnounceSend t s

/-- PTP_DELAY_REQ_SEND (R302). As slave the port sends Delay_Req at its interval. -/
def execPtpDelayReqSend (t : Nat) (s : State) : Answer := eventRow ptpDelayReqSend t s

/-- PTP_FOLLOW_UP_TIMEOUT (R305). A two-step Sync without Follow_Up within one sync interval is discarded. -/
def execPtpFollowUpTimeout (t : Nat) (s : State) : Answer := eventRow ptpFollowUpTimeout t s

/-- PTP_MASTER_LOST (R303). Missing Announce or Sync exchanges for the timeout lose the master and enter HOLDOVER. -/
def execPtpMasterLost (t : Nat) (s : State) : Answer := eventRow ptpMasterLost t s

/-- PPS_IN_EDGE (R294). A PPS_IN rising edge is timestamped and gives a phase measurement. -/
def execPpsInEdge (t : Nat) (s : State) : Answer := eventRow ppsInEdge t s

/-- CLOCK_BLOCK_MEASURE (R296). A block of 64 WCLK or MCLK periods closes and gives a phase measurement. -/
def execClockBlockMeasure (t : Nat) (key : Nat) (s : State) : Answer := eventRow (clockBlock key) t s

/-- TIME_SOURCE_LOST (R294). A PPS, WCLK or MCLK source without edges or in range for its limit is lost and the servo enters HOLDOVER. -/
def execTimeSourceLost (t : Nat) (s : State) : Answer := eventRow timeSourceLost t s

/-- TIME_STEP_APPLY (R36). An accepted step of device time is applied at the next quantum boundary in whole quanta. -/
def execTimeStepApply (t : Nat) (s : State) : Answer := eventRow timeStepRow t s

/-- REFCLK_LOST (R309). Missing or off-frequency REFCLK holds the counter and clears TVALID. -/
def execRefclkLost (t : Nat) (s : State) : Answer := eventRow refclkLost t s

/-- REFCLK_RETURN (R309). REFCLK returns and PLL_CNT relocks; the counter resumes with the servo in HOLDOVER. -/
def execRefclkReturn (t : Nat) (s : State) : Answer := eventRow refclkReturn t s

/-- PLL_LOCK_LOSS (R310). A PLL losing lock clears clock-good of the domains it feeds. -/
def execPllLockLoss (t : Nat) (pll : Nat) (s : State) : Answer := eventRow (pllLockLoss pll) t s

/-- WCLK_OUT_MODE_SWITCH (R307). A new WCLK_OUT mode takes effect at the next period whose index is a multiple of 64. -/
def execWclkOutModeSwitch (t : Nat) (s : State) : Answer := eventRow wclkOutModeSwitch t s

/-- PPS_OUT_SECOND (R308). At each whole second PPS_OUT rises and pending width or enable changes apply. -/
def execPpsOutSecond (t : Nat) (s : State) : Answer := eventRow ppsOutSecond t s

/-- PTP_QUALIFICATION_TIMEOUT (R301). The PTP port in PRE_MASTER or LISTENING reaches its qualification or receipt timeout with no better master and enters MASTER. -/
def execPtpQualificationTimeout (t : Nat) (s : State) : Answer := eventRow ptpQualificationTimeout t s

end Sys2Proof.Machine
end

