-- ==== Sys2Proof/Machine/EventsTransport.lean ====
section
/-! DEFINITION. What arrives on the command transports: one meaning for each row. -/
namespace Sys2Proof.Machine

/-- PCIE_COMMAND_FETCH (R410). Device fetches the next command packet of a PCIe channel once the tail differs and the reply ring has room. -/
def execPcieCommandFetch (t : Nat) (n : Nat) (words : List Word) (s : State) : Answer := eventRow (pcieCommandFetch n words) t s

/-- SPI_PKT_WRITE (R412). SPI instruction that delivers a command packet to the SPI command buffer. -/
def execSpiPktWrite (t : Nat) (octets : Nat) (words : List Word) (s : State) : Answer := eventRow (spiPktWrite octets words) t s

/-- SPI_PKT_READ (R414). SPI instruction that reads out the oldest reply or notification. -/
def execSpiPktRead (t : Nat) (whole : Bool) (s : State) : Answer := eventRow (spiPktRead whole) t s

/-- SPI_REG_READ (R415). SPI instruction that reads an MW0 register after wait octets and a marker. -/
def execSpiRegRead (t : Nat) (off : Nat) (s : State) : Answer := eventRow (spiRegRead off) t s

/-- SPI_REG_READ_TIMEOUT (R415). After 32 wait octets without the register value, the device sends marker 0xFF and counts the failure. -/
def execSpiRegReadTimeout (t : Nat) (s : State) : Answer := eventRow spiRegReadTimeout t s

/-- SPI_REG_WRITE (R415). SPI instruction that writes an MW0 register. -/
def execSpiRegWrite (t : Nat) (off : Nat) (v : Word) (s : State) : Answer := eventRow (spiRegWrite off v) t s

/-- SPI_STATUS (R412). SPI instruction that returns only the status octet, clearing LOST. -/
def execSpiStatus (t : Nat) (s : State) : Answer := eventRow spiStatusRead t s

/-- UDP_DATAGRAM_RECEIVED (R416). A datagram to the Damuri port is read as back-to-back packets and queued on its UDP channel. -/
def execUdpDatagramReceived (t : Nat) (m : Nat) (src : Nat) (port : Nat) (octets : Nat) (words : List Word) (s : State) : Answer :=
  eventRow (udpDatagramReceived m src port octets words) t s

/-- INBAND_FRAGMENT_RECEIVED (R419). A Zenel in-band fragment addressed to this node is reassembled into a message. -/
def execInbandFragmentReceived (t : Nat) (area : Nat) (f : Fragment) (s : State) : Answer := eventRow (inbandFragmentReceived area f) t s

/-- INBAND_MESSAGE_TIMEOUT (R419). An in-band message left incomplete for 64 periods is discarded and counted. -/
def execInbandMessageTimeout (t : Nat) (area : Nat) (src : Nat) (s : State) : Answer := eventRow (inbandMessageTimeout area src) t s

/-- RELAY_FORWARD_TIMEOUT (R423). A non-holder without a relay reply 10 ms after forwarding answers PARTNER_FAULT. -/
def execRelayForwardTimeout (t : Nat) (n : Nat) (s : State) : Answer := eventRow (relayForwardTimeout n) t s

end Sys2Proof.Machine
end

