-- ==== Sys2Proof/Machine/EventsTwin.lean ====
section
/-! DEFINITION. What happens between the twins: one meaning for each row. -/
namespace Sys2Proof.Machine

/-- TWIN_LINK_FRAME_LAUNCH (R386). At each period start a device launches its Twin Link frame with control, mirror, relay and copy sections. -/
def execTwinLinkFrameLaunch (t : Nat) (s : State) : Answer := eventRow twinLinkFrameLaunch t s

/-- TWIN_LINK_FRAME_RECEIVED (R386). A received Twin Link frame is checked and its lease, mirror, signature and copy sections taken. -/
def execTwinLinkFrameReceived (t : Nat) (f : TwlFrame) (s : State) : Answer := eventRow (twinLinkFrameReceived f) t s

/-- RELAY_SECTION_RECEIVED (R393). A relay section is taken once and its entries executed or forwarded. -/
def execRelaySectionReceived (t : Nat) (x : RelaySection) (s : State) : Answer := eventRow (relaySectionReceived x) t s

/-- RELAY_GAP_TIMEOUT (R393). A relay sequence gap not filled within two frames moves the partner to JOINING. -/
def execRelayGapTimeout (t : Nat) (s : State) : Answer := eventRow relayGapTimeout t s

/-- TWL_LOCK_LOSS (R394). Twin Link block loss moves the lease to the lease balls and sets UNVER or UNRELAYED. -/
def execTwlLockLoss (t : Nat) (s : State) : Answer := eventRow twlLockLoss t s

/-- LEASE_RENEWAL_TIMER (R377). Every 250 µs the holder sends a renewal on both paths. -/
def execLeaseRenewalTimer (t : Nat) (s : State) : Answer := eventRow leaseRenewalTimer t s

/-- LEASE_PULSE_RECEIVED (R377). A LEASE_IN pulse is classified as renewal or acknowledgement. -/
def execLeasePulseReceived (t : Nat) (width : Nat) (s : State) : Answer := eventRow (leasePulseReceived width) t s

/-- LEASE_SELF_FENCE_TIMEOUT (R379). 900 µs without acknowledged renewal self-fences the holder or sets PLOST. -/
def execLeaseSelfFenceTimeout (t : Nat) (s : State) : Answer := eventRow leaseSelfFenceTimeout t s

/-- LEASE_SILENCE (R378). 1.1 ms without renewals lets a permitted non-holder claim or raises ALARM. -/
def execLeaseSilence (t : Nat) (s : State) : Answer := eventRow leaseSilence t s

/-- TWIN_ROLE_DELAY_EXPIRY (R378). The role delay of an initial claim expires and the claim is made. -/
def execTwinRoleDelayExpiry (t : Nat) (s : State) : Answer := eventRow twinRoleDelayExpiry t s

/-- ALIVE_IN_STOPPED (R379). No ALIVE_IN edge for 50 µs marks the partner as not running. -/
def execAliveInStopped (t : Nat) (s : State) : Answer := eventRow aliveInStopped t s

/-- TWIN_FENCE_SWITCH (R372). At period h the device's fence state changes for all transmitters. -/
def execTwinFenceSwitch (t : Nat) (s : State) : Answer := eventRow twinFenceSwitch t s

/-- HANDOVER_RECEIVED (R383). An IN_STEP partner answers a HANDOVER with HACK. -/
def execHandoverReceived (t : Nat) (h : Word) (epoch : Nat) (urgent : Bool) (s : State) : Answer := eventRow (handoverReceived h epoch urgent) t s

/-- HACK_RECEIVED (R383). A timely HACK makes the holder send COMMIT and fence from h. -/
def execHackReceived (t : Nat) (h : Word) (s : State) : Answer := eventRow (hackReceived h) t s

/-- COMMIT_RECEIVED (R383). COMMIT by period h makes the partner unfence from h and become ACTIVE. -/
def execCommitReceived (t : Nat) (h : Word) (s : State) : Answer := eventRow (commitReceived h) t s

/-- CANCEL_RECEIVED (R383). A CANCEL abandons the pending handover at the partner. -/
def execCancelReceived (t : Nat) (h : Word) (s : State) : Answer := eventRow (cancelReceived h) t s

/-- HACK_DEADLINE (R383). Without HACK by the limit before h the holder sends CANCEL and logs HANDOVER_FAIL. -/
def execHackDeadline (t : Nat) (s : State) : Answer := eventRow hackDeadline t s

/-- TAKEBACK_HOLDOFF_EXPIRY (R385). A SECONDARY holder starts a takeback handover after the PRIMARY has been IN_STEP for the hold-off. -/
def execTakebackHoldoffExpiry (t : Nat) (s : State) : Answer := eventRow takebackHoldoffExpiry t s

/-- FENCEREQ_RECEIVED (R402). A partner fence request fences this device with HOLD, handing over first if holder. -/
def execFencereqReceived (t : Nat) (force : Bool) (s : State) : Answer := eventRow (fenceRequested force) t s

/-- DETACH_RECEIVED (R402). A DETACH from the holder sets HOLD at the partner. -/
def execDetachReceived (t : Nat) (s : State) : Answer := eventRow detachReceived t s

/-- MIRROR_READY (R390). A partner with all mirror sections and an intact close marks quantum k ready on mirrored values. -/
def execMirrorReady (t : Nat) (k : Int) (s : State) : Answer := eventRow (mirrorReady k) t s

/-- MIRROR_FALLBACK (R390). At the fallback time the partner runs quantum k on its own receivers and sets LOCAL. -/
def execMirrorFallback (t : Nat) (k : Int) (s : State) : Answer := eventRow (mirrorFallback k) t s

/-- SIGNATURE_MISS (R396). A signature not received by the deadline of quantum k + 2 is counted. -/
def execSignatureMiss (t : Nat) (k : Int) (s : State) : Answer := eventRow (signatureMiss k) t s

/-- TWIN_AUTOJOIN_START (R376). With AUTOJOIN, a FENCED or SUSPECT partner starts a join while the holder is ACTIVE. -/
def execTwinAutojoinStart (t : Nat) (s : State) : Answer := eventRow twinAutojoinStart t s

/-- JOIN_COPY_BLOCK (R399). A copy block enters the shadow; when all arrive and the CRC agrees the shadow is committed. -/
def execJoinCopyBlock (t : Nat) (x : CopyBlock) (crcOk : Bool) (image : Copied) (s : State) : Answer := eventRow (joinCopyBlock x crcOk image) t s

/-- JOIN_CATCHUP_DONE (R399). The replay reaches the current quantum and the join enters HEAL. -/
def execJoinCatchupDone (t : Nat) (s : State) : Answer := eventRow joinCatchupDone t s

/-- JOIN_HEAL_DONE (R399). Index k_c + H is reached and the join enters VERIFY. -/
def execJoinHealDone (t : Nat) (s : State) : Answer := eventRow joinHealDone t s

/-- JOIN_RETRY (R400). 1 s after a failed join with AUTOJOIN the partner retries. -/
def execJoinRetry (t : Nat) (s : State) : Answer := eventRow joinRetry t s

/-- TWL_BLOCK_LOCK_GAIN (R394). The Twin Link receiver acquires block lock, setting TWL_STATUS.LOCK and TWL_EVT.LINK so that frames can be received again. -/
def execTwlBlockLockGain (t : Nat) (delay : Nat) (s : State) : Answer := eventRow (twlBlockLockGain delay) t s

/-- ALIVE_IN_EDGE (R379). An edge on ALIVE_IN restarts the 50 µs stopped timer and marks the partner as running again. -/
def execAliveInEdge (t : Nat) (s : State) : Answer := eventRow aliveInEdge t s

/-- ALIVE_OUT_TOGGLE (R377). Every 10 µs while twin-enabled and CCA runs, the device toggles ALIVE_OUT. -/
def execAliveOutToggle (t : Nat) (s : State) : Answer := eventRow aliveOutToggle t s

end Sys2Proof.Machine
end

