-- ==== Sys2Proof/Machine/EventsZen.lean ====
section
/-! DEFINITION. What happens on the Zenel Link: one meaning for each row. -/
namespace Sys2Proof.Machine

/-- ZEN_FRAME_RECEIVED (R351). A received Zenel frame is checked, read, and forwarded by cut-through with own areas written. -/
def execZenFrameReceived (t : Nat) (p : Nat) (f : ZenFrame) (fifoOk hiber : Bool) (s : State) : Answer := eventRow (zenFrameReceived p f fifoOk hiber) t s

/-- ZEN_FRAME_LAUNCH (R354). At a period start the root, a head or a branch node launches a frame with own and copied areas. -/
def execZenFrameLaunch (t : Nat) (s : State) : Answer := eventRow zenFrameLaunch t s

/-- ZEN_LOCK_LOSS (R357). Upstream block lock loss ends the frame with an inverted check and makes the node head. -/
def execZenLockLoss (t : Nat) (p : Nat) (inFrame : Option ZenFrame) (s : State) : Answer := eventRow (zenLockLoss p inFrame) t s

/-- ZEN_MISSING_FRAMES (R357). Four periods without a good frame on a ring port make the node head. -/
def execZenMissingFrames (t : Nat) (p : Nat) (s : State) : Answer := eventRow (zenMissingFrames p) t s

/-- ZEN_ROOT_CHANGE (R359). At the period start after its view changes a node becomes or stops being root. -/
def execZenRootChange (t : Nat) (s : State) : Answer := eventRow zenRootChange t s

/-- ZEN_LINK_WORD (R347). A link word gives the neighbour's ID and timestamps for cable delay. -/
def execZenLinkWord (t p node peer q : Nat) (x : LinkStamps) (s : State) : Answer :=
  eventRow (zenLinkWord p { node := node, port := peer, q := q, stamps := x }) t s

/-- ZEN_BLOCK_LOCK_GAIN (R364). A Zenel port receiver acquires 64b/66b block lock, setting ZEN_STATUS.LOCK and ZEN_EVT.LINK and leaving DOWN. -/
def execZenBlockLockGain (t : Nat) (p : Nat) (s : State) : Answer := eventRow (zenBlockLockGain p) t s

end Sys2Proof.Machine
end

