-- ==== Sys2Proof/Machine/RowsGraph.lean ====
section
/-! DEFINITION. Graph commands: one meaning for each row. -/
namespace Sys2Proof.Machine

/-- GRAPH_BEGIN (R52). Command that opens the single build area and returns its handle. -/
def execGraphBegin (t : Nat) (p : Packet) (s : State) : Answer := runRow graphBeginSpec t p s

/-- GRAPH_ADD_OP (R51). Command that adds an operation with its kind, ports and parameters to the build. -/
def execGraphAddOp (t : Nat) (p : Packet) (s : State) : Answer := runRow graphAddOpSpec t p s

/-- GRAPH_CONNECT (R51). Command that adds an edge with optional delay to the build. -/
def execGraphConnect (t : Nat) (p : Packet) (s : State) : Answer := runRow graphConnectSpec t p s

/-- GRAPH_COMMIT (R53). Quantum-exact command that admits the build and makes it current at once or queues its replacement at a boundary. -/
def execGraphCommit (t : Nat) (p : Packet) (s : State) : Answer := runRow graphCommitSpec t p s

/-- GRAPH_QUERY_COST (R567). Command that runs the structure checks and returns per-mille load on every admission resource. -/
def execGraphQueryCost (t : Nat) (p : Packet) (s : State) : Answer := runRow graphQueryCostSpec t p s

/-- PATH_LATENCY (R74). Command that returns minimum and maximum fixed latency between a router source and sink. -/
def execPathLatency (t : Nat) (p : Packet) (s : State) : Answer := runRow pathLatencySpec t p s

/-- OP_CANCEL (R249). Quantum-exact command that suppresses an operation for a number of quanta. -/
def execOpCancel (t : Nat) (p : Packet) (s : State) : Answer := runRow opCancelSpec t p s

end Sys2Proof.Machine
end

