-- ==== Sys2Proof/Machine/RowsNet.lean ====
section
/-! DEFINITION. Time, media-network and Zenel commands: one meaning for each row. -/
namespace Sys2Proof.Machine

/-- TIME_CONFIG (R294). Command that selects the time source, servo settings, steps device time or sets the media origin. -/
def execTimeConfig (t : Nat) (p : Packet) (s : State) : Answer := runRow timeConfigSpec t p s

/-- PTP_CONFIG (R302). Command that configures the PTP port, profile, intervals and announced quality. -/
def execPtpConfig (t : Nat) (p : Packet) (s : State) : Answer := runRow ptpConfigSpec t p s

/-- TIME_QUERY (R313). Command that returns device time, media index, servo and PTP state captured in one cycle. -/
def execTimeQuery (t : Nat) (p : Packet) (s : State) : Answer := runRow timeQuerySpec t p s

/-- MEDIA_CLOCK (R307). Command that sets the WCLK_OUT mode and PPS_OUT enable and width. -/
def execMediaClock (t : Nat) (p : Packet) (s : State) : Answer := runRow mediaClockSpec t p s

/-- MAC_CONFIG (R316). Command that configures a MAC's speed, addresses, VLAN, MTU, control port and auxiliary rings. -/
def execMacConfig (t : Nat) (p : Packet) (s : State) : Answer := runRow macConfigSpec t p s

/-- STREAM_RX_ADD (R342). Quantum-exact command that adds a receive RTP stream with its jitter buffers. -/
def execStreamRxAdd (t : Nat) (p : Packet) (s : State) : Answer := runRow streamRxAddSpec t p s

/-- STREAM_TX_ADD (R342). Quantum-exact command that adds a transmit RTP stream and returns its SSRC. -/
def execStreamTxAdd (t : Nat) (p : Packet) (s : State) : Answer := runRow streamTxAddSpec t p s

/-- STREAM_REMOVE (R343). Quantum-exact command that stops a receive or transmit stream at its boundary. -/
def execStreamRemove (t : Nat) (p : Packet) (s : State) : Answer := runRow streamRemoveSpec t p s

/-- SHAPER_SET (R323). Command that sets idleSlope and credit limits of a shaped transmit queue. -/
def execShaperSet (t : Nat) (p : Packet) (s : State) : Answer := runRow shaperSetSpec t p s

/-- PAUSE_CONFIG (R319). Command that sets pause honouring, generation, pause time and watermarks of a MAC. -/
def execPauseConfig (t : Nat) (p : Packet) (s : State) : Answer := runRow pauseConfigSpec t p s

/-- ZEN_CONFIG (R367). Command that sets node ID, ROOT_EN, mode, port enables and playout offset. -/
def execZenConfig (t : Nat) (p : Packet) (s : State) : Answer := runRow zenConfigSpec t p s

/-- ZEN_MAP (R352). Quantum-exact command that defines the Zenel area map and returns its check. -/
def execZenMap (t : Nat) (p : Packet) (s : State) : Answer := runRow zenMapSpec t p s

/-- ZEN_DROP (R368). Quantum-exact command that maps drop channels to ring slots. -/
def execZenDrop (t : Nat) (p : Packet) (s : State) : Answer := runRow zenDropSpec t p s

/-- ZEN_INSERT (R368). Quantum-exact command that maps insert channels to ring slots of own areas. -/
def execZenInsert (t : Nat) (p : Packet) (s : State) : Answer := runRow zenInsertSpec t p s

/-- ZEN_TOPOLOGY (R369). Command that returns the ring topology state and node entries. -/
def execZenTopology (t : Nat) (p : Packet) (s : State) : Answer := runRow zenTopologySpec t p s

end Sys2Proof.Machine
end

