-- ==== Sys2Proof/Machine/RowsOutput.lean ====
section
/-! DEFINITION. Output-stage commands and commands of the serial audio ports and taps: one meaning for each row. -/
namespace Sys2Proof.Machine

/-- DIKE_CONFIG (R207). Sample-exact command that sets trim, ceiling, release, limiter enable and default ramp of Dike channels. -/
def execDikeConfig (t : Nat) (p : Packet) (s : State) : Answer := runRow dikeConfigSpec t p s

/-- OUTPUT_MUTE (R199). Sample-exact command that ramps Dike channels to mute or unmute. -/
def execOutputMute (t : Nat) (p : Packet) (s : State) : Answer := runRow outputMuteSpec t p s

/-- DITHER_CONFIG (R202). Sample-exact command that sets dither enable, mute-zero and seed of Dike channels. -/
def execDitherConfig (t : Nat) (p : Packet) (s : State) : Answer := runRow ditherConfigSpec t p s

/-- OUTPUT_DELAY (R198). Sample-exact command that crossfades Dike channels to a new output delay. -/
def execOutputDelay (t : Nat) (p : Packet) (s : State) : Answer := runRow outputDelaySpec t p s

/-- SAP_CONFIG (R255). Command that sets the two configuration words of an OFF SAP group. -/
def execSapConfig (t : Nat) (p : Packet) (s : State) : Answer := runRow sapConfigSpec t p s

/-- SAP_ARM (R265). Command that forms an alignment set of groups and arms them on an index or START_IN trigger. -/
def execSapArm (t : Nat) (p : Packet) (s : State) : Answer := runRow sapArmSpec t p s

/-- SAP_STOP (R269). Quantum-exact command that disables data of named groups and returns them to OFF. -/
def execSapStop (t : Nat) (p : Packet) (s : State) : Answer := runRow sapStopSpec t p s

/-- TAP_CONFIG (R283). Quantum-exact command that defines, replaces or releases a host audio tap stream. -/
def execTapConfig (t : Nat) (p : Packet) (s : State) : Answer := runRow tapConfigSpec t p s

end Sys2Proof.Machine
end

