-- ==== Sys2Proof/Machine/RowsRender.lean ====
section
/-! DEFINITION. Object-rendering commands: one meaning for each row. -/
namespace Sys2Proof.Machine

/-- LAYOUT_LOAD (R77). Continued quantum-exact command that loads the loudspeaker layout. -/
def execLayoutLoad (t : Nat) (p : Packet) (s : State) : Answer := runRow layoutLoadSpec t p s

/-- MESH_LOAD (R78). Continued quantum-exact command that loads the panning mesh and reference point. -/
def execMeshLoad (t : Nat) (p : Packet) (s : State) : Answer := runRow meshLoadSpec t p s

/-- OBJECT_CREATE (R86). Quantum-exact command that creates an object with a live handle, or releases it with a one-quantum fade. -/
def execObjectCreate (t : Nat) (p : Packet) (s : State) : Answer := runRow objectCreateSpec t p s

/-- TRAJ_APPEND (R90). Command that enters trajectory segments into an object's queue, cutting or discarding later ones. -/
def execTrajAppend (t : Nat) (p : Packet) (s : State) : Answer := runRow trajAppendSpec t p s

/-- TRAJ_FLUSH (R95). Command that empties an object's segment queue at index E and returns the held position. -/
def execTrajFlush (t : Nat) (p : Packet) (s : State) : Answer := runRow trajFlushSpec t p s

/-- OBJECT_PARAMS (R117). Sample-exact command that sets all object parameters after checking the object-tap budget. -/
def execObjectParams (t : Nat) (p : Packet) (s : State) : Answer := runRow objectParamsSpec t p s

/-- ZONE_MASK (R118). Sample-exact command that sets an object's zone mask. -/
def execZoneMask (t : Nat) (p : Packet) (s : State) : Answer := runRow zoneMaskSpec t p s

/-- SOUND_SPEED (R119). Sample-exact command that sets the speed of sound for every object. -/
def execSoundSpeed (t : Nat) (p : Packet) (s : State) : Answer := runRow soundSpeedSpec t p s

/-- OBJECT_QUERY (R120). Command that returns an object's state at its latest quantum-end evaluation. -/
def execObjectQuery (t : Nat) (p : Packet) (s : State) : Answer := runRow objectQuerySpec t p s

end Sys2Proof.Machine
end

