-- ==== Sys2Proof/Machine/RowsRoute.lean ====
section
/-! DEFINITION. Routing, mixing and room-correction commands: one meaning for each row. -/
namespace Sys2Proof.Machine

/-- ROUTE_SET (R133). Sample-exact command that crossfades a sink to a new source or ramps its gain. -/
def execRouteSet (t : Nat) (p : Packet) (s : State) : Answer := runRow routeSetSpec t p s

/-- ROUTE_CLEAR (R134). Sample-exact command that crossfades a range of sinks to silence. -/
def execRouteClear (t : Nat) (p : Packet) (s : State) : Answer := runRow routeClearSpec t p s

/-- XPOINT_SET (R143). Sample-exact command that ramps one bus crosspoint or MATRIX cell gain. -/
def execXpointSet (t : Nat) (p : Packet) (s : State) : Answer := runRow xpointSetSpec t p s

/-- XPOINT_BLOCK (R156). Sample-exact command that writes K consecutive crosspoint or MATRIX gains as one change. -/
def execXpointBlock (t : Nat) (p : Packet) (s : State) : Answer := runRow xpointBlockSpec t p s

/-- BUS_CREATE (R144). Quantum-exact command that creates a bus with a headroom shift or releases it with a fade. -/
def execBusCreate (t : Nat) (p : Packet) (s : State) : Answer := runRow busCreateSpec t p s

/-- GAIN_SET (R141). Sample-exact command that ramps GAIN operation channel gains. -/
def execGainSet (t : Nat) (p : Packet) (s : State) : Answer := runRow gainSetSpec t p s

/-- FADE_PARAMS (R152). Sample-exact command that sets default crossfade length, curve and ramp length. -/
def execFadeParams (t : Nat) (p : Packet) (s : State) : Answer := runRow fadeParamsSpec t p s

/-- FILTER_LOAD_BEGIN (R170). Command that allocates a staging slot for a CONVOLVE operation. -/
def execFilterLoadBegin (t : Nat) (p : Packet) (s : State) : Answer := runRow filterLoadBeginSpec t p s

/-- FILTER_LOAD_DATA (R171). Command that writes taps into a slot in LOADING. -/
def execFilterLoadData (t : Nat) (p : Packet) (s : State) : Answer := runRow filterLoadDataSpec t p s

/-- FILTER_LOAD_END (R172). Command that checks the slot's taps and CRC and computes spectra, or discards the slot. -/
def execFilterLoadEnd (t : Nat) (p : Packet) (s : State) : Answer := runRow filterLoadEndSpec t p s

/-- FILTER_SWAP (R174). Sample-exact command that runs a prepared filter alongside and crossfades to it at its index. -/
def execFilterSwap (t : Nat) (p : Packet) (s : State) : Answer := runRow filterSwapSpec t p s

/-- CONV_QUERY (R187). Command that returns a convolution channel's plan, coverage, swap state and counts. -/
def execConvQuery (t : Nat) (p : Packet) (s : State) : Answer := runRow convQuerySpec t p s

end Sys2Proof.Machine
end

