-- ==== Sys2Proof/Machine/RowsSystem.lean ====
section
/-! DEFINITION. Processing, firmware, board, graph and channel commands of the system group: one meaning for each row. -/
namespace Sys2Proof.Machine

/-- PING (R442). Command that returns its parameter words unchanged. -/
def execPing (t : Nat) (p : Packet) (s : State) : Answer := runRow pingSpec t p s

/-- GET_INFO (R443). Command that returns ordering code, revisions, firmware versions, serial number and board identity. -/
def execGetInfo (t : Nat) (p : Packet) (s : State) : Answer := runRow getInfoSpec t p s

/-- GET_STATUS (R444). Command that returns run state, twin state, rate, Q, load, temperature and other status captured at execution. -/
def execGetStatus (t : Nat) (p : Packet) (s : State) : Answer := runRow getStatusSpec t p s

/-- SET_RATE (R40). Command that sets sample rate and Q in READY after re-admitting the committed graph and checking port, stream and Zenel limits. -/
def execSetRate (t : Nat) (p : Packet) (s : State) : Answer := runRow setRateSpec t p s

/-- START_PROCESSING (R37). Quantum-exact command that starts processing with cleared operation state at the first quantum boundary not before its index. -/
def execStartProcessing (t : Nat) (p : Packet) (s : State) : Answer := runRow startProcessingSpec t p s

/-- STOP_PROCESSING (R38). Quantum-exact command that completes the quantum with the stop index, ramps outputs to silence and then sends zeros. -/
def execStopProcessing (t : Nat) (p : Packet) (s : State) : Answer := runRow stopProcessingSpec t p s

/-- FW_UPDATE_BEGIN (R453). Command that opens a firmware update session for an image of a given size. -/
def execFwUpdateBegin (t : Nat) (p : Packet) (s : State) : Answer := runRow fwUpdateBeginSpec t p s

/-- FW_UPDATE_DATA (R454). Command that writes image words into the open update session. -/
def execFwUpdateData (t : Nat) (p : Packet) (s : State) : Answer := runRow fwUpdateDataSpec t p s

/-- FW_UPDATE_COMMIT (R455). Command that aborts or checks and installs the patch image. -/
def execFwUpdateCommit (t : Nat) (p : Packet) (s : State) : Answer := runRow fwUpdateCommitSpec t p s

/-- RESET_SCOPE (R448). Command that requests a WARM, DOMAIN or BLOCK reset, replying first. -/
def execResetScope (t : Nat) (p : Packet) (s : State) : Answer := runRow resetScopeSpec t p s

/-- BOARD_TABLE_LOAD (R449). Continued command that loads the board table, checked when the chain completes. -/
def execBoardTableLoad (t : Nat) (p : Packet) (s : State) : Answer := runRow boardTableLoadSpec t p s

/-- CHANNEL_CONFIG (R451). Command that enables, resets or sets REMOTE, filters and notification address of a command channel. -/
def execChannelConfig (t : Nat) (p : Packet) (s : State) : Answer := runRow channelConfigSpec t p s

/-- SAFE_SET_BEGIN (R65). Command that opens a safe-load set on its channel. -/
def execSafeSetBegin (t : Nat) (p : Packet) (s : State) : Answer := runRow safeSetBeginSpec t p s

/-- SAFE_SET_COMMIT (R68). Command that schedules every member of the open set to swap in between two samples at one index. -/
def execSafeSetCommit (t : Nat) (p : Packet) (s : State) : Answer := runRow safeSetCommitSpec t p s

end Sys2Proof.Machine
end

