-- ==== Sys2Proof/Machine/RowsTwin.lean ====
section
/-! DEFINITION. Twin commands, DRAM, snapshot and keep-memory commands, and telemetry: one meaning for each row. -/
namespace Sys2Proof.Machine

/-- TWIN_CONFIG (R402). Command that enables or detaches twin operation and sets role, policies and pair addresses. -/
def execTwinConfig (t : Nat) (p : Packet) (s : State) : Answer := runRow twinConfigSpec t p s

/-- TWIN_JOIN (R399). Command that starts a join to the holder's state. -/
def execTwinJoin (t : Nat) (p : Packet) (s : State) : Answer := runRow twinJoinSpec t p s

/-- TWIN_HANDOVER (R383). Command at the holder that starts a planned handover of the lease. -/
def execTwinHandover (t : Nat) (p : Packet) (s : State) : Answer := runRow twinHandoverSpec t p s

/-- TWIN_STATUS (R402). Command that returns twin status, partner state, epoch, heal and skew. -/
def execTwinStatus (t : Nat) (p : Packet) (s : State) : Answer := runRow twinStatusSpec t p s

/-- TWIN_FENCE (R402). Command that fences this device with HOLD or sends a fence request to the partner, or releases HOLD. -/
def execTwinFence (t : Nat) (p : Packet) (s : State) : Answer := runRow twinFenceSpec t p s

/-- DRAM_START (R503). Command that starts the DRAM channels from the board table and reserves the DRAM areas. -/
def execDramStart (t : Nat) (p : Packet) (s : State) : Answer := runRow dramStartSpec t p s

/-- DRAM_OPPOINT (R510). Command that requests a change of the DRAM operating point. -/
def execDramOppoint (t : Nat) (p : Packet) (s : State) : Answer := runRow dramOppointSpec t p s

/-- STATE_SAVE (R456). Command that captures a snapshot of copied state into a DRAM slot or host memory. -/
def execStateSave (t : Nat) (p : Packet) (s : State) : Answer := runRow stateSaveSpec t p s

/-- STATE_RESTORE (R458). Command that checks a snapshot and sets rate, Q, graph and copied parameters from it. -/
def execStateRestore (t : Nat) (p : Packet) (s : State) : Answer := runRow stateRestoreSpec t p s

/-- KEEP_WRITE (R460). Command that writes words to the host area of keep SRAM with CRC update. -/
def execKeepWrite (t : Nat) (p : Packet) (s : State) : Answer := runRow keepWriteSpec t p s

/-- KEEP_READ (R461). Command that returns words from keep SRAM. -/
def execKeepRead (t : Nat) (p : Packet) (s : State) : Answer := runRow keepReadSpec t p s

/-- METER_SUBSCRIBE (R462). Command that starts or releases delivery of Dike or Reed meter records as notifications. -/
def execMeterSubscribe (t : Nat) (p : Packet) (s : State) : Answer := runRow meterSubscribeSpec t p s

/-- EVENT_READ (R464). Command that returns event-log entries from a sequence number. -/
def execEventRead (t : Nat) (p : Packet) (s : State) : Answer := runRow eventReadSpec t p s

/-- COUNTER_READ (R466). Command that returns, and optionally clears, counters of a class. -/
def execCounterRead (t : Nat) (p : Packet) (s : State) : Answer := runRow counterReadSpec t p s

end Sys2Proof.Machine
end

