-- ==== Sys2Proof/Machine/Dispatch.lean ====
section
/-! DEFINITION. One arm per command: each calls the meaning of its row. -/
namespace Sys2Proof.Machine

/-- The effect of a command on everything but the queue. -/
def exec (i : Instr) (s : State) : Host.Outcome State Fault Refusal :=
  match i with
  | .ping t p => Sys2Proof.Machine.execPing t p s
  | .getInfo t p => Sys2Proof.Machine.execGetInfo t p s
  | .getStatus t p => Sys2Proof.Machine.execGetStatus t p s
  | .setRate t p => Sys2Proof.Machine.execSetRate t p s
  | .startProcessing t p => Sys2Proof.Machine.execStartProcessing t p s
  | .stopProcessing t p => Sys2Proof.Machine.execStopProcessing t p s
  | .fwUpdateBegin t p => Sys2Proof.Machine.execFwUpdateBegin t p s
  | .fwUpdateData t p => Sys2Proof.Machine.execFwUpdateData t p s
  | .fwUpdateCommit t p => Sys2Proof.Machine.execFwUpdateCommit t p s
  | .resetScope t p => Sys2Proof.Machine.execResetScope t p s
  | .boardTableLoad t p => Sys2Proof.Machine.execBoardTableLoad t p s
  | .channelConfig t p => Sys2Proof.Machine.execChannelConfig t p s
  | .graphBegin t p => Sys2Proof.Machine.execGraphBegin t p s
  | .graphAddOp t p => Sys2Proof.Machine.execGraphAddOp t p s
  | .graphConnect t p => Sys2Proof.Machine.execGraphConnect t p s
  | .graphCommit t p => Sys2Proof.Machine.execGraphCommit t p s
  | .graphQueryCost t p => Sys2Proof.Machine.execGraphQueryCost t p s
  | .pathLatency t p => Sys2Proof.Machine.execPathLatency t p s
  | .opCancel t p => Sys2Proof.Machine.execOpCancel t p s
  | .safeSetBegin t p => Sys2Proof.Machine.execSafeSetBegin t p s
  | .safeSetCommit t p => Sys2Proof.Machine.execSafeSetCommit t p s
  | .layoutLoad t p => Sys2Proof.Machine.execLayoutLoad t p s
  | .meshLoad t p => Sys2Proof.Machine.execMeshLoad t p s
  | .objectCreate t p => Sys2Proof.Machine.execObjectCreate t p s
  | .trajAppend t p => Sys2Proof.Machine.execTrajAppend t p s
  | .trajFlush t p => Sys2Proof.Machine.execTrajFlush t p s
  | .objectParams t p => Sys2Proof.Machine.execObjectParams t p s
  | .zoneMask t p => Sys2Proof.Machine.execZoneMask t p s
  | .soundSpeed t p => Sys2Proof.Machine.execSoundSpeed t p s
  | .objectQuery t p => Sys2Proof.Machine.execObjectQuery t p s
  | .routeSet t p => Sys2Proof.Machine.execRouteSet t p s
  | .routeClear t p => Sys2Proof.Machine.execRouteClear t p s
  | .xpointSet t p => Sys2Proof.Machine.execXpointSet t p s
  | .xpointBlock t p => Sys2Proof.Machine.execXpointBlock t p s
  | .busCreate t p => Sys2Proof.Machine.execBusCreate t p s
  | .gainSet t p => Sys2Proof.Machine.execGainSet t p s
  | .fadeParams t p => Sys2Proof.Machine.execFadeParams t p s
  | .filterLoadBegin t p => Sys2Proof.Machine.execFilterLoadBegin t p s
  | .filterLoadData t p => Sys2Proof.Machine.execFilterLoadData t p s
  | .filterLoadEnd t p => Sys2Proof.Machine.execFilterLoadEnd t p s
  | .filterSwap t p => Sys2Proof.Machine.execFilterSwap t p s
  | .convQuery t p => Sys2Proof.Machine.execConvQuery t p s
  | .dikeConfig t p => Sys2Proof.Machine.execDikeConfig t p s
  | .outputMute t p => Sys2Proof.Machine.execOutputMute t p s
  | .ditherConfig t p => Sys2Proof.Machine.execDitherConfig t p s
  | .outputDelay t p => Sys2Proof.Machine.execOutputDelay t p s
  | .sapConfig t p => Sys2Proof.Machine.execSapConfig t p s
  | .sapArm t p => Sys2Proof.Machine.execSapArm t p s
  | .sapStop t p => Sys2Proof.Machine.execSapStop t p s
  | .tapConfig t p => Sys2Proof.Machine.execTapConfig t p s
  | .timeConfig t p => Sys2Proof.Machine.execTimeConfig t p s
  | .ptpConfig t p => Sys2Proof.Machine.execPtpConfig t p s
  | .timeQuery t p => Sys2Proof.Machine.execTimeQuery t p s
  | .mediaClock t p => Sys2Proof.Machine.execMediaClock t p s
  | .macConfig t p => Sys2Proof.Machine.execMacConfig t p s
  | .streamRxAdd t p => Sys2Proof.Machine.execStreamRxAdd t p s
  | .streamTxAdd t p => Sys2Proof.Machine.execStreamTxAdd t p s
  | .streamRemove t p => Sys2Proof.Machine.execStreamRemove t p s
  | .shaperSet t p => Sys2Proof.Machine.execShaperSet t p s
  | .pauseConfig t p => Sys2Proof.Machine.execPauseConfig t p s
  | .zenConfig t p => Sys2Proof.Machine.execZenConfig t p s
  | .zenMap t p => Sys2Proof.Machine.execZenMap t p s
  | .zenDrop t p => Sys2Proof.Machine.execZenDrop t p s
  | .zenInsert t p => Sys2Proof.Machine.execZenInsert t p s
  | .zenTopology t p => Sys2Proof.Machine.execZenTopology t p s
  | .twinConfig t p => Sys2Proof.Machine.execTwinConfig t p s
  | .twinJoin t p => Sys2Proof.Machine.execTwinJoin t p s
  | .twinHandover t p => Sys2Proof.Machine.execTwinHandover t p s
  | .twinStatus t p => Sys2Proof.Machine.execTwinStatus t p s
  | .twinFence t p => Sys2Proof.Machine.execTwinFence t p s
  | .dramStart t p => Sys2Proof.Machine.execDramStart t p s
  | .dramOppoint t p => Sys2Proof.Machine.execDramOppoint t p s
  | .stateSave t p => Sys2Proof.Machine.execStateSave t p s
  | .stateRestore t p => Sys2Proof.Machine.execStateRestore t p s
  | .keepWrite t p => Sys2Proof.Machine.execKeepWrite t p s
  | .keepRead t p => Sys2Proof.Machine.execKeepRead t p s
  | .meterSubscribe t p => Sys2Proof.Machine.execMeterSubscribe t p s
  | .eventRead t p => Sys2Proof.Machine.execEventRead t p s
  | .counterRead t p => Sys2Proof.Machine.execCounterRead t p s
  | .pcieCommandFetch t n words => Sys2Proof.Machine.execPcieCommandFetch t n words s
  | .spiPktWrite t octets words => Sys2Proof.Machine.execSpiPktWrite t octets words s
  | .spiPktRead t whole => Sys2Proof.Machine.execSpiPktRead t whole s
  | .spiRegRead t off => Sys2Proof.Machine.execSpiRegRead t off s
  | .spiRegReadTimeout t => Sys2Proof.Machine.execSpiRegReadTimeout t s
  | .spiRegWrite t off v => Sys2Proof.Machine.execSpiRegWrite t off v s
  | .spiStatus t => Sys2Proof.Machine.execSpiStatus t s
  | .udpDatagramReceived t m src port octets words => Sys2Proof.Machine.execUdpDatagramReceived t m src port octets words s
  | .inbandFragmentReceived t area f => Sys2Proof.Machine.execInbandFragmentReceived t area f s
  | .inbandMessageTimeout t area src => Sys2Proof.Machine.execInbandMessageTimeout t area src s
  | .relayForwardTimeout t n => Sys2Proof.Machine.execRelayForwardTimeout t n s
  | .timedCommandApply t => Sys2Proof.Machine.execTimedCommandApply t s
  | .quantumReadiness t k => Sys2Proof.Machine.execQuantumReadiness t k s
  | .instanceDispatch t l => Sys2Proof.Machine.execInstanceDispatch t l s
  | .instanceComplete t k j => Sys2Proof.Machine.execInstanceComplete t k j s
  | .schedulerTick t => Sys2Proof.Machine.execSchedulerTick t s
  | .waitTimeout t k j => Sys2Proof.Machine.execWaitTimeout t k j s
  | .sinkDeadline t k => Sys2Proof.Machine.execSinkDeadline t k s
  | .filterSwapCopyDone t j => Sys2Proof.Machine.execFilterSwapCopyDone t j s
  | .sapClockStart t g => Sys2Proof.Machine.execSapClockStart t g s
  | .sapDataEnable t n => Sys2Proof.Machine.execSapDataEnable t n s
  | .startInEdge t => Sys2Proof.Machine.execStartInEdge t s
  | .sapCloseDone t g => Sys2Proof.Machine.execSapCloseDone t g s
  | .sapReceiveFrame t g f bits full => Sys2Proof.Machine.execSapReceiveFrame t g f bits full s
  | .sapTransmitFrame t g f starved => Sys2Proof.Machine.execSapTransmitFrame t g f starved s
  | .sapClockStopped t g => Sys2Proof.Machine.execSapClockStopped t g s
  | .sapRateCheck t g sum => Sys2Proof.Machine.execSapRateCheck t g sum s
  | .sapRejoinStart t g => Sys2Proof.Machine.execSapRejoinStart t g s
  | .sapRejoinDone t g => Sys2Proof.Machine.execSapRejoinDone t g s
  | .tapBlockRead t first k block => Sys2Proof.Machine.execTapBlockRead t first k block s
  | .tapBlockWrite t first k => Sys2Proof.Machine.execTapBlockWrite t first k s
  | .ptpSyncReceived t h twoStep t1 => Sys2Proof.Machine.execPtpSyncReceived t h twoStep t1 s
  | .ptpFollowUpReceived t h t1 => Sys2Proof.Machine.execPtpFollowUpReceived t h t1 s
  | .ptpDelayRespReceived t h clock t4 => Sys2Proof.Machine.execPtpDelayRespReceived t h clock t4 s
  | .ptpDelayReqReceived t h => Sys2Proof.Machine.execPtpDelayReqReceived t h s
  | .ptpAnnounceReceived t h a => Sys2Proof.Machine.execPtpAnnounceReceived t h a s
  | .ptpSyncSend t => Sys2Proof.Machine.execPtpSyncSend t s
  | .ptpAnnounceSend t => Sys2Proof.Machine.execPtpAnnounceSend t s
  | .ptpDelayReqSend t => Sys2Proof.Machine.execPtpDelayReqSend t s
  | .ptpFollowUpTimeout t => Sys2Proof.Machine.execPtpFollowUpTimeout t s
  | .ptpMasterLost t => Sys2Proof.Machine.execPtpMasterLost t s
  | .ppsInEdge t => Sys2Proof.Machine.execPpsInEdge t s
  | .clockBlockMeasure t key => Sys2Proof.Machine.execClockBlockMeasure t key s
  | .timeSourceLost t => Sys2Proof.Machine.execTimeSourceLost t s
  | .timeStepApply t => Sys2Proof.Machine.execTimeStepApply t s
  | .refclkLost t => Sys2Proof.Machine.execRefclkLost t s
  | .refclkReturn t => Sys2Proof.Machine.execRefclkReturn t s
  | .pllLockLoss t pll => Sys2Proof.Machine.execPllLockLoss t pll s
  | .wclkOutModeSwitch t => Sys2Proof.Machine.execWclkOutModeSwitch t s
  | .ppsOutSecond t => Sys2Proof.Machine.execPpsOutSecond t s
  | .macFrameReceived t m f fill => Sys2Proof.Machine.execMacFrameReceived t m f fill s
  | .pauseFrameReceived t m n => Sys2Proof.Machine.execPauseFrameReceived t m n s
  | .pauseHoldExpiry t m => Sys2Proof.Machine.execPauseHoldExpiry t m s
  | .pauseRepeat t m fill => Sys2Proof.Machine.execPauseRepeat t m fill s
  | .macFrameTransmit t m => Sys2Proof.Machine.execMacFrameTransmit t m s
  | .macFrameSent t m aborted => Sys2Proof.Machine.execMacFrameSent t m aborted s
  | .mediaPacketLateDrop t m => Sys2Proof.Machine.execMediaPacketLateDrop t m s
  | .macLinkChange t m up hiber => Sys2Proof.Machine.execMacLinkChange t m up hiber s
  | .streamPacketReceived t m r => Sys2Proof.Machine.execStreamPacketReceived t m r s
  | .streamDownTimeout t j => Sys2Proof.Machine.execStreamDownTimeout t j s
  | .zenFrameReceived t p f fifoOk hiber => Sys2Proof.Machine.execZenFrameReceived t p f fifoOk hiber s
  | .zenFrameLaunch t => Sys2Proof.Machine.execZenFrameLaunch t s
  | .zenLockLoss t p inFrame => Sys2Proof.Machine.execZenLockLoss t p inFrame s
  | .zenMissingFrames t p => Sys2Proof.Machine.execZenMissingFrames t p s
  | .zenRootChange t => Sys2Proof.Machine.execZenRootChange t s
  | .zenLinkWord t p node peer q x => Sys2Proof.Machine.execZenLinkWord t p node peer q x s
  | .twinLinkFrameLaunch t => Sys2Proof.Machine.execTwinLinkFrameLaunch t s
  | .twinLinkFrameReceived t f => Sys2Proof.Machine.execTwinLinkFrameReceived t f s
  | .relaySectionReceived t x => Sys2Proof.Machine.execRelaySectionReceived t x s
  | .relayGapTimeout t => Sys2Proof.Machine.execRelayGapTimeout t s
  | .twlLockLoss t => Sys2Proof.Machine.execTwlLockLoss t s
  | .leaseRenewalTimer t => Sys2Proof.Machine.execLeaseRenewalTimer t s
  | .leasePulseReceived t width => Sys2Proof.Machine.execLeasePulseReceived t width s
  | .leaseSelfFenceTimeout t => Sys2Proof.Machine.execLeaseSelfFenceTimeout t s
  | .leaseSilence t => Sys2Proof.Machine.execLeaseSilence t s
  | .twinRoleDelayExpiry t => Sys2Proof.Machine.execTwinRoleDelayExpiry t s
  | .aliveInStopped t => Sys2Proof.Machine.execAliveInStopped t s
  | .twinFenceSwitch t => Sys2Proof.Machine.execTwinFenceSwitch t s
  | .handoverReceived t h epoch urgent => Sys2Proof.Machine.execHandoverReceived t h epoch urgent s
  | .hackReceived t h => Sys2Proof.Machine.execHackReceived t h s
  | .commitReceived t h => Sys2Proof.Machine.execCommitReceived t h s
  | .cancelReceived t h => Sys2Proof.Machine.execCancelReceived t h s
  | .hackDeadline t => Sys2Proof.Machine.execHackDeadline t s
  | .takebackHoldoffExpiry t => Sys2Proof.Machine.execTakebackHoldoffExpiry t s
  | .fencereqReceived t force => Sys2Proof.Machine.execFencereqReceived t force s
  | .detachReceived t => Sys2Proof.Machine.execDetachReceived t s
  | .mirrorReady t k => Sys2Proof.Machine.execMirrorReady t k s
  | .mirrorFallback t k => Sys2Proof.Machine.execMirrorFallback t k s
  | .signatureMiss t k => Sys2Proof.Machine.execSignatureMiss t k s
  | .twinAutojoinStart t => Sys2Proof.Machine.execTwinAutojoinStart t s
  | .joinCopyBlock t x crcOk image => Sys2Proof.Machine.execJoinCopyBlock t x crcOk image s
  | .joinCatchupDone t => Sys2Proof.Machine.execJoinCatchupDone t s
  | .joinHealDone t => Sys2Proof.Machine.execJoinHealDone t s
  | .joinRetry t => Sys2Proof.Machine.execJoinRetry t s
  | .resetSourceAssert t cause => Sys2Proof.Machine.execResetSourceAssert t cause s
  | .resetSourceRelease t cause => Sys2Proof.Machine.execResetSourceRelease t cause s
  | .powerOnTimer t => Sys2Proof.Machine.execPowerOnTimer t s
  | .firmwareWatchdog t => Sys2Proof.Machine.execFirmwareWatchdog t s
  | .resetScopeApply t => Sys2Proof.Machine.execResetScopeApply t s
  | .clockGoodAssert t c => Sys2Proof.Machine.execClockGoodAssert t c s
  | .clockGoodTimeout t c => Sys2Proof.Machine.execClockGoodTimeout t c s
  | .readyEntry t => Sys2Proof.Machine.execReadyEntry t s
  | .idleTimeout t j => Sys2Proof.Machine.execIdleTimeout t j s
  | .domainPowerDone t d => Sys2Proof.Machine.execDomainPowerDone t d s
  | .supplyWarning t rail mv => Sys2Proof.Machine.execSupplyWarning t rail mv s
  | .supplyRecovery t rail low => Sys2Proof.Machine.execSupplyRecovery t rail low s
  | .thermAlertChange t temp => Sys2Proof.Machine.execThermAlertChange t temp s
  | .polderReady t p => Sys2Proof.Machine.execPolderReady t p s
  | .polderScrub t off err master => Sys2Proof.Machine.execPolderScrub t off err master s
  | .busTransactionTimeout t m id addr => Sys2Proof.Machine.execBusTransactionTimeout t m id addr s
  | .busLateResponse t m id => Sys2Proof.Machine.execBusLateResponse t m id s
  | .dramRefresh t c neighbours => Sys2Proof.Machine.execDramRefresh t c neighbours s
  | .dramMr4Poll t rates fault => Sys2Proof.Machine.execDramMr4Poll t rates fault s
  | .dramSelfRefreshEntry t c request => Sys2Proof.Machine.execDramSelfRefreshEntry t c request s
  | .dramSelfRefreshExit t c => Sys2Proof.Machine.execDramSelfRefreshExit t c s
  | .dramOppointSwitch t => Sys2Proof.Machine.execDramOppointSwitch t s
  | .dramOppointDone t => Sys2Proof.Machine.execDramOppointDone t s
  | .stateSaveComplete t => Sys2Proof.Machine.execStateSaveComplete t s
  | .registerWrite t win off be v => Sys2Proof.Machine.execRegisterWrite t win off be v s
  | .registerReadClear t win off => Sys2Proof.Machine.execRegisterReadClear t win off s
  | .bitAliasWrite t off v => Sys2Proof.Machine.execBitAliasWrite t off v s
  | .postedWriteComplete t b => Sys2Proof.Machine.execPostedWriteComplete t b s
  | .postedWriteTimeout t b => Sys2Proof.Machine.execPostedWriteTimeout t b s
  | .timSnap t => Sys2Proof.Machine.execTimSnap t s
  | .sapgWtpop t v => Sys2Proof.Machine.execSapgWtpop t v s
  | .irqEoi t v => Sys2Proof.Machine.execIrqEoi t v s
  | .irqMsixUnmask t j => Sys2Proof.Machine.execIrqMsixUnmask t j s
  | .cmdCtailWrite t n v => Sys2Proof.Machine.execCmdCtailWrite t n v s
  | .cmdRconsWrite t n v => Sys2Proof.Machine.execCmdRconsWrite t n v s
  | .cmdChannelEnable t n ien log2k => Sys2Proof.Machine.execCmdChannelEnable t n ien log2k s
  | .cmdChannelDisable t n ien => Sys2Proof.Machine.execCmdChannelDisable t n ien s
  | .macRxtailWrite t m r tail ds => Sys2Proof.Machine.execMacRxtailWrite t m r tail ds s
  | .macTxtailWrite t m r tail ds => Sys2Proof.Machine.execMacTxtailWrite t m r tail ds s
  | .rpcPdreqWrite t v => Sys2Proof.Machine.execRpcPdreqWrite t v s
  | .pcieLinkChange t up enable mask => Sys2Proof.Machine.execPcieLinkChange t up enable mask s
  | .zenBlockLockGain t p => Sys2Proof.Machine.execZenBlockLockGain t p s
  | .twlBlockLockGain t delay => Sys2Proof.Machine.execTwlBlockLockGain t delay s
  | .aliveInEdge t => Sys2Proof.Machine.execAliveInEdge t s
  | .aliveOutToggle t => Sys2Proof.Machine.execAliveOutToggle t s
  | .blockIdleReported t j => Sys2Proof.Machine.execBlockIdleReported t j s
  | .ptpQualificationTimeout t => Sys2Proof.Machine.execPtpQualificationTimeout t s

end Sys2Proof.Machine
end

