-- ==== Sys2Proof/Safety.lean ====
section
/-! DEFINITION. What a safe run is, and the terms in which statements speak of a command's outcome. -/
namespace Sys2Proof.Safety
open Sys2Proof.Machine

/-- A step ends in a next state. -/
def Completes (s : State) : Prop := ∃ t, step s = .next t

/-- The states that steps reach from a state. -/
inductive Reaches (s : State) : State → Prop where
  | here : Reaches s s
  | more {t u : State} : Reaches s t → step t = .next u → Reaches s u

/-- Nothing waits that a command would set moving: no packet waits for the interpreter, no notification or reply for its
transport, no channel for its reset, no PTP message for its queue, and without a board table no REFCLK count for its judgement. -/
def Quiet (s : State) : Prop :=
  (∀ n < 15, (s.chan n).waiting = [] ∧ (s.chan n).notes = []) ∧ (∀ n < 8, (s.chan n).closing = false) ∧
  (∀ n, 9 ≤ n → n < 15 → (s.chan n).out = [] ∧ (s.chan n).gather = none) ∧ s.tu.ptpOut = [] ∧ s.board = []

/-- Two states are the same but for interrupt messages sent: every field is equal but the list of messages, and every register but
IRQ_ARMED, IRQ_PBA0 and IRQ_MSICNT. -/
def SameButMessages (t u : State) : Prop :=
  { t with regs := u.regs, messages := u.messages } = u ∧
  ∀ a, a ≠ rIrqArmed → a ≠ rIrqPba0 → a ≠ rIrqMsicnt → t.reg a = u.reg a

/-- A command completes: exec answers the next state u, but for interrupt messages that its effect sends (R480). -/
def EndsIn (i : Instr) (s u : State) : Prop := ∃ t, exec i s = .next t ∧ SameButMessages t u

/-- No interrupt message is due (R480): a vector that is enabled and armed, with its source asserted and messages enabled, is masked,
and its pending bit stands in place of the message. -/
def MessagesSent (s : State) : Prop :=
  ∀ i < 29, s.msixEnable = true → s.irqSource i = true → bitOf (s.reg rIrqEnmsi) i = true → bitOf (s.reg rIrqArmed) i = true →
    s.vectorMasked i = true ∧ bitOf (s.reg rIrqPba0) i = true

/-- A PCIe channel that was disabled is reset as soon as no command of it executes (R484). -/
def DisabledReset (s : State) : Prop := ∀ n < 8, (s.chan n).closing = true → (s.chan n).hold ≠ none

/-! ### Rows and their rules -/

/-- What a row of events does in the states of one kind: a guard on the state at the event's moment, and the effect there. -/
structure Rule where
  row : Nat → Instr
  guard : State → Prop
  effect : State → State

/-- The rule holds: in every state that meets the guard the row completes, with the effect and what follows from it at once. -/
def Rule.Holds (r : Rule) : Prop :=
  ∀ (t : Nat) (s : State), r.guard (s.atTime t) → exec (r.row t) s = .next (r.effect (s.atTime t)).settle

/-- Some state meets the rule's guard. -/
def Rule.Met (r : Rule) : Prop := ∃ (t : Nat) (s : State), r.guard (s.atTime t)

/-- What holds after a row of events in the states of one kind: a guard on the state at the event's moment, and a relation between that state
and the one its effect leaves. -/
structure Course where
  row : Nat → Instr
  guard : State → Prop
  after : State → State → Prop

/-- The row completes from every state that meets the guard, and what holds after it does. -/
def Course.Holds (r : Course) : Prop :=
  ∀ (t : Nat) (s : State), r.guard (s.atTime t) → ∃ v, exec (r.row t) s = .next v.settle ∧ r.after (s.atTime t) v

/-- Some state meets the guard. -/
def Course.Met (r : Course) : Prop := ∃ (t : Nat) (s : State), r.guard (s.atTime t)

/-- What a command of the catalogue does when it is taken: the state, the reply's words, and the rest that its acceptance gives. -/
structure Command where
  row : Nat → Packet → Instr
  spec : CmdSpec
  effect : Packet → State → Int → Done

/-- The state in which a packet is judged: at its moment, an open chain of another opcode discarded (R431). -/
def judgedIn (c : CmdSpec) (t : Nat) (p : Packet) (s : State) : State := breakChain c.op p (s.atTime t)

/-- A packet passes steps 6 to 11 of Table 14-7 at index i, on a device that takes commands (R409, R427). -/
def Passes (c : CmdSpec) (t : Nat) (p : Packet) (s : State) (i : Int) : Prop :=
  (s.atTime t).takes = true ∧ c.verdict p (judgedIn c t p s) = .take i

/-- The command completes: a packet that passes the checks, and neither joins a set nor goes on in a chain, has the command's effect, and
is answered. -/
def Command.Holds (c : Command) : Prop :=
  ∀ (t : Nat) (p : Packet) (s : State) (i : Int), Passes c.spec t p s i → p.group = false → p.more = false →
    exec (c.row t p) s = .next (c.spec.finish p i (judgedIn c.spec t p s) (c.effect p (judgedIn c.spec t p s) i)).settle

/-- Some packet passes the checks of the command in some state. -/
def Command.Met (c : Command) : Prop :=
  ∃ (t : Nat) (p : Packet) (s : State) (i : Int), Passes c.spec t p s i ∧ p.group = false ∧ p.more = false

/-- The acceptance of a timed command: one more change waits, in order of acceptance, for the selected index (R60, R62, R430). -/
def waits (op : Nat) (quantum : Bool) (p : Packet) (u : State) (i : Int) (data : List Int := []) : State :=
  { u with changes := u.changes ++ [{ index := i, quantum := quantum, order := u.nextOrder, timed := decide (p.apply ≠ 0), op := op,
                                      packets := chainOf op p u, data := data }],
           nextOrder := u.nextOrder + 1 }

end Sys2Proof.Safety
end

