-- ==== Sys2Proof/Safety/Commands.lean ====
section
/-! DEFINITION. What each command of the catalogue does when it is taken, by family: the terms of the statements about commands. -/
namespace Sys2Proof.Safety
open Sys2Proof.Machine

/-! ### Queries: the state is left as it is, and the reply holds words -/

/-- A command that reports: its words, and nothing else. -/
def reports (row : Nat → Packet → Instr) (spec : CmdSpec) (words : Packet → State → List Word) : Command :=
  ⟨row, spec, fun p u _ => { s := u, words := words p u }⟩

/-- R442. -/
def pingDoes : Command := reports .ping pingSpec fun p _ => p.params
/-- R443, Table 15-5. -/
def getInfoDoes : Command := reports .getInfo getInfoSpec fun _ u => u.infoWords
/-- R444, Table 15-6; its measurements are taken anew each time. -/
def getStatusDoes : Command := ⟨.getStatus, getStatusSpec, fun _ u _ => { s := { u with free := u.free + 1 }, words := u.statusWords }⟩
/-- R567: the load on every admission resource, per mille. -/
def graphQueryCostDoes : Command :=
  reports .graphQueryCost graphQueryCostSpec fun _ u => (u.buildGraph.loads u (u.fmaxAt u.index)).map w32
/-- R74, R566, Table 02-7. -/
def pathLatencyDoes : Command :=
  reports .pathLatency pathLatencySpec fun p u => pathWords (u.futureAt u.index) (fld (p.w 4) 12 0) (fld (p.w 5) 12 0)
/-- R120, Table 03-6. -/
def objectQueryDoes : Command := reports .objectQuery objectQuerySpec fun p u =>
  match u.objNamed p with
  | none => []
  | some x => match (u.objMem x.1 x.2).last with | some e => e.words | none => x.2.words u.index
/-- R313, Table 10-7. -/
def timeQueryDoes : Command := reports .timeQuery timeQuerySpec fun _ u => u.timeWords
/-- R402, Table 13-11. -/
def twinStatusDoes : Command := reports .twinStatus twinStatusSpec fun _ u =>
  [w32 (u.twnStatus % 2 ^ 16 + u.twin.partner.code * 2 ^ 16), w32 u.twin.epoch, w32 u.healRemain, w32 u.twin.snapKib, lo32 u.twin.compared,
   lo32 (satBits 32 u.twin.skew)]
/-- R461: K words of keep SRAM from an address on. -/
def keepReadDoes : Command := reports .keepRead keepReadSpec fun p u =>
  (List.range (fld (p.w 5) 9 0)).map fun i => keepWord u.keep (fld (p.w 4) 15 0 + 4 * i)
/-- R464; with no entry returned w4 is a free value. -/
def eventReadDoes : Command := ⟨.eventRead, eventReadSpec, fun p u _ =>
  { s := { u with free := u.free + 1 }, words := u.eventWords (p.w 4).toNat (fld (p.w 5) 6 0) }⟩
/-- R369, Table 12-5. -/
def zenTopologyDoes : Command := reports .zenTopology zenTopologySpec fun p u =>
  let es := if u.zen.enabled then u.topology.entries (fld (p.w 4) 11 0) else []
  [w32 (u.topoState u.topology + u.zen.topGen * 2 ^ 8), w32 (u.zen.root + (if u.zen.enabled then u.topology.order.length else 0) * 2 ^ 16),
   w32 (u.topology.dlap u.zen.mode), w32 (u.topology.pmin u.zen.mode u.fs % 2 ^ 13 + u.topology.qmax % 2 ^ 13 * 2 ^ 16),
   w32 (fld (p.w 4) 11 0 + es.length / 2 * 2 ^ 16)] ++ es
/-- Table 05-5: plan, coverage, swap state and counts of a convolution channel. -/
def convQueryDoes : Command := reports .convQuery convQuerySpec fun p u =>
  match (u.graphAt u.index).convOp (fld (p.w 4) 13 0) with
  | none => []
  | some o =>
    let c := u.cfg.convOf (fld (p.w 4) 13 0)
    [w32 (o.convChan + o.convPlan * 2 ^ 16), w32 o.convRes, w32 (convCovered o.convPlan o.convRes), w32 ((c.fold u.index).filter.elim 0 fun f => f.taps.length),
     w32 (c.swapState u.index + (64 - u.audio.slotsConv.length) * 4), lo32 c.swapIndex, hi32 c.swapIndex,
     w32 (u.counter 0x05 o.convChan), w32 (u.counter 0x06 o.convChan)]
/-- R466: counters of a class, zeroed after the read when the packet says so. -/
def counterReadDoes : Command := ⟨.counterRead, counterReadSpec, fun p u _ =>
  let cls := fld (p.w 4) 7 0
  let idx := span (fld (p.w 5) 20 0) (fld (p.w 6) 9 0)
  { s := if bitOf (p.w 4) 8 then idx.foldl (fun (v : State) i => v.zeroCounter cls i) u else u, words := idx.map fun i => w32 (u.counterShown cls i) }⟩

/-! ### System, firmware, board table and channels -/

/-- R39, R40, R446: the rate, Q, and the committed graph admitted again. -/
def setRateDoes : Command := ⟨.setRate, setRateSpec, fun p u _ =>
  { s := ({ u.cutRamps with rate := fld (p.w 4) 1 0, logQ := fld (p.w 4) 6 4 }).reAdmitted }⟩
/-- R453. -/
def fwUpdateBeginDoes : Command := ⟨.fwUpdateBegin, fwUpdateBeginSpec, fun p u _ =>
  { s := { u with fw := { u.fw with session := some { ch := p.ch, size := (p.w 4).toNat } } } }⟩
/-- R454: the words go into the image from the offset on. -/
def fwUpdateDataDoes : Command := ⟨.fwUpdateData, fwUpdateDataSpec, fun p u _ =>
  { s := { u with fw := { u.fw with session := u.fw.session.map fun (f : FwSession) =>
      { f with image := (p.params.drop 1).zipIdx.foldl (fun m x => AMap.put m ((p.w 4).toNat / 4 + x.2) x.1) f.image } } } }⟩
/-- R455: the session is closed; after ABORT the reply's word is a free value, else the image becomes the patch and FW_COMMITTED is logged. -/
def fwUpdateCommitDoes : Command := ⟨.fwUpdateCommit, fwUpdateCommitSpec, fun p u _ =>
  if bitOf (p.w 4) 0 then { s := { u with fw := { u.fw with session := none }, free := u.free + 1 }, words := [Config.unstated u.free] }
  else
    let im := u.fw.session.elim [] fun f => f.image.vals
    { s := ({ u with fw := { patch := some im, session := none } }).logNow evFwCommitted, words := [im.getD 2 0] }⟩
/-- R448: the reset waits; the reply goes first. -/
def resetScopeDoes : Command := ⟨.resetScope, resetScopeSpec, fun p u _ =>
  { s := { u with pendReset := some { reach := fld (p.w 4) 1 0 + 1, domain := fld (p.w 4) 7 4, block := fld (p.w 4) 15 8, replied := u.now } } }⟩
/-- R449. -/
def boardTableLoadDoes : Command := ⟨.boardTableLoad, boardTableLoadSpec, fun p u _ =>
  { s := u.putBoard ((boardTable (chainOf 0x020 p u) (fld (p.w 4) 14 0)).getD []) }⟩
/-- R451: the channel is configured, and reset when asked; its own channel only after the reply. -/
def channelConfigDoes : Command := ⟨.channelConfig, channelConfigSpec, fun p u _ =>
  let n := fld (p.w 4) 3 0
  if channelResets n p then
    (if n = p.ch then { s := channelConfigured n p u, after := fun v => v.resetChannel n } else { s := (channelConfigured n p u).resetChannel n })
  else { s := channelConfigured n p u }⟩
/-- R460: the words stand in keep SRAM from the address on, under a new CRC. -/
def keepWriteDoes : Command := ⟨.keepWrite, keepWriteSpec, fun p u _ =>
  let m := keepPutWords u.keep (fld (p.w 4) 15 0) (p.params.drop 2)
  { s := { u with keep := m, keepCrc := keepCrcOf m } }⟩
/-- R462: the subscription is entered under its number, or released. -/
def meterSubscribeDoes : Command := ⟨.meterSubscribe, meterSubscribeSpec, fun p u _ =>
  let n := fld (p.w 4) 5 0
  { s := { u with subs := if bitOf (p.w 4) 8 then AMap.del u.subs n else AMap.put u.subs n (subOf p) } }⟩
/-- R65: an empty set is open on the channel. -/
def safeSetBeginDoes : Command := ⟨.safeSetBegin, safeSetBeginSpec, fun p u _ =>
  { s := u.updChan p.ch fun c => { c with set := some {} } }⟩
/-- R68: the set closes, and its members wait as one change; its filter swaps run along from now on (R175). -/
def safeSetCommitDoes : Command := ⟨.safeSetCommit, safeSetCommitSpec, fun p u i =>
  let ms := (u.chan p.ch).set.elim [] (·.members)
  let c : Change := { index := i, quantum := ms.isEmpty, order := 0, timed := decide (p.apply ≠ 0), op := 0x111, packets := [p], members := ms }
  { s := ((u.updChan p.ch fun c => { c with set := none }).enqueue c).enterSwaps i ms }⟩

/-! ### Timed commands whose change waits for its index -/

/-- A timed command whose acceptance enters its change and does nothing else. -/
def entersChange (row : Nat → Packet → Instr) (spec : CmdSpec) (op : Nat) (quantum : Bool) : Command :=
  ⟨row, spec, fun p u i => { s := waits op quantum p u i }⟩

/-- Sample-exact commands (Table 02-5). -/
def sampleExact : List Command :=
  [entersChange .objectParams objectParamsSpec 0x206 false, entersChange .zoneMask zoneMaskSpec 0x207 false,
   entersChange .soundSpeed soundSpeedSpec 0x208 false, entersChange .routeSet routeSetSpec 0x301 false,
   entersChange .routeClear routeClearSpec 0x302 false, entersChange .xpointSet xpointSetSpec 0x303 false,
   entersChange .xpointBlock xpointBlockSpec 0x304 false, entersChange .gainSet gainSetSpec 0x306 false,
   entersChange .fadeParams fadeParamsSpec 0x307 false, entersChange .dikeConfig dikeConfigSpec 0x501 false,
   entersChange .outputMute outputMuteSpec 0x502 false, entersChange .ditherConfig ditherConfigSpec 0x503 false,
   entersChange .outputDelay outputDelaySpec 0x504 false]

/-- Quantum-exact commands (Table 02-5). -/
def quantumExact : List Command :=
  [entersChange .startProcessing startProcessingSpec 0x009 true, entersChange .stopProcessing stopProcessingSpec 0x00A true,
   entersChange .opCancel opCancelSpec 0x107 true, entersChange .layoutLoad layoutLoadSpec 0x201 true,
   entersChange .meshLoad meshLoadSpec 0x202 true, entersChange .busCreate busCreateSpec 0x305 true,
   entersChange .tapConfig tapConfigSpec 0x604 true, entersChange .streamRxAdd streamRxAddSpec 0x802 true,
   entersChange .streamRemove streamRemoveSpec 0x804 true, entersChange .zenDrop zenDropSpec 0x903 true,
   entersChange .zenInsert zenInsertSpec 0x904 true]

/-- R86: a change waits that creates or releases the object; a creation gives a handle never given before, and the object is coming. -/
def objectCreateDoes : Command := ⟨.objectCreate, objectCreateSpec, fun p u i =>
  let v := waits 0x203 true p u i
  if bitOf (p.w 4) 31 then { s := v, words := [0] }
  else
    let h := chosenHandle none u
    let c := { v.cfg.serpent with coming := AMap.put v.cfg.serpent.coming (fld (p.w 4) 8 0) (newObject p u i h) }
    { s := { v with free := v.free + 1, handles := h :: v.handles, cfg := { v.cfg with serpent := c } }, words := [h] }⟩
/-- R342: the stream's SSRC is the one asked for, or one that the device chooses. -/
def streamTxAddDoes : Command := ⟨.streamTxAdd, streamTxAddSpec, fun p u i =>
  if p.w 8 = 0 then
    { s := waits 0x803 true p { u with free := u.free + 1 } i [((Config.ssrc u.free).toNat : Int)], words := [Config.ssrc u.free] }
  else { s := waits 0x803 true p u i [((p.w 8).toNat : Int)], words := [p.w 8] }⟩
/-- R352: the reply holds the map's check. -/
def zenMapDoes : Command := ⟨.zenMap, zenMapSpec, fun p u i => { s := waits 0x902 true p u i, words := [w32 (mapCheckOf p.params)] }⟩
/-- R269: n_s is fixed now, and with it the groups that are not OFF. -/
def sapStopDoes : Command := ⟨.sapStop, sapStopSpec, fun p u i =>
  { s := waits 0x603 true p u (max i u.nextFrame)
           (((maskGroups (p.w 4)).filter fun g => decide ((u.sapGroup g).state ≠ .off)).map fun (g : Nat) => ((g : Nat) : Int)), time := some i }⟩

/-! ### The graph -/

/-- R52: the build area is open under a new handle. -/
def graphBeginDoes : Command := ⟨.graphBegin, graphBeginSpec, fun p u _ =>
  let h := chosenHandle none u
  { s := { u with free := u.free + 1, handles := h :: u.handles, build := some { handle := h, ch := p.ch } }, words := [h] }⟩
/-- R51: the operation stands in the build. -/
def graphAddOpDoes : Command := ⟨.graphAddOp, graphAddOpSpec, fun p u _ =>
  { s := { u with build := u.build.map fun b => { b with graph := { b.graph with ops := AMap.put b.graph.ops (fld (p.w 4) 29 16) (addedOp p) } } } }⟩
/-- R51: the edge stands in the build. -/
def graphConnectDoes : Command := ⟨.graphConnect, graphConnectSpec, fun p u _ =>
  { s := { u with build := u.build.map fun b => { b with graph := { b.graph with edges := b.graph.edges ++ [addedEdge p] } } } }⟩
/-- R53: the build is gone; while RUNNING the graph waits for its boundary, else it is in force at once. -/
def graphCommitDoes : Command := ⟨.graphCommit, graphCommitSpec, fun p u i =>
  let g := u.buildGraph
  let t := u.admitAt i
  let l := highestLoad (g.admitted t (t.fmaxAt (u.boundaryFrom i))).loads
  let v := { u with build := none }
  if u.run = .running then
    { s := (v.poldersFor g).enqueue { index := i, quantum := true, order := 0, timed := decide (p.apply ≠ 0), op := 0x104, packets := [p], graph := some g },
      words := [w32 l.1, w32 l.2] }
  else { s := v.replaceGraph g i, words := [w32 l.1, w32 l.2] }⟩

/-! ### Objects and filters -/

/-- R90 to R93: the segments enter the object's queue; late ones are counted and logged. -/
def trajAppendDoes : Command := ⟨.trajAppend, trajAppendSpec, fun p u i =>
  match u.objNamed p, entered p u i with
  | some x, .ok r =>
    let late := ((List.range 16).filter fun j => r.2.testBit j).length
    let v := u.putObj x.1 { x.2 with queue := r.1 }
    { s := if late = 0 then v else (v.count 0x17 (x.1 * 8 + 4) late).logAt evSegLate i [late], words := [w32 r.1.length, w32 r.2] }
  | _, _ => { s := u }⟩
/-- R95: the queue is emptied at E, and the reply holds the position kept. -/
def trajFlushDoes : Command := ⟨.trajFlush, trajFlushSpec, fun p u i =>
  match u.objNamed p with
  | none => { s := u }
  | some x => { s := u.putObj x.1 (x.2.flush i), words := (x.2.posAt i).1.words }⟩
/-- R170: a free slot is LOADING under a new handle. -/
def filterLoadBeginDoes : Command := ⟨.filterLoadBegin, filterLoadBeginSpec, fun p u _ =>
  let h := chosenHandle none u
  let n := ((List.range 64).find? fun n => !AMap.has u.audio.slotsConv n).getD 64
  { s := (u.gaveHandle h).putSlot n { handle := h, op := fld (p.w 4) 13 0, count := fld (p.w 5) 14 0 }, words := [h] }⟩
/-- R171: the taps stand in the slot from the offset on. -/
def filterLoadDataDoes : Command := ⟨.filterLoadData, filterLoadDataSpec, fun p u _ =>
  match u.slotOf p.handle with
  | none => { s := u }
  | some x => { s := u.putSlot x.1 { x.2 with
      taps := (p.params.drop 1).zipIdx.foldl (fun m w => AMap.put m (fld (p.w 4) 13 0 + w.2) w.1.toInt) x.2.taps } }⟩
/-- R172, R173: the slot is PREPARED with its compiled filter, or discarded on request. -/
def filterLoadEndDoes : Command := ⟨.filterLoadEnd, filterLoadEndSpec, fun p u _ =>
  match u.slotOf p.handle with
  | none => { s := u }
  | some x =>
    if bitOf (p.w 5) 0 then { s := u.freeSlotConv x.1 }
    else
      let f := u.slotFilter x.2
      { s := u.putSlot x.1 { x.2 with filter := some f, phase := .prepared }, words := [w32 ((lo32 f.report.1).toNat % 256 + f.report.2 % 65536 * 256)] }⟩
/-- R175, R179: the incoming filter runs along from now on; in READY it is in force at once. -/
def filterSwapDoes : Command := ⟨.filterSwap, filterSwapSpec, fun p u i =>
  if u.run = .ready then { s := u.installFilter p, time := some u.index } else { s := (waits 0x404 false p u i).enterSwap p i }⟩

/-! ### Serial audio ports, time, and the media network -/

/-- R255: the group takes its configuration words; its balls idle as they say. -/
def sapConfigDoes : Command := ⟨.sapConfig, sapConfigSpec, fun p u _ =>
  let g := fld (p.w 4) 3 0
  let x := { u.sapGroup g with cfg0 := p.w 5, cfg1 := p.w 6 }
  let v := u.putGroup g { x with balls := u.idleBalls x, tails := u.idleBalls x }
  { s := if x.master then v.setFld (rSapgPhase + 0x400 * g) 15 0 0 else v }⟩
/-- R265 to R267: the groups named are ARMED as one set, which starts from its index or waits for START_IN. -/
def sapArmDoes : Command := ⟨.sapArm, sapArmSpec, fun p u i =>
  let gs := maskGroups (p.w 4)
  let n := u.freeSet
  let x : SapSet := { waiting := true, startOut := bitOf (p.w 4) 17, qsMax := (gs.map fun g => (u.sapGroup g).quiet).foldl max 0, arm := some p }
  let y := if bitOf (p.w 4) 16 then x else x.place u (max i u.nextFrame)
  let v := gs.foldl (fun (v : State) g => v.putGroup g { v.sapGroup g with state := .armed, set := some n, label := none, from_ := none }) u
  let w := { v with sap := { v.sap with sets := AMap.put v.sap.sets n y } }
  { s := if p.apply = 0 then w else waits 0x602 true p w i, words := [w32 n], time := if bitOf (p.w 4) 16 then some u.index else none }⟩
/-- R293, R294, R299, R300: settings, source, origin, and a step of device time; while a step waits for its boundary, source and step wait
too. -/
def timeConfigDoes : Command := ⟨.timeConfig, timeConfigSpec, fun p u _ =>
  let v := { u with tu := { u.tu with stepRun := bitOf (p.w 4) 16, bandwidth := fld (p.w 9) 2 0, outlier := fld (p.w 9) 15 8,
                                      origin := if bitOf (p.w 4) 18 then (u64 (p.w 7) (p.w 8) : Int) else u.tu.origin } }
  let w := v.sourceEvent (.select (sourceOfCode (fld (p.w 4) 2 0)) (fld (p.w 4) 5 4) (fld (p.w 4) 9 8))
  let d := (u64 (p.w 5) (p.w 6) : Int) * nsUnit - u.time
  { s := if bitOf (p.w 4) 17 then w.sourceEvent (.set d) else w }⟩
/-- R302, R311: the port's settings; enabled it LISTENs, else it is DISABLED. -/
def ptpConfigDoes : Command := ⟨.ptpConfig, ptpConfigSpec, fun p u _ =>
  let st := decide (fld (p.w 4) 3 2 = 1)
  { s := { u with tu := { u.tu with ptp :=
      { enabled := bitOf (p.w 4) 5, named := true, mac := fld (p.w 4) 1 0, profile := fld (p.w 4) 3 2, slaveOnly := bitOf (p.w 4) 4, unicast := bitOf (p.w 4) 6,
        domain := fld (p.w 4) 15 8, prio1 := fld (p.w 5) 7 0, prio2 := fld (p.w 5) 15 8, classLock := fld (p.w 5) 23 16,
        classHold := fld (p.w 5) 31 24, accuracy := fld (p.w 6) 7 0, variance := fld (p.w 6) 31 16,
        logSync := ptpInterval (fld (p.w 7) 7 0) (-3), logAnnounce := ptpInterval (fld (p.w 7) 15 8) (if st then -2 else 1),
        logDelayReq := ptpInterval (fld (p.w 7) 23 16) (if st then -3 else 0),
        timeout := if fld (p.w 7) 31 24 = 0 then 3 else fld (p.w 7) 31 24, asymmetry := sfld (p.w 8) 31 0,
        state := if bitOf (p.w 4) 5 then .listening else .disabled, since := u.now, lastAnnAt := u.now, lastSyncAt := u.now } } } }⟩
/-- R307, R308: the settings wait for their period and their second. -/
def mediaClockDoes : Command := ⟨.mediaClock, mediaClockSpec, fun p u _ =>
  { s := { u with tu := { u.tu with wclkNext := some (fld (p.w 4) 1 0, (Int.fdiv u.index 64 + 1) * 64),
                                    ppsNext := some (bitOf (p.w 4) 4, fld (p.w 5) 18 0) } } }⟩
/-- R341: the MAC takes its settings; a Damuri channel that it disables is reset, the packet's own after the reply. -/
def macConfigDoes : Command := ⟨.macConfig, macConfigSpec, fun p u _ =>
  let m := fld (p.w 4) 1 0
  let v := u.putMac m { (u.mac m).creditedAll u.now with enabled := bitOf (p.w 4) 8, cfg := p.params }
  if u.udpOn m && !v.udpOn m then
    (if p.ch = 9 + m then { s := v, after := fun w => w.resetChannel (9 + m) } else { s := v.resetChannel (9 + m) })
  else { s := v }⟩
/-- R323: slope and limits of a shaped queue; its credit is held within them. -/
def shaperSetDoes : Command := ⟨.shaperSet, shaperSetSpec, fun p u _ =>
  let m := fld (p.w 4) 1 0
  let x := (u.mac m).creditedAll u.now
  let i := fld (p.w 4) 8 8
  let h := x.shapers.getD i {}
  { s := u.putMac m { x with shapers := x.shapers.set i { h with
      slope := (p.w 5).toNat, hi := (p.w 6).toNat, lo := (p.w 7).toInt,
      credit := clampI ((p.w 7).toInt * creditByte) ((p.w 6).toNat * creditByte) h.credit } } }⟩
/-- R318, R319: the MAC's pause settings; the generator looks at the fill under them. -/
def pauseConfigDoes : Command := ⟨.pauseConfig, pauseConfigSpec, fun p u _ =>
  let m := fld (p.w 4) 1 0
  { s := (u.putMac m { u.mac m with honor := bitOf (p.w 4) 4, gen := bitOf (p.w 4) 5, tp := fld (p.w 5) 15 0,
                                    high := fld (p.w 6) 17 0, low := fld (p.w 7) 17 0 }).pauseGen m }⟩

/-! ### Zenel Link, twin, DRAM and snapshots -/

/-- R367: node, mode, ports and P; maps and mappings stay, and what was heard is forgotten. -/
def zenConfigDoes : Command := ⟨.zenConfig, zenConfigSpec, fun p u _ =>
  let on := bitOf (p.w 4) 15
  let z : Zen := { enabled := on, node := fld (p.w 4) 11 0, rootEn := bitOf (p.w 4) 12, mode := fld (p.w 4) 14 13, portEn := fld (p.w 4) 19 16,
                   p := fld (p.w 5) 12 0, ports := u.zen.ports.zipIdx.map fun x => x.1.configured (on && bitOf (p.w 4) (16 + x.2)),
                   maps := u.zen.maps, drops := u.zen.drops, inserts := u.zen.inserts, topGen := u.zen.topGen,
                   rings := [{ launched := u.index }, { launched := u.index }], upLaunched := u.index, clipped := u.zen.clipped, sent := u.zen.sent }
  { s := ({ u with zen := z }.portEvents u).zenView }⟩
/-- R402: enabled, the device enters FENCED and is fenced; disabled, it is DETACHED and unfenced. -/
def twinConfigDoes : Command := ⟨.twinConfig, twinConfigSpec, fun p u _ => { s := twinConfigured p u }⟩
/-- R399: the device is JOINING and asks for a copy. -/
def twinJoinDoes : Command := ⟨.twinJoin, twinJoinSpec, fun _ u _ => { s := { u.startJoin with free := u.free + 1 } }⟩
/-- R383, R402: HANDOVER with h goes out, and the reply is OK_QUEUED with h. -/
def twinHandoverDoes : Command := ⟨.twinHandover, twinHandoverSpec, fun p u _ =>
  let h := u.handoverAt (bitOf (p.w 4) 0)
  { s := { u with twin := { u.twin with hand := some { h := h, urgent := bitOf (p.w 4) 0, fence := none }, outHand := some (h, bitOf (p.w 4) 0) } },
    time := some h, queued := true }⟩
/-- R402: HOLD is released, the partner is asked to fence, or the device fences itself. -/
def twinFenceDoes : Command := ⟨.twinFence, twinFenceSpec, fun p u _ =>
  { s := if bitOf (p.w 4) 1 then { u with twin := { u.twin with hold := false } }
         else if bitOf (p.w 4) 0 then { u with twin := { u.twin with outFence := some (bitOf (p.w 4) 2) } }
         else (u.fenceSelf (bitOf (p.w 4) 2)).getD u }⟩
/-- R503, R504: the DRAM runs at the operating point with the interleave asked for; the reply holds its size. -/
def dramStartDoes : Command := ⟨.dramStart, dramStartSpec, fun p u _ =>
  { s := u.dramStarted (fld (p.w 4) 1 0) (fld (p.w 4) 11 8), words := [w32 u.dramMiB, w32 1072] }⟩
/-- R510: the operating point in force is answered at once; another one is prepared in the spare timing set, and answered when it holds. -/
def dramOppointDoes : Command := ⟨.dramOppoint, dramOppointSpec, fun p u _ =>
  let n := fld (p.w 4) 1 0
  if n = u.dram.op then { s := u }
  else
    let x : OpChange := { packet := p, target := n, after := u.nextDeadline, switching := decide (u.run ≠ .running) }
    { s := ({ u with dram := { u.dram with change := some x } }.putTiming (!u.dram.setB) n).updChan p.ch fun c => { c with hold := some .reply },
      silent := true }⟩
/-- R456: the capture begins, at once or at its boundary; the reply comes when it is complete. -/
def stateSaveDoes : Command := ⟨.stateSave, stateSaveSpec, fun p u i =>
  let f := u.imageFacts
  let x : Save := { packet := p, boundary := i, body := if u.run = .running then none else some (u.copied i), size := f.1.1, crc := f.1.2 }
  { s := { f.2 with mem := { f.2.mem with save := some x } }.updChan p.ch fun c => { c with hold := some .reply }, silent := true }⟩
/-- R458: the snapshot's state takes the place of the device's. -/
def stateRestoreDoes : Command := ⟨.stateRestore, stateRestoreSpec, fun p u _ =>
  { s := match u.snapshotAt p with | some x => u.restored x | none => u }⟩

/-- Every command of the catalogue (Table 15-2). -/
def commands : List Command :=
  [pingDoes, getInfoDoes, getStatusDoes, setRateDoes, fwUpdateBeginDoes, fwUpdateDataDoes, fwUpdateCommitDoes, resetScopeDoes,
   boardTableLoadDoes, channelConfigDoes, graphBeginDoes, graphAddOpDoes, graphConnectDoes, graphCommitDoes, graphQueryCostDoes,
   pathLatencyDoes, safeSetBeginDoes, safeSetCommitDoes, objectCreateDoes, trajAppendDoes, trajFlushDoes, objectQueryDoes,
   filterLoadBeginDoes, filterLoadDataDoes, filterLoadEndDoes, filterSwapDoes, convQueryDoes, sapConfigDoes, sapArmDoes, sapStopDoes,
   timeConfigDoes, ptpConfigDoes, timeQueryDoes, mediaClockDoes, macConfigDoes, streamTxAddDoes, shaperSetDoes, pauseConfigDoes,
   zenConfigDoes, zenMapDoes, zenTopologyDoes, twinConfigDoes, twinJoinDoes, twinHandoverDoes, twinStatusDoes, twinFenceDoes,
   dramStartDoes, dramOppointDoes, stateSaveDoes, stateRestoreDoes, keepWriteDoes, keepReadDoes, meterSubscribeDoes, eventReadDoes,
   counterReadDoes] ++ sampleExact ++ quantumExact

end Sys2Proof.Safety
end

