-- ==== Sys2Proof/Safety/Engine.lean ====
section
/-! DEFINITION. What the scheduler and the engines do, row by row: the terms of the statements about them (R60 to R63, R177, R235, R239 to
R249). -/
namespace Sys2Proof.Safety
open Sys2Proof.Machine

/-- TIMED_COMMAND_APPLY: the one change that waits takes effect at its index, and waits no longer (R60, R62). -/
abbrev changeTaken (c : Change) : Rule where
  row := fun t => .timedCommandApply t
  guard := fun u => u.changes = [c] ∧ u.mayApply c = true ∧ u.index - 2 ^ 62 ≤ u.effIndex c
  effect := fun u => applyChange c { u with changes := [] } (u.effIndex c)

/-- TIMED_COMMAND_APPLY: a change whose index has not come stays (R60). -/
abbrev changeWaits (c : Change) : Rule where
  row := fun t => .timedCommandApply t
  guard := fun u => u.changes = [c] ∧ u.index < u.effIndex c
  effect := fun u => u

/-- QUANTUM_READINESS of the next quantum at its time: the changes due act, missing inputs are substituted, and the quantum enters
processing (R32, R63, R235); a holder closes the quantum's mirror (R389). -/
abbrev quantumStarts (k : Int) : Rule where
  row := fun t => .quantumReadiness t k
  guard := fun u => u.quantumNear k = true ∧ u.twin.mirrors = false ∧ (u.reachQuantum k).quantumDue k = true ∧ (u.reachQuantum k).twin.mirrors = false
  effect := fun u => (((u.reachQuantum k).startQuantum k State.ownInput).mirrorClose (k * u.q)).captureEnd

/-- INSTANCE_DISPATCH: the head of the list takes the free slot, and leaves the pool (R239, R240). -/
abbrev instanceTakesSlot (l core : Nat) (now : Bool) (e : ReadyEntry) : Rule where
  row := fun t => .instanceDispatch t l
  guard := fun u => u.audio.ready.find? (fun e => decide (e.list = l)) = some e ∧ u.freeSlot l = some (core, now)
  effect := fun u =>
    let v := u.poolTake e
    let w := { v with audio := { v.audio with slots := v.audio.slots ++ [(⟨e, core, now, u.now, u.now⟩ : Dispatched)] } }
    w.setFld rSchInflight 23 16 (max (u.regFld rSchInflight 23 16) w.inFlight)

/-- Captures take the state of an instance's operations when it leaves the open ones of its quantum (R399, R456). -/
def captured (k : Int) (i : Inst) (u done : State) : State :=
  if u.instOpen k i && !done.instOpen k i then done.captureOps k (u.instOps k i) else done

/-- INSTANCE_COMPLETE of an operation that waits for no tier output: its slot frees, its outputs are given, and what waited for it becomes
ready (R186, R235). -/
abbrev operationCompletes (k : Int) (x : Nat) (d : Dispatched) (r : QRun) : Rule where
  row := fun t => .instanceComplete t k (.op x)
  guard := fun u => u.dispatched k (.op x) = some d ∧ d.executing = true ∧ u.runNumbered k = some r ∧ u.waitsForTier r x = false
  effect := fun u => captured k (.op x) u (((u.freeUp d).runOp r x).closeInst r.ord (.op x))

/-- INSTANCE_COMPLETE of a sequenced pass (R235, Table 08-1). -/
abbrev passCompletes (k : Int) (x : Nat) (d : Dispatched) (r : QRun) : Rule where
  row := fun t => .instanceComplete t k (.pass x)
  guard := fun u => u.dispatched k (.pass x) = some d ∧ d.executing = true ∧ u.runNumbered k = some r
  effect := fun u => captured k (.pass x) u (((u.freeUp d).runPass r x).closeInst r.ord (.pass x))

/-- INSTANCE_COMPLETE of a tier job of the convolution engine: its block is done, and its delay-list entry goes on (R163, R243). -/
abbrev tierCompletes (k : Int) (op tier : Nat) (b : Int) (d : Dispatched) : Rule where
  row := fun t => .instanceComplete t k (.tier op tier b)
  guard := fun u => u.dispatched k (.tier op tier b) = some d ∧ d.executing = true ∧ tier < reedTier ∧ u.tierReady op tier b = true
  effect := fun u => captured k (.tier op tier b) u (((u.freeUp d).tierDone op tier b).jobEnded op tier b)

/-- SCHEDULER_TICK: at a new microsecond the entries whose release has come are released, earliest deadline first (R243). -/
abbrev tickReleases : Rule where
  row := fun t => .schedulerTick t
  guard := fun u => u.processing = true ∧ u.audio.tick < Int.fdiv u.ns 1000
  effect := fun u =>
    (sortBy (fun (a b : DelayEntry) => decide (a.due < b.due) || (decide (a.due = b.due) && decide (a.op ≤ b.op))) u.audio.delays).foldl
      State.releaseJob { u with audio := { u.audio with tick := Int.fdiv u.ns 1000 } }

/-- What WAIT_TIMEOUT does at once: the slot frees, the operation and SCH_WAITTOCNT are counted, SCH_EVT.WAITTO sets, and it is logged. -/
def waitStops (k : Int) (d : Dispatched) (u : State) : State :=
  ((((u.freeUp d).count 0x0D d.entry.opId).bump rSchWaittocnt).setEvt rSchEvt 2).logAt evWaitTimeout (k * u.q) [d.entry.opId, engineCode d.entry.list]

/-- The wait limit of a dispatched instance has passed (R245): now − since, in ticks of 2.5 ns, is at least the limit in ns. -/
abbrev waitOver (k : Int) (i : Inst) (d : Dispatched) (u : State) : Prop :=
  u.dispatched k i = some d ∧ d.entry.list ≤ 7 ∧ 2 * u.waitLimit (u.runNumbered k) i ≤ (u.now - d.since) * 5

/-- WAIT_TIMEOUT of an operation: stopped, its outputs zeros, its quantum's signature excused (R245, R396). -/
abbrev operationStopped (k : Int) (x : Nat) (d : Dispatched) (r : QRun) : Rule where
  row := fun t => .waitTimeout t k (.op x)
  guard := fun u => waitOver k (.op x) d u ∧ u.runNumbered k = some r ∧ u.instOpen k (.op x) = true ∧
    (((waitStops k d u).skipInst r (.op x)).closeInst r.ord (.op x)).instOpen k (.op x) = false
  effect := fun u =>
    ((((waitStops k d u).skipInst r (.op x)).closeInst r.ord (.op x)).updTwin fun t =>
      { t with excused := if t.enabled then (k * u.q) :: t.excused else t.excused }).captureOps k (u.instOps k (.op x))

/-- WAIT_TIMEOUT of a tier job: stopped, and its delay-list entry goes on (R243, R245). -/
abbrev tierStopped (k : Int) (op tier : Nat) (b : Int) (d : Dispatched) : Rule where
  row := fun t => .waitTimeout t k (.tier op tier b)
  guard := fun u => waitOver k (.tier op tier b) d u ∧ u.instOpen k (.tier op tier b) = false
  effect := fun u => (waitStops k d u).jobEnded op tier b

/-- WAIT_TIMEOUT before the limit: nothing happens (R245). -/
abbrev waitGoesOn (k : Int) (i : Inst) (d : Dispatched) : Rule where
  row := fun t => .waitTimeout t k i
  guard := fun u => u.dispatched k i = some d ∧ (u.now - d.since) * 5 < 2 * u.waitLimit (u.runNumbered k) i
  effect := fun u => u

/-- SINK_DEADLINE of a quantum: its sinks are judged, what the quantum before left is retired, and streams send (R246 to R248, R298); a
device with twin enabled signs the quantum (R396). -/
abbrev deadlinePasses (k : Int) (r : QRun) : Rule where
  row := fun t => .sinkDeadline t k
  guard := fun u => u.deadlineDue k = some r ∧ u.runBefore r = none
  effect := fun u =>
    let v := ((u.deadline r).claimRamp r).streamSend (r.first u.q + r.shift)
    if u.twin.enabled then v.signQuantum r (u.excusing r) else v

/-- SINK_DEADLINE with a quantum before it still in flight: captures take the operations that are retired (R246, R399, R456). -/
abbrev deadlineRetires (k : Int) (r b : QRun) : Rule where
  row := fun t => .sinkDeadline t k
  guard := fun u => u.deadlineDue k = some r ∧ u.runBefore r = some b
  effect := fun u =>
    let v := ((u.deadline r).claimRamp r).streamSend (r.first u.q + r.shift)
    (if u.twin.enabled then v.signQuantum r (u.excusing r) else v).captureOps b.k (b.open_.flatMap (b.opsOf u.q))

/-- FILTER_SWAP_COPY_DONE with the convolution area ON: the staging slot of the oldest copy is free again, and the copy is over (R177,
R492). -/
abbrev copyDone (i : Nat) (h : Word) (rest : List Word) (x : Nat × Slot) : Rule where
  row := fun t => .filterSwapCopyDone t i
  guard := fun u => (u.cfg.convOf i).copying = h :: rest ∧ u.slotOf h = some x ∧ u.poldersOn u.convArea = true
  effect := fun u =>
    let v := u.freeSlotConv x.1
    { v with cfg := { v.cfg with conv := AMap.put v.cfg.conv i { u.cfg.convOf i with copying := rest } } }

end Sys2Proof.Safety
end

