-- ==== Sys2Proof/Safety/Memory.lean ====
section
/-! DEFINITION. The bus, polders, the DRAM and snapshots, row by row: the terms of the statements about them (R456, R457, R491 to R510). -/
namespace Sys2Proof.Safety
open Sys2Proof.Machine

/-- POLDER_READY: a polder in FILL or RETAIN is on (R492). -/
abbrev polderOn (p : Nat) : Rule where
  row := fun t => .polderReady t p
  guard := fun _ => True
  effect := fun u => u.eachPolder fun n x => if decide (n = p) && (decide (x = .fill) || decide (x = .retain)) then .on else x

/-- POLDER_SCRUB of an intact word: nothing (R494). -/
abbrev scrubClean (off : Nat) (m : Option Nat) : Rule where
  row := fun t => .polderScrub t off none m
  guard := fun _ => True
  effect := fun u => u

/-- POLDER_SCRUB of one wrong bit: corrected, counted, flagged and logged with its address (R494). -/
abbrev scrubCorrects (off : Nat) (m : Option Nat) : Rule where
  row := fun t => .polderScrub t off (some false) m
  guard := fun _ => True
  effect := fun u => (((u.bump rBmxEcccor).setReg rBmxEccaddr (w32 (off % 2 ^ 27))).setEvt rBmxEvt 1).logNow evEccCorrected [off]

/-- An uncorrectable error in the registers and the log (R494). -/
def eccSeen (off : Nat) (u : State) : State :=
  (((u.bump rBmxEccunc).setReg rBmxEccaddr (w32 (off % 2 ^ 27 + 2 ^ 31))).setEvt rBmxEvt 2).logNow evEccUncorrected [off]

/-- POLDER_SCRUB of an uncorrectable word that a master other than M15 asked for: a RUNNING device halts with reason 3 (R445, R494). -/
abbrev scrubHalts (off m : Nat) : Rule where
  row := fun t => .polderScrub t off (some true) (some m)
  guard := fun _ => m ≠ 15
  effect := fun u => (eccSeen off u).halted 3

/-- POLDER_SCRUB of an uncorrectable word by the scrub itself: no halt (R494; the model's choice, log entry 36). -/
abbrev scrubFinds (off : Nat) : Rule where
  row := fun t => .polderScrub t off (some true) none
  guard := fun _ => True
  effect := eccSeen off

/-- POLDER_SCRUB of an uncorrectable word that M15 reads: it reads 0xFFFF_FFFF, and the device goes on (R494). -/
abbrev scrubReadsOnes (off : Nat) : Rule where
  row := fun t => .polderScrub t off (some true) (some 15)
  guard := fun _ => True
  effect := fun u => { eccSeen off u with read := 0xFFFFFFFF }

/-- BUS_TRANSACTION_TIMEOUT: the transaction is retired; count, master and ID, address, BMX_EVT and the log tell, and a response may
still come from a mapped address (R499). -/
abbrev busHangs (m id addr : Nat) : Rule where
  row := fun t => .busTransactionTimeout t m id addr
  guard := fun u => bitOf (u.reg rBmxIso) m = false
  effect := fun u =>
    let v := (((u.bump rBmxHangcnt).setReg rBmxHangmst (w32 (m % 16 + id % 64 * 2 ^ 8))).setReg rBmxHangadlo (w32 addr)).setReg rBmxHangadhi (w32 (addr / 2 ^ 32 % 2 ^ 16))
    (({ v with mem := { v.mem with retired := v.mem.retired ++ if (u.busTarget addr).isSome then [(m, id)] else [] } } : State).setEvt rBmxEvt 0).logNow evBusHang [m, addr]

/-- BUS_LATE_RESPONSE to a retired transaction: discarded, counted and flagged (R500). -/
abbrev busLate (m id : Nat) : Rule where
  row := fun t => .busLateResponse t m id
  guard := fun u => u.mem.retired.contains (m, id) = true
  effect := fun u => (({ u with mem := { u.mem with retired := u.mem.retired.erase (m, id) } } : State).bump rBmxLatersp).setEvt rBmxEvt 4

/-- DRAM_REFRESH of an active channel: neighbour rows are counted (R507, R508). -/
abbrev dramRefreshes (c n : Nat) : Rule where
  row := fun t => .dramRefresh t c n
  guard := fun u => u.dramOn = true ∧ u.dramChan c = .active ∧ n ≠ 0
  effect := fun u => u.bump rDrmNrcnt n

/-- DRAM_MR4_POLL with new rate codes: DRM_TEMP shows them, and a change is flagged (R507). -/
abbrev dramPolled (rates : List Nat) : Rule where
  row := fun t => .dramMr4Poll t rates false
  guard := fun u => u.dramOn = true ∧ ((List.range 4).map fun c => rates.getD c 0 % 32) ≠ u.dram.rates
  effect := fun u =>
    let new := (List.range 4).map fun c => rates.getD c 0 % 32
    let v := (u.setEvt rDrmEvt 1).setReg rDrmTemp (rateWord new)
    { v with dram := { v.dram with rates := new } }

/-- DRAM_MR4_POLL with a die over temperature or without an answer: flagged, and a RUNNING device halts with reason 4 (R445, R507). -/
abbrev dramFails (rates : List Nat) : Rule where
  row := fun t => .dramMr4Poll t rates true
  guard := fun u => u.dramOn = true
  effect := fun u => (u.setEvt rDrmEvt 2).halted 4

/-- A channel may enter self-refresh (R509). -/
abbrev mayRest (c : Nat) (u : State) : Prop := u.dramOn = true ∧ bitOf (u.reg rDrmCtl) 0 = true ∧ (u.run = .ready ∨ u.run = .halted) ∧ c < 4 ∧
  u.dramChan c = .active ∧ u.dram.change = none

/-- DRAM_SELF_REFRESH_ENTRY: entered and counted (R509). -/
abbrev dramRests (c : Nat) : Rule where
  row := fun t => .dramSelfRefreshEntry t c false
  guard := mayRest c
  effect := fun u => (u.bump rDrmSrcnt).putDramChan c (.entered u.now)

/-- DRAM_SELF_REFRESH_ENTRY with a request before it: abandoned and counted (R509). -/
abbrev dramStaysUp (c : Nat) : Rule where
  row := fun t => .dramSelfRefreshEntry t c true
  guard := mayRest c
  effect := fun u => u.bump rDrmSrabort

/-- DRAM_SELF_REFRESH_EXIT after 15 ns: active again, the waiting request counted (R509). -/
abbrev dramWakes (c since : Nat) : Rule where
  row := fun t => .dramSelfRefreshExit t c
  guard := fun u => u.dramChan c = .entered since ∧ since + 6 ≤ u.now
  effect := fun u => (u.bump rDrmSrwait).putDramChan c .active

/-- DRAM_OPPOINT_SWITCH at the first sink deadline after acceptance: requests are held (R510). -/
abbrev oppointHolds (x : OpChange) : Rule where
  row := fun t => .dramOppointSwitch t
  guard := fun u => u.dram.change = some x ∧ (u.run ≠ .running ∨ x.after ≤ u.index)
  effect := fun u => { u with dram := { u.dram with change := some { x with switching := true } } }

/-- DRAM_OPPOINT_DONE: the new operating point and its timing set are in force, flagged, and the command is answered (R510). -/
abbrev oppointDone (x : OpChange) : Rule where
  row := fun t => .dramOppointDone t
  guard := fun u => u.dram.change = some x ∧ x.switching = true
  effect := fun u =>
    let v : State := { u with dram := { u.dram with op := x.target, setB := !u.dram.setB, change := none, chans := List.replicate 4 .active } }
    let w := ((v.putDelays x.target).setEvt rDrmEvt 0).updChan x.packet.ch fun c => { c with hold := none }
    w.answer 0xB02 x.packet .ok 0 w.index

/-- STATE_SAVE_COMPLETE into a DRAM slot: the snapshot is stored, and the command is answered with its size, CRC-64 and index (R456, R457). -/
abbrev saveStored (x : Save) (b : Copied) : Rule where
  row := fun t => .stateSaveComplete t
  guard := fun u => u.mem.save = some x ∧ x.body = some b ∧ u.pastBoundary x.boundary = true ∧ bitOf (x.packet.w 4) 8 = false
  effect := fun u =>
    let kib := cdivN (64 + x.size) 1024
    let snap : Snapshot := { header := snapshotHeader u.fwVersion x b, body := b }
    let v := ({ u with mem := { u.mem with save := none, slots := AMap.put u.mem.slots (fld (x.packet.w 4) 1 0) snap } } : State).updChan
      x.packet.ch fun c => { c with hold := none }
    v.answer 0xB03 x.packet .ok 0 v.index [w32 kib, w32 x.crc, w32 (x.crc / 2 ^ 32), lo32 x.boundary, hi32 x.boundary]

end Sys2Proof.Safety
end

