-- ==== Sys2Proof/Safety/Net.lean ====
section
/-! DEFINITION. What happens at the MACs and to the media streams, row by row: the terms of the statements about them (R316 to R343). -/
namespace Sys2Proof.Safety
open Sys2Proof.Machine

/-! ### Receiving (R316 to R319, R326, R338, R340) -/

/-- A MAC of the device that is enabled. -/
abbrev macOn (m : Nat) (u : State) : Prop := (u.mac m).enabled = true ∧ m < 4

/-- The receive FIFO's fill with the frame, and what pause generation makes of it (R319). -/
def filled (m fill : Nat) (u : State) : State := (u.putMac m { u.mac m with fill := min fill 262144 }).pauseGen m

/-- The statistics of an intact frame: frames, octets, and broadcast or multicast (R326). -/
def countedFrame (m : Nat) (f : RxFrame) (u : State) : State :=
  let v := (u.macStat m 0).macStat m 1 f.octets
  if f.dest = macBroadcast then v.macStat m 13 else if macMulticast f.dest then v.macStat m 12 else v

/-- An intact frame of the MAC's VLAN with an intact header. -/
abbrev intact (m : Nat) (f : RxFrame) (fill : Nat) (u : State) : Prop :=
  macOn m u ∧ (u.mac m).notIntact f fill = [] ∧ (u.mac m).otherVlan f = false ∧ (∀ h ∈ f.ip, h.ok = true)

/-- The state in which an intact frame goes to its consumer. -/
def atConsumer (m : Nat) (f : RxFrame) (fill : Nat) (u : State) : State := countedFrame m f (filled m fill u)

/-- MAC_FRAME_RECEIVED of a frame that is not intact: only the statistics of its defects count (R316, R326). -/
abbrev frameDefective (m : Nat) (f : RxFrame) (fill i : Nat) (is : List Nat) : Rule where
  row := fun t => .macFrameReceived t m f fill
  guard := fun u => macOn m u ∧ (u.mac m).notIntact f fill = i :: is
  effect := fun u => (i :: is).foldl (fun (s : State) i => s.macStat m i) (filled m fill u)

/-- MAC_FRAME_RECEIVED of another VLAN: counted, and given to no consumer (R316). -/
abbrev frameOtherVlan (m : Nat) (f : RxFrame) (fill : Nat) : Rule where
  row := fun t => .macFrameReceived t m f fill
  guard := fun u => macOn m u ∧ (u.mac m).notIntact f fill = [] ∧ (u.mac m).otherVlan f = true
  effect := fun u => (atConsumer m f fill u).macStat m 9

/-- MAC_FRAME_RECEIVED for an auxiliary ring: it fills the ring's buffers (R317, R338, R340). -/
abbrev frameToRing (m r : Nat) (f : RxFrame) (fill : Nat) : Rule where
  row := fun t => .macFrameReceived t m f fill
  guard := fun u => intact m f fill u ∧ (atConsumer m f fill u).consumer m f = .aux r
  effect := fun u => (atConsumer m f fill u).auxReceive m r f

/-- MAC_FRAME_RECEIVED for the stream engine, the PTP port, or none: counted (R317, R326). -/
abbrev frameToConsumer (m : Nat) (f : RxFrame) (fill : Nat) (c : Consumer) (i : Nat) : Rule where
  row := fun t => .macFrameReceived t m f fill
  guard := fun u => intact m f fill u ∧ (atConsumer m f fill u).consumer m f = c ∧ (c, i) ∈ [(Consumer.stream, 14), (Consumer.ptp, 15), (Consumer.dropped, 11)]
  effect := fun u => (atConsumer m f fill u).macStat m i

/-- PAUSE_FRAME_RECEIVED with HONOR, between frames: the time given replaces the remaining time (R318). -/
abbrev pauseTaken (m n : Nat) : Rule where
  row := fun t => .pauseFrameReceived t m n
  guard := fun u => (u.mac m).enabled = true ∧ n ≠ 0 ∧
    (((u.macStat m 7).setEvt (rMacEvt + 0x400 * m) 6).mac m).honor = true ∧ (((u.macStat m 7).setEvt (rMacEvt + 0x400 * m) 6).mac m).sending = none
  effect := fun u => ((u.macStat m 7).setEvt (rMacEvt + 0x400 * m) 6).holdFor m n

/-- PAUSE_FRAME_RECEIVED without HONOR: only counted and flagged (R318). -/
abbrev pauseIgnored (m n : Nat) : Rule where
  row := fun t => .pauseFrameReceived t m n
  guard := fun u => (u.mac m).enabled = true ∧ (((u.macStat m 7).setEvt (rMacEvt + 0x400 * m) 6).mac m).honor = false
  effect := fun u => (u.macStat m 7).setEvt (rMacEvt + 0x400 * m) 6

/-- PAUSE_HOLD_EXPIRY: transmission goes on, and the time held is counted (R318). -/
abbrev holdEnds (m till : Nat) : Rule where
  row := fun t => .pauseHoldExpiry t m
  guard := fun u => (u.mac m).heldUntil = some till ∧ till ≤ u.now
  effect := fun u => u.endHold m

/-- PAUSE_REPEAT while the FIFO stays full, half of t_p after the last pause frame: another is due (R319). -/
abbrev pauseAgain (m fill : Nat) : Rule where
  row := fun t => .pauseRepeat t m fill
  guard := fun u =>
    let v := (u.putMac m { u.mac m with fill := fill }).pauseGen m
    (v.mac m).pausing = true ∧ pauseTicks (v.mac m).tp (v.mac m).speed ≤ 2 * (u.now - (v.mac m).pauseSent)
  effect := fun u =>
    let v := (u.putMac m { u.mac m with fill := fill }).pauseGen m
    v.putMac m { v.mac m with pauseDue := some (v.mac m).tp, pauseSent := u.now }

/-! ### Sending (R318, R320 to R326, R338) -/

/-- MAC m without the media packets that have waited for 1 ms (R324). -/
def fresh (m : Nat) (u : State) : State := u.dropMedia m fun f => f.expired u.now

/-- The line of a MAC is free. -/
abbrev lineFree (m : Nat) (u : State) : Prop := ((fresh m u).mac m).sending = none ∧ ((fresh m u).mac m).link = true ∧ ((fresh m u).mac m).enabled = true

/-- MAC_FRAME_TRANSMIT: the head of the highest queue that may start goes on the line, and a PTP message is stamped (R24, R320, R322, R323). -/
abbrev frameStarts (m q : Nat) (f : NetFrame) (rest : List NetFrame) : Rule where
  row := fun t => .macFrameTransmit t m
  guard := fun u => lineFree m u ∧ ((fresh m u).mac m).pauseDue = none ∧ ((fresh m u).mac m).heldUntil = none ∧
    [7, 6, 5, 4, 3, 2, 1, 0].find? ((fresh m u).mac m).mayStart = some q ∧ AMap.getD ((fresh m u).mac m).queues q [] = f :: rest
  effect := fun u =>
    ((fresh m u).putMac m { (fresh m u).mac m with queues := AMap.put ((fresh m u).mac m).queues q rest, sending := some (q, f, u.now) }).frameStarted f.body

/-- MAC_FRAME_TRANSMIT with a pause frame due: it goes before every queue (R319, R320). -/
abbrev pauseStarts (m n : Nat) : Rule where
  row := fun t => .macFrameTransmit t m
  guard := fun u => lineFree m u ∧ ((fresh m u).mac m).pauseDue = some n
  effect := fun u => (fresh m u).putMac m { (fresh m u).mac m with pauseDue := none, sending := some (8, ⟨.pause n, 64, u.now, none⟩, u.now) }

/-- The line of MAC m is free again. -/
def lineFreed (m : Nat) (u : State) : State := u.putMac m { (u.mac m).creditedAll u.now with sending := none, pendingPause := none }

/-- The statistics of a frame sent (R326). -/
def countedSent (m : Nat) (f : NetFrame) (u : State) : State :=
  let v := ((lineFreed m u).macStat m 18).macStat m 19 f.octets
  match f.body.stat with | some i => v.macStat m i | none => v

/-- MAC_FRAME_SENT of a frame of no stream and no ring: it has left, and is counted (R326). -/
abbrev frameLeaves (m q start : Nat) (f : NetFrame) : Rule where
  row := fun t => .macFrameSent t m false
  guard := fun u => (u.mac m).sending = some (q, f, start) ∧ (u.mac m).pendingPause = none ∧ f.body.stat ≠ some 21 ∧ f.body.stat ≠ some 23
  effect := fun u => let v := countedSent m f u; { v with net := { v.net with sent := v.net.sent ++ [(m, f)] } }

/-- MAC_FRAME_SENT of an auxiliary frame: its descriptors go back to the host, and its ring's next chain comes (R338, R339). -/
abbrev ringFrameLeaves (m q start r octets queued : Nat) (tag : Option (Nat × Nat)) (ds : List AuxDesc) : Rule where
  row := fun t => .macFrameSent t m false
  guard := fun u => (u.mac m).sending = some (q, ⟨.aux r ds, octets, queued, tag⟩, start) ∧ (u.mac m).pendingPause = none
  effect := fun u =>
    let v := ((countedSent m ⟨.aux r ds, octets, queued, tag⟩ u).auxReturn m r ds false start).auxNext m r
    { v with net := { v.net with sent := v.net.sent ++ [(m, ⟨.aux r ds, octets, queued, tag⟩)] } }

/-- MAC_FRAME_SENT of a media packet: its stream counts it too (R326, R466). -/
abbrev mediaFrameLeaves (m q start : Nat) (x : MediaPacket) (octets queued : Nat) (tag : Option (Nat × Nat)) : Rule where
  row := fun t => .macFrameSent t m false
  guard := fun u => (u.mac m).sending = some (q, ⟨.media x, octets, queued, tag⟩, start) ∧ (u.mac m).pendingPause = none
  effect := fun u =>
    let v := (countedSent m ⟨.media x, octets, queued, tag⟩ u).count 0x13 (x.stream * 2)
    { v with net := { v.net with sent := v.net.sent ++ [(m, ⟨.media x, octets, queued, tag⟩)] } }

/-- MAC_FRAME_SENT of a frame aborted because its data arrived late: counted so, and not sent; the descriptors of an auxiliary frame go back (Table 11-3). -/
abbrev frameAborted (m q start : Nat) (f : NetFrame) : Rule where
  row := fun t => .macFrameSent t m true
  guard := fun u => (u.mac m).sending = some (q, f, start) ∧ (u.mac m).pendingPause = none
  effect := fun u => ((lineFreed m u).macStat m 25).frameCut m start f

/-- MEDIA_PACKET_LATE_DROP: media packets of 1 ms leave their queues, counted in their stream and flagged (R324). -/
abbrev lateDropped (m : Nat) : Rule where
  row := fun t => .mediaPacketLateDrop t m
  guard := fun _ => True
  effect := fun u =>
    let x := (u.mac m).creditedAll u.now
    let keep := x.queues.map fun y =>
      if decide (y.1 = 6) || decide (y.1 = 7) then (y.1, y.2.filter fun f => !f.expired u.now) else y
    ([6, 7].flatMap fun q => (AMap.getD x.queues q []).filter fun f => f.expired u.now).foldl
      (fun (s : State) f => s.lateDrop m f.body.stream) (u.putMac m { x with queues := keep })

/-- MAC_LINK_CHANGE to up: LINK and the event bit (R325). -/
abbrev linkRises (m : Nat) (hiber : Bool) : Rule where
  row := fun t => .macLinkChange t m true hiber
  guard := fun u => ((u.mac m).creditedAll u.now).link = false
  effect := fun u =>
    (u.putMac m { (u.mac m).creditedAll u.now with link := true, pendingPause := none }).setEvt (rMacEvt + 0x400 * m) 0

/-- MAC_LINK_CHANGE to down: the frame on the line is gone, the fall is counted by its cause, and media packets are discarded (R325, Table 11-3). -/
abbrev linkFalls (m : Nat) (hiber : Bool) : Rule where
  row := fun t => .macLinkChange t m false hiber
  guard := fun u => ((u.mac m).creditedAll u.now).link = true
  effect := fun u =>
    let x := (u.mac m).creditedAll u.now
    let v := (u.putMac m { x with link := false, sending := none, pendingPause := none }).setEvt (rMacEvt + 0x400 * m) 0
    let w := match x.sending with | some y => v.frameCut m y.2.2 y.2.1 | none => v
    (w.macStat m (if hiber then 29 else 28)).dropMedia m fun f => match f.body with | .media _ => true | _ => false

/-! ### Streams (R330 to R336) -/

/-- A MAC that receives datagrams for streams, and the stream that takes this one (R325, Table 11-1). -/
abbrev packetFor (m i : Nat) (r : RtpPacket) (x : RxStream) (u : State) : Prop :=
  (u.mac m).enabled = true ∧ (u.mac m).link = true ∧ u.streamFor m r.src r.dst r.port = some (i, x)

/-- STREAM_PACKET_RECEIVED, neither bad nor repeated: its samples are written at their indices (R330, R332). -/
abbrev packetTaken (m i : Nat) (r : RtpPacket) (x : RxStream) : Rule where
  row := fun t => .streamPacketReceived t m r
  guard := fun u => packetFor m i r x u ∧ x.bad r = false ∧ r.padding = false ∧ x.seqs.contains r.seq = false
  effect := fun u => (u.endRun evNetBadpkt i).takePacket i x r

/-- STREAM_PACKET_RECEIVED again: a copy of one that the stream remembers is discarded and counted (R334). -/
abbrev packetRepeated (m i : Nat) (r : RtpPacket) (x : RxStream) : Rule where
  row := fun t => .streamPacketReceived t m r
  guard := fun u => packetFor m i r x u ∧ x.bad r = false ∧ r.padding = false ∧ x.seqs.contains r.seq = true
  effect := fun u => ((u.endRun evNetBadpkt i).bump rSteDupcnt).count 0x12 (i * 8 + 3)

/-- STREAM_PACKET_RECEIVED with a wrong version, payload type or length: discarded, counted, flagged and logged once (Table 11-5). -/
abbrev packetBad (m i : Nat) (r : RtpPacket) (x : RxStream) : Rule where
  row := fun t => .streamPacketReceived t m r
  guard := fun u => packetFor m i r x u ∧ x.bad r = true
  effect := fun u => ((((u.bump rSteBadpkt).logOnce evNetBadpkt i [i]).count 0x12 (i * 8 + 4)).setEvt rSteEvt 4)

/-- STREAM_DOWN_TIMEOUT: after 64 packet times the stream is DOWN, flagged and logged (R335). -/
abbrev streamFalls (i : Nat) (x : RxStream) : Rule where
  row := fun t => .streamDownTimeout t i
  guard := fun u => AMap.find u.net.rx i = some x ∧ x.down = false ∧ 128 * x.p * 10 ^ 9 ≤ (u.now - x.heard) * 5 * u.fs
  effect := fun u => ((u.putRx i { x with down := true }).setEvt rSteEvt 0).logNow evNetStreamDown [i]

/-- STREAM_DOWN_TIMEOUT before 64 packet times: nothing (R335). -/
abbrev streamStays (i : Nat) (x : RxStream) : Rule where
  row := fun t => .streamDownTimeout t i
  guard := fun u => AMap.find u.net.rx i = some x ∧ (u.now - x.heard) * 5 * u.fs < 128 * x.p * 10 ^ 9
  effect := fun u => u

end Sys2Proof.Safety
end

