-- ==== Sys2Proof/Safety/Registers.lean ====
section
/-! DEFINITION. Accesses of the host to registers, row by row: the terms of the statements about them (R12, R410, R467 to R484, R535). -/
namespace Sys2Proof.Safety
open Sys2Proof.Machine

/-- A register access reaches its block: PD_CTRL is on, and the block's own domain is. -/
abbrev reaches (a : Nat) (u : State) : Prop := u.powered 1 = true ∧ u.blockOff (a / 1024) = false

/-- The register at a decoded offset is one of a posted block, other than its first (R472). -/
abbrev posted (a : Nat) : Prop := blockPosted (a / 1024) = true ∧ a % 1024 ≠ 0

/-- REGISTER_WRITE of a whole word in MW0 to a register that is not posted: it takes effect by its access types (R12). -/
abbrev writeLands (off be : Nat) (v : Word) : Rule where
  row := fun t => .registerWrite t 0 off be v
  guard := fun u => be % 16 = 15 ∧ reaches (mw0Decode off) u ∧ ¬ posted (mw0Decode off)
  effect := fun u => u.writeReg (mw0Decode off) v

/-- REGISTER_WRITE to a posted register: it waits (R472). -/
abbrev writePosts (off be : Nat) (v : Word) : Rule where
  row := fun t => .registerWrite t 0 off be v
  guard := fun u => be % 16 = 15 ∧ reaches (mw0Decode off) u ∧ posted (mw0Decode off) ∧ AMap.has u.posted (mw0Decode off / 1024) = false
  effect := fun u => { u with posted := AMap.put u.posted (mw0Decode off / 1024) ⟨mw0Decode off, v, u.now⟩ }

/-- REGISTER_WRITE to a posted register while another write waits: it is lost, and WLOST sets (R472). -/
abbrev writeLost (off be : Nat) (v : Word) : Rule where
  row := fun t => .registerWrite t 0 off be v
  guard := fun u => be % 16 = 15 ∧ reaches (mw0Decode off) u ∧ posted (mw0Decode off) ∧ AMap.has u.posted (mw0Decode off / 1024) = true
  effect := fun u => u.orReg (mw0Decode off / 1024 * 1024) 2

/-- REGISTER_WRITE in MW1 is a bit alias write. -/
abbrev writeAliased (off be : Nat) (v : Word) : Rule where
  row := fun t => .registerWrite t 1 off be v
  guard := fun u => be % 16 = 15 ∧ u.powered 1 = true
  effect := bitAliasWrite off v

/-- REGISTER_WRITE of part of a word, or in MW2: discarded, counted in GLB_BADACC, and kept in GLB_LASTBAD (R468, R478). -/
abbrev writeBad (win off be : Nat) (v : Word) : Rule where
  row := fun t => .registerWrite t win off be v
  guard := fun u => u.powered 1 = true ∧ (win = 2 ∨ be % 16 ≠ 15)
  effect := fun u => u.badAccess win off

/-- REGISTER_WRITE to a block whose domain is off: discarded, and counted in GLB_OFFACC (R475). -/
abbrev writeOff (off be : Nat) (v : Word) : Rule where
  row := fun t => .registerWrite t 0 off be v
  guard := fun u => be % 16 = 15 ∧ u.powered 1 = true ∧ u.blockOff (mw0Decode off / 1024) = true
  effect := fun u => u.offAccess 0 off

/-- REGISTER_READ_CLEAR in MW0: a pending write of the block takes effect first (R473), the value is returned, and RC fields clear (R12). -/
abbrev readReturns (off : Nat) : Rule where
  row := fun t => .registerReadClear t 0 off
  guard := reaches (mw0Decode off)
  effect := fun u =>
    let a := mw0Decode off
    (if a % 1024 = 0 then u else postedWriteComplete (a / 1024) u).readReg a

/-- REGISTER_READ_CLEAR of a block whose domain is off: it returns 0, and is counted in GLB_OFFACC (R475). -/
abbrev readOff (off : Nat) : Rule where
  row := fun t => .registerReadClear t 0 off
  guard := fun u => u.powered 1 = true ∧ u.blockOff (mw0Decode off / 1024) = true
  effect := fun u => { u.offAccess 0 off with read := 0 }

/-- REGISTER_READ_CLEAR in MW1: the bit, and no field clears (R477). -/
abbrev readAliased (off : Nat) : Rule where
  row := fun t => .registerReadClear t 1 off
  guard := reaches (aliasOf off).1
  effect := fun u =>
    let a := (aliasOf off).1
    let v := if a % 1024 = 0 then u else postedWriteComplete (a / 1024) u
    { v with read := w32 (b2n (bitOf (v.regValue a) (aliasOf off).2)), free := v.free + 1 }

/-- REGISTER_READ_CLEAR in MW2: a word of engine memory or of the directory (R478). -/
abbrev readEngine (off : Nat) : Rule where
  row := fun t => .registerReadClear t 2 off
  guard := fun u => u.powered 1 = true
  effect := fun u => { u with read := u.mw2Word off, free := u.free + 1 }

/-- BIT_ALIAS_WRITE: the register's RW and RWS bits as they stand, with the aliased bit as given, are written to it (R477). -/
abbrev aliasLands (off : Nat) (v : Word) : Rule where
  row := fun t => .bitAliasWrite t off v
  guard := fun u => reaches (aliasOf off).1 u ∧ ¬ posted (aliasOf off).1
  effect := fun u => u.writeReg (aliasOf off).1 (u.aliasWord (aliasOf off).1 (aliasOf off).2 (bitOf v 0))

/-- POSTED_WRITE_COMPLETE: the value takes effect, and the block takes writes again (R472). -/
abbrev postedLands (b : Nat) (x : Posted) : Rule where
  row := fun t => .postedWriteComplete t b
  guard := fun u => AMap.find u.posted b = some x
  effect := fun u => { u with posted := AMap.del u.posted b }.writeReg x.off x.value

/-- POSTED_WRITE_TIMEOUT: 10 µs after its acceptance the write is discarded, with WLOST (R474). -/
abbrev postedDiscarded (b : Nat) (x : Posted) : Rule where
  row := fun t => .postedWriteTimeout t b
  guard := fun u => AMap.find u.posted b = some x ∧ x.since + 4000 ≤ u.now
  effect := fun u => { u with posted := AMap.del u.posted b }.orReg (b * 1024) 2

/-! ### Rows for single registers -/

/-- A write to the register at a decoded offset is taken: its block is on, and no write waits there. -/
abbrev taken (a : Nat) (u : State) : Prop := reaches a u ∧ AMap.has u.posted (a / 1024) = false

/-- TIM_SNAP: raw count, device time and media index of one cycle (R315). -/
abbrev snapTaken : Rule where
  row := fun t => .timSnap t
  guard := taken rTimCtl
  effect := fun u => { u with tu := { u.tu with snapValid := true, snapRaw := u.tu.raw, snapTime := u.time, snapIndex := u.index } }

/-- SAPG_WTPOP: the head entry of the selected witness unit leaves (Table 09-7). -/
abbrev witnessPopped (v : Word) : Rule where
  row := fun t => .sapgWtpop t v
  guard := fun u => taken rSapgWtpop u ∧ bitOf v 0 = true
  effect := fun u =>
    let n := u.regFld rSapgWtsel 1 0
    { u with sap := { u.sap with witness := u.sap.witness.set n { u.sap.witness.getD n {} with fifo := (u.sap.witness.getD n {}).fifo.drop 1 } } }

/-- IRQ_EOI: the vectors named are armed again (R480). -/
abbrev vectorsArmed (v : Word) : Rule where
  row := fun t => .irqEoi t v
  guard := taken rIrqEoi
  effect := fun u => u.setReg rIrqArmed (u.reg rIrqArmed ||| w32 (v.toNat % 2 ^ 29))

/-- IRQ_MSIX_UNMASK of one vector: its mask clears, and unless its function is masked its pending bit (R480). -/
abbrev vectorUnmasked (i : Nat) : Rule where
  row := fun t => .irqMsixUnmask t (some i)
  guard := fun u => taken rIrqMsixctl u ∧ i < 32
  effect := fun u =>
    let v := u.setReg (rIrqMsixctl + 16 * i) (u.reg (rIrqMsixctl + 16 * i) &&& ~~~(w32 1))
    if v.vectorMasked i then v else v.setReg rIrqPba0 (v.reg rIrqPba0 &&& ~~~(w32 (2 ^ i)))

/-- IRQ_MSIX_UNMASK of the function: every vector with a clear mask loses its pending bit (R480). -/
abbrev functionUnmasked : Rule where
  row := fun t => .irqMsixUnmask t none
  guard := taken rIrqMsixctl
  effect := fun u => (List.range 32).foldl (fun (s : State) n => s.unheld n) { u with msixMask := false }

/-- CMD_CTAIL_WRITE: a tail within K entries of the head is taken (R410). -/
abbrev tailTaken (n : Nat) (v : BitVec 16) : Rule where
  row := fun t => .cmdCtailWrite t n v
  guard := fun u => taken rCmdCtail u ∧ n < 8 ∧ (v - (u.chan n).chead).toNat ≤ u.ringK n
  effect := fun u => u.updChan n fun c => { c with ctail := v }

/-- CMD_CTAIL_WRITE beyond the ring: ignored, counted, logged, and a violation (R411, R433). -/
abbrev tailRefused (n : Nat) (v : BitVec 16) : Rule where
  row := fun t => .cmdCtailWrite t n v
  guard := fun u => taken rCmdCtail u ∧ n < 8 ∧ u.ringK n < (v - (u.chan n).chead).toNat
  effect := fun u => ((u.bump (rCmdRingerr + 32 * n)).logNow evCmdRingErr).violation n 9 0

/-- CMD_RCONS_WRITE: the host has consumed the reply entries before the index (R410). -/
abbrev consumed (n : Nat) (v : BitVec 16) : Rule where
  row := fun t => .cmdRconsWrite t n v
  guard := fun u => taken rCmdRcons u ∧ n < 8 ∧ ((u.chan n).rprod - v).toNat ≤ u.ringK n
  effect := fun u => u.updChan n fun c => { c with rcons := v, out := c.out.drop (c.out.length - (c.rprod - v).toNat) }

/-- CMD_RCONS_WRITE beyond the ring: ignored, counted, logged, and a violation (R411, R433). -/
abbrev consumedRefused (n : Nat) (v : BitVec 16) : Rule where
  row := fun t => .cmdRconsWrite t n v
  guard := fun u => taken rCmdRcons u ∧ n < 8 ∧ u.ringK n < ((u.chan n).rprod - v).toNat
  effect := fun u => ((u.bump (rCmdRingerr + 32 * n)).logNow evCmdRingErr).violation n 9 0

/-- CMD_CHANNEL_ENABLE while EN is 0: IEN and LOG2K are taken, the indices are 0, and EN is 1 (R484). -/
abbrev channelEnabled (n : Nat) (ien : Bool) (log2k : Nat) : Rule where
  row := fun t => .cmdChannelEnable t n ien log2k
  guard := fun u => taken rCmdCfg u ∧ n < 8 ∧ bitOf (u.reg (rCmdCfg + 32 * n)) 0 = false
  effect := fun u =>
    let a := rCmdCfg + 32 * n
    (((u.setFld a 1 1 (b2n ien)).setFld a 7 4 (log2k % 16)).updChan n fun c =>
      { c with enabled := true, chead := 0, rprod := 0, ctail := 0, rcons := 0, status := (0, 0), out := [], closing := false }).orReg a 1

/-- CMD_CHANNEL_DISABLE with nothing in execution: EN is 0, and the channel is reset (R432, R484). -/
abbrev channelDisabled (n : Nat) (ien : Bool) : Rule where
  row := fun t => .cmdChannelDisable t n ien
  guard := fun u => taken rCmdCfg u ∧ n < 8 ∧ bitOf (u.reg (rCmdCfg + 32 * n)) 0 = true ∧ (u.chan n).hold = none
  effect := fun u =>
    let a := rCmdCfg + 32 * n
    (((u.setFld a 1 1 (b2n ien)).updChan n fun c => { c with enabled := false }).clrReg a 1).resetChannel n

/-- CMD_CHANNEL_DISABLE while a command executes: the reset waits for its reply (R484). -/
abbrev channelCloses (n : Nat) (ien : Bool) : Rule where
  row := fun t => .cmdChannelDisable t n ien
  guard := fun u => taken rCmdCfg u ∧ n < 8 ∧ bitOf (u.reg (rCmdCfg + 32 * n)) 0 = true ∧ (u.chan n).hold.isSome = true
  effect := fun u =>
    let a := rCmdCfg + 32 * n
    (((u.setFld a 1 1 (b2n ien)).updChan n fun c => { c with enabled := false }).clrReg a 1).updChan n fun c => { c with closing := true }

/-- MAC_RXTAIL_WRITE: the descriptors up to the tail are the device's (R340). -/
abbrev rxDescsGiven (m r tail : Nat) (ds : List GivenDesc) : Rule where
  row := fun t => .macRxtailWrite t m r tail ds
  guard := fun u => m < 4 ∧ r < 2 ∧ taken (rMacRxtail + 0x400 * m + 4 * r) u
  effect := fun u =>
    let x := u.mac m
    let a := 0x400 * m + 4 * r
    let new := x.given (u.reg (rMacRxhead + a)).toNat (u.reg (rMacRxtail + a)).toNat tail ds
    (u.putMac m { x with rxDescs := x.rxDescs.set r (x.rxDescs.getD r [] ++ new) }).setReg (rMacRxtail + a) (w32 (tail % 4096))

/-- MAC_TXTAIL_WRITE: the descriptors are the device's, which takes the next whole chain of them into its queue (R339). -/
abbrev txDescsGiven (m r tail : Nat) (ds : List GivenDesc) : Rule where
  row := fun t => .macTxtailWrite t m r tail ds
  guard := fun u => m < 4 ∧ r < 2 ∧ taken (rMacTxtail + 0x400 * m + 4 * r) u
  effect := fun u =>
    let x := u.mac m
    let a := 0x400 * m + 4 * r
    let new := x.given (u.reg (rMacTxhead + a)).toNat (u.reg (rMacTxtail + a)).toNat tail ds
    ((u.putMac m { x with txDescs := x.txDescs.set r (x.txDescs.getD r [] ++ new) }).setReg (rMacTxtail + a) (w32 (tail % 4096))).auxNext m r

/-- RPC_PDREQ_WRITE: a refused change of a domain changes nothing but RPC_PDERR, with its event bit (R535). -/
abbrev domainsRefused (v : Word) (d : Nat) (on : Bool) : Rule where
  row := fun t => .rpcPdreqWrite t v
  guard := fun u => taken rRpcPdreq u ∧ ((u.pdChanges v).find? fun x => u.pdRefused x.1 x.2) = some (d, on)
  effect := fun u => (u.setReg rRpcPderr (w32 (0x0108 + d * 2 ^ 16))).setEvt rRpcEvt 4

/-- RPC_PDREQ_WRITE: the domains that change are busy; those to be switched off are first asked to be idle (R528, R535, R536). -/
abbrev domainsRequested (v : Word) : Rule where
  row := fun t => .rpcPdreqWrite t v
  guard := fun u => taken rRpcPdreq u ∧ ((u.pdChanges v).find? fun x => u.pdRefused x.1 x.2) = none
  effect := fun u =>
    let req := nsum ((List.range 16).map fun i => flagBit (if hostDomains.contains i then bitOf v i else bitOf (u.reg rRpcPdreq) i) i)
    let off := ((u.pdChanges v).filter fun x => !x.2).map Prod.fst
    let w := u.setReg rRpcPdreq (w32 req)
    { w with rpc := { w.rpc with
        busy := (u.pdChanges v).foldl (fun b x => b ||| 2 ^ x.1) w.rpc.busy,
        idle := w.rpc.idle ++ (if off.isEmpty then [] else [⟨none, (off.flatMap fun d => (domainBlocks d).filterMap blockPort).eraseDups, off, u.now⟩]) } }

/-- PCIE_LINK_CHANGE: the link, and the MSI-X Enable and Function Mask bits, as given (R436, R480). -/
abbrev linkChanges (up enable mask : Bool) : Rule where
  row := fun t => .pcieLinkChange t up enable mask
  guard := fun u => up = false ∨ u.powered 15 = true
  effect := fun u =>
    let v := { u with pcie := up, msixEnable := enable, msixMask := mask }
    if mask then v else (List.range 32).foldl (fun (s : State) n => s.unheld n) v

end Sys2Proof.Safety
end

