-- ==== Sys2Proof/Safety/Reset.lean ====
section
/-! DEFINITION. Resets, clocks that start, power domains and supplies, row by row: the terms of the statements about them (R501, R513 to R537,
R549). -/
namespace Sys2Proof.Safety
open Sys2Proof.Machine

/-! ### Sources (R513 to R516) -/

/-- No source of a cause is asserted. -/
abbrev idleCause (c : Nat) (u : State) : Prop := ∀ y ∈ u.rpc.sources, y.cause ≠ c

/-- RESET_SOURCE_ASSERT of POR while no COLD source is asserted: a COLD reset (R514, R516). -/
abbrev coldAsserted : Rule where
  row := fun t => .resetSourceAssert t 1
  guard := fun u => idleCause 1 u ∧ u.rpc.reach ≠ 0
  effect := fun u => (u.noteSource ⟨1, 0, 0, 0⟩).coldReset

/-- What a WARM reset for a source does: a reset record, a count, and everything but PD_AON and RWS fields back at reset (R515, R516, R534). -/
def resetWarm (x : ResetSource) (u : State) : State := (((u.noteSource x).resetRecord).countReset false).warmReset

/-- RESET_SOURCE_ASSERT of RESET_N while no source of WARM reach or wider is asserted: a WARM reset (R514, R516). -/
abbrev warmAsserted : Rule where
  row := fun t => .resetSourceAssert t 4
  guard := fun u => idleCause 4 u ∧ 1 < u.rpc.reach
  effect := resetWarm ⟨4, 1, 0, 0⟩

/-- RESET_SOURCE_ASSERT of a WARM source during a wider or equal reset: it is noted, and the reset goes on (R514, R515). -/
abbrev warmJoins : Rule where
  row := fun t => .resetSourceAssert t 4
  guard := fun u => idleCause 4 u ∧ u.rpc.reach ≤ 1
  effect := fun u => u.noteSource ⟨4, 1, 0, 0⟩

/-- RESET_SOURCE_ASSERT of VDD_CORE at its reset level, during a warning: a brownout record with bucket 7 comes first (R516, R532). -/
abbrev supplyResets (b : Brownout) : Rule where
  row := fun t => .resetSourceAssert t 3
  guard := fun u => idleCause 3 u ∧ (u.rpc.warn.find? fun b => decide (b.rail = 0)) = some b ∧ (u.brownoutEnds 0).rpc.sources.contains ⟨3, 1, 0, 0⟩ = false ∧
    1 < (u.brownoutEnds 0).rpc.reach
  effect := fun u =>
    resetWarm ⟨3, 1, 0, 0⟩ ((u.updRpc fun r => { r with warn := r.warn.filter fun y => !decide (y.rail = 0) }).brownoutRecord 0 7 (cdivN (u.now - b.since) 400) b.ns)

/-- RESET_SOURCE_RELEASE of the last source of WARM reach or wider: the release sequence starts (R514, R523). -/
abbrev releaseStarts (c : Nat) (x : ResetSource) : Rule where
  row := fun t => .resetSourceRelease t c
  guard := fun u => (u.rpc.sources.find? fun x => decide (x.cause = c)) = some x ∧ c ≠ 9 ∧ x.reach ≤ 1 ∧ u.rpc.reach ≤ 1 ∧
    (u.updRpc fun r => { r with sources := r.sources.erase x }).releasing = true
  effect := fun u => ({ u with rpc := { u.rpc with sources := u.rpc.sources.erase x, stepAt := u.now } } : State).release

/-- RESET_SOURCE_RELEASE while another source of WARM reach or wider is asserted: the reset goes on (R514). -/
abbrev stillReset (c : Nat) (x : ResetSource) : Rule where
  row := fun t => .resetSourceRelease t c
  guard := fun u => (u.rpc.sources.find? fun x => decide (x.cause = c)) = some x ∧ c ≠ 9 ∧ x.reach ≤ 1 ∧
    (u.updRpc fun r => { r with sources := r.sources.erase x }).releasing = false
  effect := fun u => { u with rpc := { u.rpc with sources := u.rpc.sources.erase x } }

/-- POWER_ON_TIMER: POR releases, and the release sequence starts (R513, R523). -/
abbrev powerOnEnds (x : ResetSource) : Rule where
  row := fun t => .powerOnTimer t
  guard := fun u => (u.rpc.sources.find? fun x => decide (x.cause = 1)) = some x ∧ x.reach ≤ 1 ∧ u.rpc.reach ≤ 1 ∧
    (u.updRpc fun r => { r with sources := r.sources.erase x }).releasing = true
  effect := fun u => ({ u with rpc := { u.rpc with sources := u.rpc.sources.erase x, stepAt := u.now } } : State).release

/-- FIRMWARE_WATCHDOG: a WARM reset, and its source is gone at once (R519). -/
abbrev watchdogResets : Rule where
  row := fun t => .firmwareWatchdog t
  guard := fun u => u.powered 1 = true ∧ u.rpc.sources.contains ⟨6, 1, 0, 0⟩ = false ∧ 1 < u.rpc.reach
  effect := fun u => (resetWarm ⟨6, 1, 0, 0⟩ u).dropSource ⟨6, 1, 0, 0⟩

/-- RESET_SCOPE_APPLY of a WARM reset, 100 µs after the reply (R448). -/
abbrev scopeWarm (x : PendingReset) : Rule where
  row := fun t => .resetScopeApply t
  guard := fun u => u.pendReset = some x ∧ x.replied + ticksOfUs 100 ≤ u.now ∧ x.reach = 1 ∧ u.rpc.sources.contains ⟨7, 1, 0, 0⟩ = false ∧ 1 < u.rpc.reach
  effect := fun u => resetWarm ⟨7, 1, 0, 0⟩ { u with pendReset := none }

/-- RESET_SCOPE_APPLY of a DOMAIN reset: the domain's ports are asked for idle first (R448, R528). -/
abbrev scopeDomain (x : PendingReset) : Rule where
  row := fun t => .resetScopeApply t
  guard := fun u => u.pendReset = some x ∧ x.replied + ticksOfUs 100 ≤ u.now ∧ x.reach = 2 ∧ u.rpc.sources.contains ⟨7, 2, x.domain, 0⟩ = false ∧
    u.run ≠ .loading ∧ u.run ≠ .boot
  effect := fun u =>
    let y : ResetSource := ⟨7, 2, x.domain, 0⟩
    (({ u with pendReset := none } : State).noteSource y).updRpc fun r => { r with idle := r.idle ++ [⟨some y, y.ports, domainClosure x.domain, u.now⟩] }

/-- BLOCK_IDLE_REPORTED for a reset: its scope is held (R528, R529). -/
abbrev idleResets (i : Nat) (x : IdleRequest) (y : ResetSource) : Rule where
  row := fun t => .blockIdleReported t i
  guard := fun u => u.rpc.idle[i]? = some x ∧ x.source = some y ∧ u.rpc.sources.contains y = true
  effect := fun u => ({ u with rpc := { u.rpc with idle := u.rpc.idle.erase x } } : State).holdScope y

/-- BLOCK_IDLE_REPORTED for a reset whose source has released meanwhile: its scope is held, and leaves reset again (R514, R528). -/
abbrev idleResetsShortly (i : Nat) (x : IdleRequest) (y : ResetSource) : Rule where
  row := fun t => .blockIdleReported t i
  guard := fun u => u.rpc.idle[i]? = some x ∧ x.source = some y ∧ u.rpc.sources.contains y = false
  effect := fun u => (({ u with rpc := { u.rpc with idle := u.rpc.idle.erase x } } : State).holdScope y).freeScope y

/-- BLOCK_IDLE_REPORTED for domains to be switched off: the request is done (R528, R535). -/
abbrev idleReported (i : Nat) (x : IdleRequest) : Rule where
  row := fun t => .blockIdleReported t i
  guard := fun u => u.rpc.idle[i]? = some x ∧ x.source = none
  effect := fun u => { u with rpc := { u.rpc with idle := u.rpc.idle.erase x } }

/-- IDLE_TIMEOUT after IDLETO: the ports are isolated, BUS_HANG is logged for each, and the reset goes on (R501, R528). -/
abbrev idleExpires (i : Nat) (x : IdleRequest) : Rule where
  row := fun t => .idleTimeout t i
  guard := fun u => u.rpc.idle[i]? = some x ∧ x.since + u.idleLimit ≤ u.now
  effect := fun u =>
    (x.ports.foldl (fun (s : State) (p : Nat) => (((s.orReg rBmxIso (2 ^ p)).setEvt rBmxEvt 3).logNow evBusHang [(p : Int)])) u).idleDone x

/-! ### Domains (R26, R535) -/

/-- A domain is being switched, and no idle request names it. -/
abbrev switching (d : Nat) (u : State) : Prop := u.rpc.busy.testBit d = true ∧ d < 16 ∧ (u.rpc.idle.any fun x => x.domains.contains d) = false

/-- PDDONE sets when no domain is being switched any more. -/
def switched (d : Nat) (u : State) : State :=
  let v := u.updRpc fun r => { r with busy := r.busy &&& (65535 - 2 ^ d), waits := r.waits.filter fun x => !decide (x = d) }
  if v.rpc.busy = 0 then v.setEvt rRpcEvt 3 else v

/-- DOMAIN_POWER_DONE to on: the domain is on, its ports joined again (R535). -/
abbrev domainOn (d : Nat) : Rule where
  row := fun t => .domainPowerDone t d
  guard := fun u => switching d u ∧ bitOf (u.reg rRpcPdreq) d = true ∧ u.domainClocked d = true ∧ u.domainHeld d = false
  effect := fun u => switched d ((u.domainUp d).clearIso ((domainBlocks d).filterMap blockPort))

/-- DOMAIN_POWER_DONE to off: the domain's contents are lost (R535). -/
abbrev domainOff (d : Nat) : Rule where
  row := fun t => .domainPowerDone t d
  guard := fun u => switching d u ∧ bitOf (u.reg rRpcPdreq) d = false
  effect := fun u => switched d (u.closureDown d)

/-! ### The release sequence (R520, R521, R523, Table 18-4) -/

/-- CLOCK_GOOD_ASSERT during LOADING: the clock is good, and the release goes on as far as it can (R520, R523). -/
abbrev clockReleases (c : Nat) : Rule where
  row := fun t => .clockGoodAssert t c
  guard := fun u => u.clockGood c = false ∧ c < 29 ∧ (c ≠ 5 ∨ u.tu.raw = 0) ∧ bitOf (u.reg rRpcHeld) c = false ∧ u.run = .loading
  effect := fun u => (u.putClock c true).release

/-- CLOCK_GOOD_ASSERT with nothing waiting on the clock: it is good (R520). -/
abbrev clockBack (c : Nat) : Rule where
  row := fun t => .clockGoodAssert t c
  guard := fun u => u.clockGood c = false ∧ c < 29 ∧ (c ≠ 5 ∨ u.tu.raw = 0) ∧ bitOf (u.reg rRpcHeld) c = false ∧ u.run ≠ .loading ∧ u.run ≠ .boot ∧
    (∀ x ∈ u.rpc.sources, x.cause ≠ 9) ∧ u.rpc.waits = []
  effect := fun u => u.putClock c true

/-- CLOCK_GOOD_TIMEOUT: the clock is held and flagged, RPC_LASTCAUSE takes cause 0x0A with the clock's block, and a reset record follows
(R521, R534); logged once PD_CTRL is on. -/
abbrev clockMissed (c : Nat) : Rule where
  row := fun t => .clockGoodTimeout t c
  guard := fun u => u.clockGood c = false ∧ c < 29 ∧ u.run = .loading ∧ u.releasing = true ∧ bitOf (u.reg rRpcHeld) c = false ∧
    u.rpc.stepAt + ticksOfMs 2 ≤ u.now
  effect := fun u =>
    let v := ((((u.orReg rRpcHeld (2 ^ c)).setEvt rRpcEvt 2).setFld rRpcLastcause 7 0 0x0A).setFld rRpcLastcause 23 16 (clockBlockCode c)).resetRecord
    if v.powered 1 then v.logNow evClockNotGood else v

/-- READY_ENTRY from BOOT: the clocks that are not held are good, the domains that may come up are on, the SPI channel is enabled, no domain
waits any more, and the device is READY (R520, Table 18-4). -/
abbrev becomesReady : Rule where
  row := fun t => .readyEntry t
  guard := fun u => u.run = .boot ∧ u.releasing = true
  effect := fun u => u.clocksGood.fusesRead.keepCheck.domainsReleased.becomeReady

/-- CLOCK_GOOD_ASSERT of a clock in RPC_HELD: the clock is good, and its blocks stay in reset (R521). -/
abbrev clockLate (c : Nat) : Rule where
  row := fun t => .clockGoodAssert t c
  guard := fun u => u.clockGood c = false ∧ c < 29 ∧ (c ≠ 5 ∨ u.tu.raw = 0) ∧ bitOf (u.reg rRpcHeld) c = true
  effect := fun u => u.putClock c true

/-! ### Supplies and temperature (R530 to R532, R549) -/

/-- SUPPLY_WARNING: the warning begins, WARN and BKP31 set, the lowest level is kept, and a holder with BROWNHAND hands over (R385, R531). -/
abbrev supplyWarns (rail mv : Nat) : Rule where
  row := fun t => .supplyWarning t rail mv
  guard := fun u => u.rpc.warned rail = false ∧ rail < 2
  effect := fun u =>
    ((((u.updRpc fun r => { r with warn := r.warn ++ [⟨rail, u.now, u.ns⟩] }).setEvt rRpcEvt 0).orReg rRpcBkp31 1).railMin rail mv).brownoutHandover

/-- SUPPLY_RECOVERY: the brownout is logged, kept in RPC_BRLAST and in keep SRAM, counted and flagged (R532, R534). -/
abbrev supplyRecovers (rail low : Nat) (b : Brownout) : Rule where
  row := fun t => .supplyRecovery t rail low
  guard := fun u => (u.rpc.warn.find? fun b => decide (b.rail = rail)) = some b
  effect := fun u =>
    let dur := cdivN (u.now - b.since) 400
    let v := (u.updRpc fun r => { r with warn := r.warn.filter fun y => !decide (y.rail = rail) }).railMin rail low
    let w := (v.logNow evBrownoutWarn [rail, bucketOf low, dur]).setReg rRpcBrlast (w32 (rail + bucketOf low * 2 ^ 4 + min (2 ^ 24 - 1) dur * 2 ^ 8))
    ((w.brownoutRecord rail (bucketOf low) dur b.ns).bump rRpcBrcnt).setEvt rRpcEvt 1

/-- THERM_ALERT_CHANGE at 5 °C below the highest junction temperature: THERM_ALERT_N is driven (R549). -/
abbrev thermRises (temp : Int) : Rule where
  row := fun t => .thermAlertChange t temp
  guard := fun _ => (tjMax - 5) * 256 ≤ temp
  effect := fun u => { u with rpc := { u.rpc with therm := true } }

/-- THERM_ALERT_CHANGE below 10 °C under the highest junction temperature: THERM_ALERT_N is released (R549). -/
abbrev thermFalls (temp : Int) : Rule where
  row := fun t => .thermAlertChange t temp
  guard := fun _ => temp < (tjMax - 10) * 256
  effect := fun u => { u with rpc := { u.rpc with therm := false } }

end Sys2Proof.Safety
end

