-- ==== Sys2Proof/Safety/Sap.lean ====
section
/-! DEFINITION. What happens at the serial audio ports and taps, row by row: the terms of the statements about them (R260 to R287). -/
namespace Sys2Proof.Safety
open Sys2Proof.Machine

/-! ### Start and stop (R265 to R271) -/

/-- SAP_CLOCK_START: at frame n_c an armed group is in QUIET (R266). -/
abbrev groupQuiet (g n : Nat) (y : SapSet) : Rule where
  row := fun t => .sapClockStart t g
  guard := fun u => (u.sapGroup g).set = some n ∧ AMap.find u.sap.sets n = some y ∧ (u.sapGroup g).state = .armed ∧ y.waiting = false ∧ y.nc ≤ u.index
  effect := fun u => u.putGroup g { u.sapGroup g with state := .quiet, fenced := u.fencedAt y.nc }

/-- SAP_DATA_ENABLE: at frame n_d the groups of the set that are in QUIET go to RUN, and START_OUT rises if the set asked for it (R266,
R268). -/
abbrev setRuns (n : Nat) (y : SapSet) : Rule where
  row := fun t => .sapDataEnable t n
  guard := fun u => AMap.find u.sap.sets n = some y ∧ y.waiting = false ∧ y.enabled = false ∧ y.nd ≤ u.index ∧
    ∀ g ∈ u.setGroups n, (u.sapGroup g).state ≠ .armed
  effect := fun u =>
    let v := (u.setGroups n).foldl (fun (s : State) g => if (s.sapGroup g).state = .quiet then s.putGroup g { s.sapGroup g with state := .run } else s) u
    { v with sap := { v.sap with sets := AMap.put v.sap.sets n { y with enabled := true }, startOut := if y.startOut then some y.nd else v.sap.startOut } }

/-- START_IN_EDGE: every set that waits starts its clocks at the next index; a holder relays it (R267, R392). -/
abbrev startInStarts : Rule where
  row := fun t => .startInEdge t
  guard := fun u => u.twin.enabled = false ∨ u.twin.state = .active
  effect := fun u =>
    let v := u.relayStart
    { v with sap := { v.sap with sets := AMap.mapVal v.sap.sets fun x => if x.waiting then x.place v (u.index + 1) else x } }

/-- START_IN_EDGE at a partner: its own ball is ignored (R392). -/
abbrev startInIgnored : Rule where
  row := fun t => .startInEdge t
  guard := fun u => u.twin.enabled = true ∧ u.twin.state ≠ .active
  effect := fun u => u

/-- SAP_CLOSE_DONE: QS frames after n_s the group is OFF, out of its set, its balls idle (R269). -/
abbrev groupOff (g : Nat) : Rule where
  row := fun t => .sapCloseDone t g
  guard := fun u => (u.sapGroup g).state = .closing ∧ (u.sapGroup g).closeAt + (u.sapGroup g).quiet ≤ u.index
  effect := fun u => u.sapOff g

/-! ### Frames (R260 to R264, R270 to R280) -/

/-- The state in which a frame has its label, and the witness units have recorded it (R263, R273). -/
def labelled (g : Nat) (f : SapFrame) (u : State) : State :=
  let v := u.labelFrame g f
  v.witnessFrame g ((v.sapGroup g).label.getD 0) f

/-- The index that a frame is labelled with (R263). -/
def labelOf (g : Nat) (f : SapFrame) (u : State) : Int := ((u.labelFrame g f).sapGroup g).label.getD 0

/-- A frame of a group that is not OFF. -/
abbrev frameEnds (g : Nat) (u : State) : Prop := g < 12 ∧ (u.sapGroup g).state ≠ .off

/-- The state after a frame's label, its glitches and its framing have been dealt with (R275, R278). -/
def checked (g : Nat) (f : SapFrame) (u : State) : State :=
  let v := (((labelled g f u).sapGlitch g f.glitches (labelOf g f u)).framing g f (labelOf g f u)).1
  (if (v.sapGroup g).glitched then v else v.endRun evSapGlitch g).frameOn g false

/-- The frame has a framing error (R278). -/
def misframed (g : Nat) (f : SapFrame) (u : State) : Bool :=
  (((labelled g f u).sapGlitch g f.glitches (labelOf g f u)).framing g f (labelOf g f u)).2

/-- The group as the frame's checks leave it. -/
def groupThen (g : Nat) (f : SapFrame) (u : State) : SapGroup :=
  ((((labelled g f u).sapGlitch g f.glitches (labelOf g f u)).framing g f (labelOf g f u)).1).sapGroup g

/-- The state in which the frame stands, by its label (R271). -/
def stateThen (g : Nat) (f : SapFrame) (u : State) : SapState := (checked g f u).frameState g (labelOf g f u)

/-- SAP_RECEIVE_FRAME in RUN: each receive port takes its words at the frame's label, or overruns (R260, R263, R280). -/
abbrev frameTaken (g : Nat) (f : SapFrame) (bits : List (List Bool)) (full : Nat) : Rule where
  row := fun t => .sapReceiveFrame t g f bits full
  guard := fun u => frameEnds g u ∧ stateThen g f u = .run ∧ (groupThen g f u).glitched = false ∧ (groupThen g f u).repeated = false ∧
    misframed g f u = false
  effect := fun u =>
    (List.range 4).foldl (fun (s : State) i => s.takePort g i (labelOf g f u) (bits.getD i []) (full.testBit i)) (checked g f u)

/-- SAP_RECEIVE_FRAME with a framing error in RUN: its channels carry zeros (R278). -/
abbrev frameMisframed (g : Nat) (f : SapFrame) (bits : List (List Bool)) (full : Nat) : Rule where
  row := fun t => .sapReceiveFrame t g f bits full
  guard := fun u => frameEnds g u ∧ stateThen g f u = .run ∧ (groupThen g f u).glitched = false ∧ (groupThen g f u).repeated = false ∧
    misframed g f u = true
  effect := fun u => (checked g f u).zeroGroup g (labelOf g f u)

/-- SAP_RECEIVE_FRAME with a glitch in RUN or QUIET: its channels are substituted (R276). -/
abbrev frameGlitched (g : Nat) (f : SapFrame) (bits : List (List Bool)) (full : Nat) : Rule where
  row := fun t => .sapReceiveFrame t g f bits full
  guard := fun u => frameEnds g u ∧ (stateThen g f u = .run ∨ stateThen g f u = .quiet) ∧ (groupThen g f u).glitched = true ∧
    (groupThen g f u).repeated = false
  effect := fun u => (checked g f u).substGroup g (labelOf g f u)

/-- SAP_RECEIVE_FRAME in QUIET or CLOSING: its channels carry zeros (R266, R269). -/
abbrev frameQuiet (g : Nat) (f : SapFrame) (bits : List (List Bool)) (full : Nat) : Rule where
  row := fun t => .sapReceiveFrame t g f bits full
  guard := fun u => frameEnds g u ∧ (stateThen g f u = .quiet ∧ (groupThen g f u).glitched = false ∨ stateThen g f u = .closing) ∧
    (groupThen g f u).repeated = false
  effect := fun u => (checked g f u).zeroGroup g (labelOf g f u)

/-- SAP_RECEIVE_FRAME in REJOIN: the frame counts, or the count begins again (R277). -/
abbrev frameRejoins (g : Nat) (f : SapFrame) (bits : List (List Bool)) (full : Nat) : Rule where
  row := fun t => .sapReceiveFrame t g f bits full
  guard := fun u => frameEnds g u ∧ stateThen g f u = .rejoin ∧ (groupThen g f u).repeated = false
  effect := fun u => (checked g f u).rejoinFrame g f

/-- SAP_TRANSMIT_FRAME: each transmit port of the group sends what the frame's label calls for (R261, R272, R279). -/
abbrev frameSent (g : Nat) (f : SapFrame) (starved : Nat) : Rule where
  row := fun t => .sapTransmitFrame t g f starved
  guard := frameEnds g
  effect := fun u =>
    (List.range 4).foldl (fun (s : State) i => s.sendPort g (labelOf g f u) starved i) ((labelled g f u).sapGlitch g f.glitches (labelOf g f u))

/-! ### Clock conditions (R275 to R277) -/

/-- SAP_CLOCK_STOPPED: the group is STOPPED from the frame in progress on, counted, flagged and logged (R275, R276). -/
abbrev clockStops (g : Nat) (l : Int) : Rule where
  row := fun t => .sapClockStopped t g
  guard := fun u => (u.sapGroup g).state.watched = true ∧ (u.sapGroup g).label = some l
  effect := fun u =>
    let n := if (u.sapGroup g).inFrame then l else l + 1
    (((u.sapHold g .stopped n).bump (rSapgStopcnt + 0x400 * g)).setEvt (rSapgEvt + 0x400 * g) 0).logAt evSapStopped n []

/-- SAPG_RATE takes the deviation of a block of 256 frames, in ppm (R275). -/
def rateShown (g sum : Nat) (u : State) : State :=
  u.setFld (rSapgRate + 0x400 * g) 15 0 (BitVec.ofInt 16 (satBits 16 (rhe (u.blockDev sum * 1000000) (2048 * 10 ^ 9)))).toNat

/-- SAP_RATE_CHECK beyond 500 ppm: the group is in RATEHOLD, counted, flagged and logged (R275, R276). -/
abbrev rateHolds (g sum : Nat) (n : Int) : Rule where
  row := fun t => .sapRateCheck t g sum
  guard := fun u => (u.sapGroup g).label = some n ∧ (u.sapGroup g).state.watched = true ∧ n % 256 = 255 ∧
    500 * (2048 * 10 ^ 9) < (u.blockDev sum).natAbs * 1000000
  effect := fun u =>
    ((((rateShown g sum u).sapHold g .ratehold n).bump (rSapgRatecnt + 0x400 * g)).setEvt (rSapgEvt + 0x400 * g) 2).logAt evSapRate n []

/-- SAP_RATE_CHECK within 500 ppm: only SAPG_RATE changes (R275). -/
abbrev rateGood (g sum : Nat) (n : Int) : Rule where
  row := fun t => .sapRateCheck t g sum
  guard := fun u => (u.sapGroup g).label = some n ∧ (u.sapGroup g).state.watched = true ∧ n % 256 = 255 ∧
    (u.blockDev sum).natAbs * 1000000 ≤ 500 * (2048 * 10 ^ 9)
  effect := rateShown g sum

/-- SAP_REJOIN_START: a group without its clock, with AUTOREJ, is in REJOIN (R277). -/
abbrev rejoinStarts (g : Nat) : Rule where
  row := fun t => .sapRejoinStart t g
  guard := fun u => ((u.sapGroup g).state = .stopped ∨ (u.sapGroup g).state = .ratehold) ∧ (u.sapGroup g).autorej = true
  effect := fun u => u.putGroup g { u.sapGroup g with state := .rejoin, good := [], enableAt := none, label := none }

/-- SAP_REJOIN_DONE: at the quantum boundary fixed by the sixty-fourth good frame the group runs again (R277). -/
abbrev rejoinEnds (g : Nat) (b : Int) : Rule where
  row := fun t => .sapRejoinDone t g
  guard := fun u => (u.sapGroup g).enableAt = some b ∧ (u.sapGroup g).state = .rejoin ∧ b ≤ u.index
  effect := fun u =>
    ((u.putGroup g { u.sapGroup g with state := .run, from_ := some b, good := [], enableAt := none }).setEvt (rSapgEvt + 0x400 * g) 6).logAt evSapRejoin b []

/-! ### Taps (R283 to R287) -/

/-- TAP_BLOCK_READ of a block whose header names the quantum: its samples are the stream's (R284 to R286). -/
abbrev blockRead (t0 : Nat) (k : Int) (block : List Word) (x : TapStream) : Rule where
  row := fun t => .tapBlockRead t t0 k block
  guard := fun u => AMap.find u.sap.taps (tapStreamKey 0 t0) = some x ∧ k * u.q + u.q - 1 ≤ u.index ∧ u.pcie = true ∧
    block.getD 0 0 = lo32 (k * u.q) ∧ block.getD 1 0 = hi32 (k * u.q)
  effect := fun u =>
    ((List.range x.count).foldl (fun (s : State) j => (List.range s.q).foldl (fun (s : State) (i : Nat) =>
      s.ringPut (tapKey (t0 + j)) (k * u.q + i) (x.sample block i j)) s) u).endRun evTapMissing t0

/-- TAP_BLOCK_READ of a missing block: its samples are substituted, TAP_MISSCNT counts, MISS sets, and it is logged once (R286). -/
abbrev blockMissing (t0 : Nat) (k : Int) (block : List Word) (x : TapStream) : Rule where
  row := fun t => .tapBlockRead t t0 k block
  guard := fun u => AMap.find u.sap.taps (tapStreamKey 0 t0) = some x ∧ k * u.q + u.q - 1 ≤ u.index ∧
    (u.pcie = false ∨ block.getD 0 0 ≠ lo32 (k * u.q) ∨ block.getD 1 0 ≠ hi32 (k * u.q))
  effect := fun u =>
    let v := (List.range x.count).foldl (fun (s : State) j => (List.range s.q).foldl (fun (s : State) (i : Nat) =>
      s.ringDel (tapKey (t0 + j)) (k * u.q + i)) s) u
    (((v.count 0x11 (tapStreamKey 0 t0)).bump rTapMisscnt).setEvt rTapEvt 1).logOnceAt evTapMissing t0 (k * u.q) []

/-- TAP_BLOCK_WRITE at the quantum's sink deadline: one block goes to the host, at its place in the stream's ring (R72, R284, R286). -/
abbrev blockWritten (t0 : Nat) (k : Int) (x : TapStream) : Rule where
  row := fun t => .tapBlockWrite t t0 k
  guard := fun u => AMap.find u.sap.taps (tapStreamKey 1 t0) = some x ∧ u.deadlineIndex k ≤ u.index ∧ u.sap.tapDone.1 ≠ k ∧ u.pcie = true
  effect := fun u =>
    ({ u with sap := { u.sap with tapOut := u.sap.tapOut ++
      [{ addr := x.base + (k % (x.blocks : Int)).toNat * x.blockLen u.q, words := u.tapWords t0 x (k * u.q) }] } } : State).tapHandled t0 k true

/-- TAP_BLOCK_WRITE without a link: the block is lost, counted and flagged (R286). -/
abbrev blockLost (t0 : Nat) (k : Int) (x : TapStream) : Rule where
  row := fun t => .tapBlockWrite t t0 k
  guard := fun u => AMap.find u.sap.taps (tapStreamKey 1 t0) = some x ∧ u.deadlineIndex k ≤ u.index ∧ u.sap.tapDone.1 ≠ k ∧ u.pcie = false
  effect := fun u => ((u.bump rTapLostcnt).setEvt rTapEvt 2).tapHandled t0 k false

end Sys2Proof.Safety
end

