-- ==== Sys2Proof/Safety/Time.lean ====
section
/-! DEFINITION. What happens to device time and the clocks, row by row: the terms of the statements about them (R289 to R315, R522). -/
namespace Sys2Proof.Safety
open Sys2Proof.Machine

/-! ### PTP (R301 to R305) -/

/-- The port takes messages of this header: it is enabled, and version, domain and source are as Table 10-5 asks. -/
abbrev hears (h : PtpHeader) (u : State) : Prop := u.tu.ptp.enabled = true ∧ u.ptpForeign h = false

/-- The message comes from the parent that the port follows. -/
abbrev hearsParent (h : PtpHeader) (u : State) : Prop := hears h u ∧ u.ptpSlave = true ∧ u.fromParent h = true

/-- A Sync that is later than the last one: no run of Syncs out of sequence goes on, one that still waits for its Follow_Up is counted as
missed, and its number is noted (Table 10-5). -/
def syncNoted (h : PtpHeader) (u : State) : State := (u.endRun evPtpSeq runSync).syncAlone.updPtp fun p => { p with lastSyncSeq := some h.seq }

/-- PTP_SYNC_RECEIVED, one-step: the exchange is complete with t2 now (R305). -/
abbrev syncMeasures (h : PtpHeader) (t1 : Int) : Rule where
  row := fun t => .ptpSyncReceived t h false t1
  guard := fun u => hearsParent h u ∧ seq16Later h.seq u.tu.ptp.lastSyncSeq = true
  effect := fun u => (syncNoted h u).syncDone t1 u.time

/-- PTP_SYNC_RECEIVED, two-step: t2 waits for the Follow_Up (R305). -/
abbrev syncWaits (h : PtpHeader) (t1 : Int) : Rule where
  row := fun t => .ptpSyncReceived t h true t1
  guard := fun u => hearsParent h u ∧ seq16Later h.seq u.tu.ptp.lastSyncSeq = true
  effect := fun u => (syncNoted h u).updPtp fun p => { p with pending := some ⟨h.clock, h.port, h.seq, u.time, t1, u.now⟩ }

/-- PTP_SYNC_RECEIVED out of sequence: discarded, counted and logged once (Table 10-5). -/
abbrev syncOutOfSequence (h : PtpHeader) (two : Bool) (t1 : Int) : Rule where
  row := fun t => .ptpSyncReceived t h two t1
  guard := fun u => hearsParent h u ∧ seq16Later h.seq u.tu.ptp.lastSyncSeq = false
  effect := fun u => (u.bump rTimSeqerr).logOnce evPtpSeq runSync

/-- PTP_SYNC_RECEIVED with a foreign version, domain or own identity: discarded, and TIM_BADMSG counts (Table 10-5). -/
abbrev syncForeign (h : PtpHeader) (two : Bool) (t1 : Int) : Rule where
  row := fun t => .ptpSyncReceived t h two t1
  guard := fun u => u.tu.ptp.enabled = true ∧ u.ptpForeign h = true
  effect := fun u => u.bump rTimBadmsg

/-- PTP_FOLLOW_UP_RECEIVED of the Sync that waits: the exchange is complete with that Sync's t2 (R305). -/
abbrev followUpMeasures (h : PtpHeader) (t1 : Int) (q : PtpPending) : Rule where
  row := fun t => .ptpFollowUpReceived t h t1
  guard := fun u => hears h u ∧ u.tu.ptp.pending = some q ∧ q.clock = h.clock ∧ q.port = h.port ∧ q.seq = h.seq
  effect := fun u => ((u.endRun evPtpSeq runFollowUp).endRun evPtpSeq runNoFollowUp).syncDone (t1 + q.correction) q.t2

/-- PTP_FOLLOW_UP_RECEIVED with no such Sync: discarded, counted and logged once (Table 10-5). -/
abbrev followUpAlone (h : PtpHeader) (t1 : Int) : Rule where
  row := fun t => .ptpFollowUpReceived t h t1
  guard := fun u => hears h u ∧ u.tu.ptp.pending = none
  effect := fun u => (u.bump rTimSeqerr).logOnce evPtpSeq runFollowUp

/-- PTP_FOLLOW_UP_TIMEOUT: the Sync is given up after one sync interval (Table 10-5). -/
abbrev followUpMissed (q : PtpPending) : Rule where
  row := fun t => .ptpFollowUpTimeout t
  guard := fun u => u.tu.ptp.pending = some q ∧ q.at_ + intervalTicks u.tu.ptp.logSync ≤ u.now
  effect := fun u => ((u.updPtp fun p => { p with pending := none }).bump rTimSeqerr).logOnce evPtpSeq runNoFollowUp

/-- PTP_DELAY_RESP_RECEIVED to the request under way: the path delay ((t2 − t1) + (t4 − t3)) / 2 lies within the outlier limit of the mean,
or is the first; it is among the last eight, and the mean is theirs (R304). -/
abbrev delayMeasured (h : PtpHeader) (c : Nat) (t4 t3 o : Int) : Rule where
  row := fun t => .ptpDelayRespReceived t h c t4
  guard := fun u => hearsParent h u ∧ u.clockId = c ∧ u.tu.ptp.delayReq = some (h.seq, some t3) ∧ u.tu.ptp.lastOffset = some o ∧ 0 ≤ Int.fdiv (o + (t4 - t3)) 2 ∧
    (u.tu.ptp.delays = [] ∨ (Int.fdiv (o + (t4 - t3)) 2 - u.tu.ptp.meanDelay).natAbs ≤ u.tu.outlier * 1000 * 2 ^ 32)
  effect := fun u =>
    let ds := (Int.fdiv (o + (t4 - t3)) 2 :: u.tu.ptp.delays).take 8
    u.updPtp fun p => { p with delayReq := none, delays := ds, meanDelay := Int.fdiv (isum ds) ds.length }

/-- PTP_DELAY_RESP_RECEIVED with a negative path delay: discarded as an outlier (R304). -/
abbrev delayNegative (h : PtpHeader) (c : Nat) (t4 t3 o : Int) : Rule where
  row := fun t => .ptpDelayRespReceived t h c t4
  guard := fun u => hearsParent h u ∧ u.clockId = c ∧ u.tu.ptp.delayReq = some (h.seq, some t3) ∧ u.tu.ptp.lastOffset = some o ∧ Int.fdiv (o + (t4 - t3)) 2 < 0
  effect := fun u => (u.updPtp fun p => { p with delayReq := none }).countOutlier

/-- PTP_DELAY_REQ_RECEIVED as master, within 512 answers a second: a Delay_Resp with the time of receipt goes out (Table 10-3). -/
abbrev delayAnswered (h : PtpHeader) : Rule where
  row := fun t => .ptpDelayReqReceived t h
  guard := fun u => hears h u ∧ u.tu.ptp.state = .master ∧ u.now < u.tu.ptp.answerFrom + 400000000 ∧ u.tu.ptp.answered < 512
  effect := fun u => (u.updPtp fun p => { p with answered := p.answered + 1 }).ptpSend [.delayResp h.seq h.clock h.port u.time]

/-- PTP_DELAY_REQ_RECEIVED beyond 512 in a second: discarded, and TIM_BADMSG counts (Table 10-3). -/
abbrev delayUnanswered (h : PtpHeader) : Rule where
  row := fun t => .ptpDelayReqReceived t h
  guard := fun u => hears h u ∧ u.tu.ptp.state = .master ∧ u.now < u.tu.ptp.answerFrom + 400000000 ∧ 512 ≤ u.tu.ptp.answered
  effect := fun u => u.bump rTimBadmsg

/-- PTP_ANNOUNCE_RECEIVED of another clock than the parent: it is recorded, and the best master clock algorithm decides (R301). -/
abbrev announceHeard (h : PtpHeader) (a : PtpAnnounce) : Rule where
  row := fun t => .ptpAnnounceReceived t h a
  guard := fun u => hears h u ∧ u.fromParent h = false ∧ ((u.hearForeign h a).bmca).tu.ptp.parent = u.tu.ptp.parent
  effect := fun u => (u.hearForeign h a).bmca

/-- PTP_ANNOUNCE_RECEIVED that gives the port a new parent, or takes its own away: the announce numbers begin again (R303). -/
abbrev announceSelects (h : PtpHeader) (a : PtpAnnounce) : Rule where
  row := fun t => .ptpAnnounceReceived t h a
  guard := fun u => hears h u ∧ u.fromParent h = false ∧ ((u.hearForeign h a).bmca).tu.ptp.parent ≠ u.tu.ptp.parent
  effect := fun u =>
    let v := (u.hearForeign h a).bmca
    v.updPtp fun p => { p with lastAnnSeq := if v.fromParent h then some h.seq else none }

/-- PTP_ANNOUNCE_RECEIVED from the parent out of sequence: discarded, counted and logged once (Table 10-5). -/
abbrev announceOutOfSequence (h : PtpHeader) (a : PtpAnnounce) : Rule where
  row := fun t => .ptpAnnounceReceived t h a
  guard := fun u => hears h u ∧ u.fromParent h = true ∧ seq16Later h.seq u.tu.ptp.lastAnnSeq = false
  effect := fun u => (u.bump rTimSeqerr).logOnce evPtpSeq runAnnounce

/-- PTP_SYNC_SEND as master at its interval: a Sync goes out (R302). -/
abbrev syncSent : Rule where
  row := fun t => .ptpSyncSend t
  guard := fun u => u.tu.ptp.enabled = true ∧ u.tu.ptp.state = .master ∧ due u.now u.tu.ptp.syncSentAt (intervalTicks u.tu.ptp.logSync) = true
  effect := fun u =>
    (u.updPtp fun p => { p with syncSeq := (p.syncSeq + 1) % 65536, syncSentAt := some u.now }).ptpSend
      [.sync u.tu.ptp.syncSeq]

/-- PTP_ANNOUNCE_SEND as master at its interval (R303). -/
abbrev announceSent : Rule where
  row := fun t => .ptpAnnounceSend t
  guard := fun u => u.tu.ptp.enabled = true ∧ u.tu.ptp.state = .master ∧ due u.now u.tu.ptp.annSentAt (intervalTicks u.tu.ptp.logAnnounce) = true
  effect := fun u =>
    (u.updPtp fun p => { p with annSeq := (p.annSeq + 1) % 65536, annSentAt := some u.now }).ptpSend [.announce u.tu.ptp.annSeq u.ownAnnounce]

/-- PTP_DELAY_REQ_SEND as slave at its interval; a request still unanswered counts in TIM_SEQERR (R302, Table 10-5). -/
abbrev delayAsked : Rule where
  row := fun t => .ptpDelayReqSend t
  guard := fun u => u.tu.ptp.enabled = true ∧ u.ptpSlave = true ∧ due u.now u.tu.ptp.reqSentAt (intervalTicks u.tu.ptp.logDelayReq) = true
  effect := fun u =>
    ((if u.tu.ptp.delayReq.isSome then u.bump rTimSeqerr else u).updPtp fun p =>
      { p with reqSeq := (p.reqSeq + 1) % 65536, reqSentAt := some u.now, delayReq := some (p.reqSeq, none) }).ptpSend
      [.delayReq u.tu.ptp.reqSeq u.tu.ptp.unicast]

/-- The port without its master: it listens, and the master is forgotten (R303). -/
def masterGone (u : State) : State :=
  (u.ptpTo .listening).updPtp fun p =>
    { p with parent := none, pending := none, delayReq := none, foreign := p.foreign.filter fun f => !decide (some (f.clock, f.port) = u.tu.ptp.parent) }

/-- PTP_MASTER_LOST with PTP the source, and no step under way: the servo enters HOLDOVER (R298, R300, R303). -/
abbrev masterLost : Rule where
  row := fun t => .ptpMasterLost t
  guard := fun u => u.masterLostDue = true ∧ u.tu.source = .ptp ∧ u.tu.servo.step = none
  effect := fun u => (masterGone u).enterHoldover

/-- PTP_MASTER_LOST with another source: the servo goes on (R303). -/
abbrev masterLostAside : Rule where
  row := fun t => .ptpMasterLost t
  guard := fun u => u.masterLostDue = true ∧ u.tu.source ≠ .ptp
  effect := masterGone

/-- PTP_MASTER_LOST for a servo on PTP whose port follows no master any more, and no step under way: HOLDOVER (R298, R303). -/
abbrev masterNone : Rule where
  row := fun t => .ptpMasterLost t
  guard := fun u => u.masterLostDue = false ∧ u.masterless = true ∧ u.tu.servo.step = none
  effect := State.enterHoldover

/-- PTP_QUALIFICATION_TIMEOUT: a port that may lead goes to MASTER (R301). -/
abbrev portLeads : Rule where
  row := fun t => .ptpQualificationTimeout t
  guard := fun u => u.tu.ptp.enabled = true ∧ u.tu.ptp.slaveOnly = false ∧
    (u.tu.ptp.state = .preMaster ∨
      (u.tu.ptp.state = .listening ∨
        u.tu.ptp.state = .passive ∧ ∀ f ∈ u.tu.ptp.foreign, ∀ t ∈ f.heard, t + u.tu.ptp.timeout * intervalTicks u.tu.ptp.logAnnounce ≤ u.now) ∧
      u.tu.ptp.since + u.tu.ptp.timeout * intervalTicks u.tu.ptp.logAnnounce ≤ u.now)
  effect := fun u => u.ptpTo .master

/-! ### Other sources, and steps (R36, R294 to R299) -/

/-- PPS_IN_EDGE with PPS the source: TIM_PPSLAST and TIM_PPSCNT, and a phase at the nearest whole second (R24, R294). -/
abbrev pulseMeasures : Rule where
  row := fun t => .ppsInEdge t
  guard := fun u => u.tu.source = .pps
  effect := fun u =>
    let v := ({ u with tu := { u.tu with ppsTime := u.time, ppsCount := (u.tu.ppsCount + 1) % 2 ^ 32 } } : State).sawEdge 0
    ({ v with tu := { v.tu with sourceSeen := v.now } } : State).measure
      (u.time - Int.fdiv (2 * u.time + 10 ^ 9 * nsUnit) (2 * (10 ^ 9 * nsUnit)) * (10 ^ 9 * nsUnit)) 1

/-- PPS_IN_EDGE with another source: only the time stamp and the count (R24). -/
abbrev pulseStamped : Rule where
  row := fun t => .ppsInEdge t
  guard := fun u => u.tu.source ≠ .pps
  effect := fun u => ({ u with tu := { u.tu with ppsTime := u.time, ppsCount := (u.tu.ppsCount + 1) % 2 ^ 32 } } : State).sawEdge 0

/-- CLOCK_BLOCK_MEASURE of the selected input: a phase against the nearest media period, 64 periods apart (R294, R296). -/
abbrev blockMeasures (key : Nat) : Rule where
  row := fun t => .clockBlockMeasure t key
  guard := fun u => (u.tu.source = .wclk ∨ u.tu.source = .mclk) ∧ u.tu.clockKey = key
  effect := fun u =>
    let v := u.sawEdge key
    ({ v with tu := { v.tu with sourceSeen := v.now } } : State).measure (u.nearestPeriod u.time).2 ((64 : Rat) / (u.fs : Rat))

/-- TIME_SOURCE_LOST: HOLDOVER (R294, R298). -/
abbrev sourceLost : Rule where
  row := fun t => .timeSourceLost t
  guard := fun u => u.sourceLostDue = true ∧ u.tu.servo.step = none
  effect := State.enterHoldover

/-- TIME_SOURCE_LOST while a step waits for its boundary: the loss waits too (R300). -/
abbrev sourceLossWaits : Rule where
  row := fun t => .timeSourceLost t
  guard := fun u => u.sourceLostDue = true ∧ u.tu.servo.step ≠ none
  effect := fun u => u.updServo fun v => { v with waiting := v.waiting ++ [.lost] }

/-- TIME_STEP_APPLY at its boundary: device time steps, counted and logged, and labels move with it (R36, R299). -/
abbrev stepTaken (st : PendingStep) : Rule where
  row := fun t => .timeStepApply t
  guard := fun u => u.tu.servo.step = some st ∧ u.tu.servo.waiting = [] ∧ st.boundary ≤ u.index
  effect := fun u =>
    ((u.updServo fun v => { v with step := none, waiting := [], lastAt := none }).stepNow st.delta).relabelled st.boundary (u.quantaOf st.delta * u.q)

/-! ### Clocks (R306 to R310, R522) -/

/-- REFCLK_LOST: the counter holds; RFLOST, CLK_LOSSCNT and the log tell (R309). -/
abbrev referenceLost : Rule where
  row := fun t => .refclkLost t
  guard := fun u => u.tu.refLost = false
  effect := fun u => ((({ u with tu := { u.tu with refLost := true } } : State).setEvt rClkEvt 0).bump rClkLosscnt).logNow evRefLost

/-- REFCLK_RETURN: the counter goes on, the servo in HOLDOVER (R309). -/
abbrev referenceBack : Rule where
  row := fun t => .refclkReturn t
  guard := fun u => u.tu.refLost = true
  effect := fun u => ({ u with tu := { u.tu with refLost := false, refFrom := u.now, refSeen := 0 } } : State).enterHoldover

/-- A PLL's loss in its registers: clock-good of what it feeds falls, its event bit sets, and CLK_LOSSCNT counts (R310). -/
def lockFalls (p : Nat) (u : State) : State := ((u.putClock (pllClock p) false).setEvt rClkEvt (1 + p)).bump rClkLosscnt

/-- PLL_LOCK_LOSS of a PLL that no reset domain hangs on (R310). -/
abbrev counterPllLost (p : Nat) : Rule where
  row := fun t => .pllLockLoss t p
  guard := fun u => u.tu.locks.getD p false = true ∧ pllDomain p = none
  effect := lockFalls p

/-- PLL_LOCK_LOSS of a PLL whose domain is not the control domain: the domain and what depends on it are reset, and with operations of the
graph there the device halts with reason 2 (R310, R445, R522). -/
abbrev pllLost (p d : Nat) : Rule where
  row := fun t => .pllLockLoss t p
  guard := fun u => u.tu.locks.getD p false = true ∧ pllDomain p = some d ∧ d ≠ 1 ∧
    (if (lockFalls p u).cfg.graph.isSome && (domainClosure d).any fun x => (lockFalls p u).graphUses x then (lockFalls p u).halted 2
      else lockFalls p u).rpc.sources.contains ⟨9, 2, d, 0⟩ = false
  effect := fun u =>
    let v := lockFalls p u
    let w := if v.cfg.graph.isSome && (domainClosure d).any fun x => v.graphUses x then v.halted 2 else v
    ((w.noteSource ⟨9, 2, d, 0⟩).countReset true).closureDown d

/-- WCLK_OUT_MODE_SWITCH at the period fixed: the mode is the new one, and MCG12 runs while WCLK_OUT is in use (R307). -/
abbrev wordClockSwitches (m : Nat) (i : Int) : Rule where
  row := fun t => .wclkOutModeSwitch t
  guard := fun u => u.tu.wclkNext = some (m, i) ∧ i ≤ u.index
  effect := fun u =>
    { u with tu := { u.tu with wclkMode := m, wclkNext := none, mcg := if m = 0 then u.tu.mcg &&& ~~~(w32 4096) else u.tu.mcg ||| w32 4096 } }

/-- PPS_OUT_SECOND: the pending settings apply, and PPS_OUT rises if enabled (R308). -/
abbrev secondPulses (on : Bool) (width : Nat) : Rule where
  row := fun t => .ppsOutSecond t
  guard := fun u => u.tu.ppsSecond < Int.fdiv u.ns (10 ^ 9) ∧ u.tu.ppsNext.getD (u.tu.ppsEnable, u.tu.ppsWidth) = (on, width) ∧
    (u.tu.servo.state ≠ .free ∨ u.tu.servo.everAccepted = true)
  effect := fun u =>
    let sec := Int.fdiv u.ns (10 ^ 9)
    { u with tu := { u.tu with ppsSecond := sec, ppsEnable := on, ppsWidth := width, ppsNext := none,
                               ppsRose := if on then some (sec * 10 ^ 9) else u.tu.ppsRose } }

/-- PPS_OUT_SECOND while the servo is FREE and no source was ever accepted: PPS_OUT stays low (R308). -/
abbrev secondSilent (on : Bool) (width : Nat) : Rule where
  row := fun t => .ppsOutSecond t
  guard := fun u => u.tu.ppsSecond < Int.fdiv u.ns (10 ^ 9) ∧ u.tu.ppsNext.getD (u.tu.ppsEnable, u.tu.ppsWidth) = (on, width) ∧
    u.tu.servo.state = .free ∧ u.tu.servo.everAccepted = false
  effect := fun u =>
    { u with tu := { u.tu with ppsSecond := Int.fdiv u.ns (10 ^ 9), ppsEnable := on, ppsWidth := width, ppsNext := none } }

end Sys2Proof.Safety
end

