-- ==== Sys2Proof/Safety/Transport.lean ====
section
/-! DEFINITION. What arrives on the command transports, row by row: the terms of the statements about them (R410 to R423). -/
namespace Sys2Proof.Safety
open Sys2Proof.Machine

/-! ### PCIe rings (R410, R420) -/

/-- A packet may be fetched on PCIe channel n: enabled, its tail ahead of its head, room for a reply, nothing in execution (R410). -/
abbrev fetches (n : Nat) (u : State) : Prop :=
  n < 8 ∧ u.takes = true ∧ u.pcie = true ∧ bitOf (u.reg (rCmdCfg + 32 * n)) 0 = true ∧ (u.chan n).chead ≠ (u.chan n).ctail ∧ u.replyRoom n = true ∧
  (u.chan n).hold.isNone = true

/-- PCIE_COMMAND_FETCH: the head moves on, and the packet waits for the interpreter. -/
abbrev fetchQueues (n : Nat) (words : List Word) : Rule where
  row := fun t => .pcieCommandFetch t n words
  guard := fun u => fetches n u ∧ (u.chan n).remote = none
  effect := fun u => (u.updChan n fun c => { c with chead := c.chead + 1 }).updChan n fun c =>
    { c with waiting := c.waiting ++ [⟨words, 4 * fld (words.getD 0 0) 15 0, (0, 0), 0⟩] }

/-- PCIE_COMMAND_FETCH in REMOTE mode: the packet goes on, unchecked, to the node and in-band channel bound (R420). -/
abbrev fetchGoesOn (n : Nat) (words : List Word) (node ch : Nat) : Rule where
  row := fun t => .pcieCommandFetch t n words
  guard := fun u => fetches n u ∧ (u.chan n).remote = some (node, ch)
  effect := fun u => (u.updChan n fun c => { c with chead := c.chead + 1 }).sendMessage (ch - 13) node
    ((List.range (max 4 (min 1024 (fld (words.getD 0 0) 15 0)))).map fun i => words.getD i 0)

/-! ### SPI (R412 to R415) -/

/-- The header of the words of an SPI transaction has the CHECK that it should have (R406). -/
abbrev headerGood (ws : List Word) : Prop :=
  fld (ws.getD 1 0) 7 0 = headerCheck (ws.getD 0 0) (ws.getD 1 0) (ws.getD 2 0) (ws.getD 3 0)

/-- The status octet is shifted out, and LOST clears (Table 14-5). -/
def spiOpened (u : State) : State := { u with spi := { lost := false, status := u.spiStatus } }

/-- A PKT_WRITE is discarded: counted under kind k with the tag that the words hold, and LOST sets (R412, R433). -/
def spiLoses (k : Nat) (ws : List Word) (u : State) : State :=
  { ((spiOpened u).dropPacket 8 k (BitVec.ofNat 16 (fld (ws.getD 1 0) 31 16))) with spi := { (spiOpened u).spi with lost := true } }

/-- SPI_PKT_WRITE: with RDY, of whole length or with a good header, the packet waits for the interpreter. -/
abbrev spiWriteQueues (octets : Nat) (words : List Word) : Rule where
  row := fun t => .spiPktWrite t octets words
  guard := fun u => 16 ≤ octets ∧ u.spiStatus.testBit 0 = true ∧ (octets = 4 * fld (words.getD 0 0) 15 0 ∨ headerGood words)
  effect := fun u => (spiOpened u).updChan 8 fun c => { c with waiting := c.waiting ++ [⟨words, octets, (0, 0), 0⟩] }

/-- SPI_PKT_WRITE of fewer octets than a header has is lost. -/
abbrev spiWriteShort (octets : Nat) (words : List Word) : Rule where
  row := fun t => .spiPktWrite t octets words
  guard := fun _ => octets < 16
  effect := spiLoses 3 words

/-- SPI_PKT_WRITE without RDY is lost. -/
abbrev spiWriteBusy (octets : Nat) (words : List Word) : Rule where
  row := fun t => .spiPktWrite t octets words
  guard := fun u => 16 ≤ octets ∧ u.spiStatus.testBit 0 = false
  effect := spiLoses 4 words

/-- SPI_PKT_WRITE whose length and CHECK are both wrong is lost. -/
abbrev spiWriteBad (octets : Nat) (words : List Word) : Rule where
  row := fun t => .spiPktWrite t octets words
  guard := fun u => 16 ≤ octets ∧ u.spiStatus.testBit 0 = true ∧ octets ≠ 4 * fld (words.getD 0 0) 15 0 ∧ ¬ headerGood words
  effect := spiLoses 2 words

/-- SPI_PKT_READ with nothing stored: a first word of 0 (R414). -/
abbrev spiReadsNothing (whole : Bool) : Rule where
  row := fun t => .spiPktRead t whole
  guard := fun u => (u.chan 8).out = []
  effect := fun u => { spiOpened u with spi := { (spiOpened u).spi with miso := [0] } }

/-- SPI_PKT_READ: the oldest reply or notification; it leaves the store when it was read whole (R414). -/
abbrev spiReadsOldest (whole : Bool) (r : Reply) (rest : List Reply) : Rule where
  row := fun t => .spiPktRead t whole
  guard := fun u => (u.chan 8).out = r :: rest
  effect := fun u =>
    let v := { spiOpened u with spi := { (spiOpened u).spi with miso := r.raw } }
    if whole then v.updChan 8 fun c => { c with out := rest } else v

/-- SPI_STATUS: the status octet, which clears LOST. -/
abbrev spiStatusOpens : Rule where
  row := fun t => .spiStatus t
  guard := fun _ => True
  effect := spiOpened

/-- SPI_REG_READ: the marker 0xA5 and the value of the register (R415). -/
abbrev spiReadsRegister (off : Nat) : Rule where
  row := fun t => .spiRegRead t off
  guard := fun u => u.powered 1 = true
  effect := fun u =>
    let v := (spiOpened u).hostRead 0 off (mw0Decode off)
    { v with spi := { v.spi with marker := 0xA5, miso := [v.read] } }

/-- SPI_REG_READ_TIMEOUT: the marker 0xFF, and the failure counted (R415). -/
abbrev spiReadFails : Rule where
  row := fun t => .spiRegReadTimeout t
  guard := fun u => u.powered 1 = true
  effect := fun u => { spiOpened u with spi := { (spiOpened u).spi with marker := 0xFF, miso := [0xFFFFFFFF] } }.count 0x16 (8 * 16 + 14)

/-- SPI_REG_WRITE: the register is written as by the host (R415). -/
abbrev spiWritesRegister (off : Nat) (v : Word) : Rule where
  row := fun t => .spiRegWrite t off v
  guard := fun u => u.powered 1 = true
  effect := fun u => (spiOpened u).hostWriteAt 0 off (mw0Decode off) v

/-! ### UDP (R416, R417) -/

/-- UDP_DATAGRAM_RECEIVED: each packet of the datagram enters the queue of the MAC's channel, in order. -/
abbrev datagramQueues (m src port octets : Nat) (words : List Word) : Rule where
  row := fun t => .udpDatagramReceived t m src port octets words
  guard := fun u => m < 4 ∧ u.udpOn m = true ∧ u.takes = true ∧ u.sourceForeign m src = false
  effect := fun u =>
    let gram := (u.chan (9 + m)).grams + 1
    (datagramPackets (src, port) gram (octets / 16 + 1) octets words).foldl (fun (s : State) x => s.queuePacket (9 + m) x)
      (u.updChan (9 + m) fun c => { c with grams := gram, source := some (src, port) })

/-- UDP_DATAGRAM_RECEIVED from a source that the filter bars: counted as unmatched (R417). -/
abbrev datagramForeign (m src port octets : Nat) (words : List Word) : Rule where
  row := fun t => .udpDatagramReceived t m src port octets words
  guard := fun u => m < 4 ∧ u.udpOn m = true ∧ u.takes = true ∧ u.sourceForeign m src = true
  effect := fun u => u.macStat m 11

/-! ### In-band areas and forwarded commands (R419 to R423) -/

/-- The message that a fragment belongs to: the one in progress with its number, else a new one (R419). -/
def inboxFor (area : Nat) (f : Fragment) (u : State) : Inbox :=
  match u.zen.inboxOf area f.src with
  | some x => if x.seq = f.seq then x else { area := area, src := f.src, seq := f.seq, since := u.index }
  | none => { area := area, src := f.src, seq := f.seq, since := u.index }

/-- The fragment is for this node, in an in-band area of an enabled Zenel Link, and new in its message. -/
abbrev fragmentCounts (area : Nat) (f : Fragment) (u : State) : Prop :=
  u.zen.enabled = true ∧ f.dest = u.zen.node ∧ area < 2 ∧ (inboxFor area f u).complete = false ∧
  ((inboxFor area f u).frags.any fun g => decide (g.frag = f.frag)) = false

/-- INBAND_FRAGMENT_RECEIVED: a fragment that does not complete its message is kept. -/
abbrev fragmentKept (area : Nat) (f : Fragment) : Rule where
  row := fun t => .inbandFragmentReceived t area f
  guard := fun u => fragmentCounts area f u ∧ ({ inboxFor area f u with frags := f :: (inboxFor area f u).frags }).message = none
  effect := fun u => u.putInbox { inboxFor area f u with frags := f :: (inboxFor area f u).frags }

/-- INBAND_FRAGMENT_RECEIVED: with its last fragment the message is taken, as a reply of a REMOTE channel or a packet (R420, R421). -/
abbrev fragmentCompletes (area : Nat) (f : Fragment) (octets : Nat) (ws : List Word) : Rule where
  row := fun t => .inbandFragmentReceived t area f
  guard := fun u => fragmentCounts area f u ∧ ({ inboxFor area f u with frags := f :: (inboxFor area f u).frags }).message = some (octets, ws)
  effect := fun u => (u.putInbox { inboxFor area f u with frags := [], complete := true }).takeMessage area f.src octets ws

/-- INBAND_MESSAGE_TIMEOUT: a message incomplete for 64 periods is discarded and counted (R419). -/
abbrev messageGivenUp (area src : Nat) (x : Inbox) : Rule where
  row := fun t => .inbandMessageTimeout t area src
  guard := fun u => u.zen.inboxOf area src = some x ∧ x.complete = false ∧ x.since + 64 ≤ u.index
  effect := fun u =>
    { u with zen := { u.zen with inbox := u.zen.inbox.filter fun y => !(decide (y.area = area) && decide (y.src = src)) } }.dropPacket (13 + area) 10 0

/-- RELAY_FORWARD_TIMEOUT: 10 ms after it was forwarded, the packet is answered PARTNER_FAULT with detail 2, and its channel goes on
(R423). -/
abbrev forwardGivenUp (n op : Nat) (p : Packet) (sent : Nat) : Rule where
  row := fun t => .relayForwardTimeout t n
  guard := fun u => (u.chan n).hold = some (.relay op p sent) ∧ sent + ticksOfMs 10 ≤ u.now
  effect := fun u => u.relayAnswer n op p (mkReply op p .partnerFault 2 u.index [])

end Sys2Proof.Safety
end

