-- ==== Sys2Proof/Safety/Twin.lean ====
section
/-! DEFINITION. What happens to the lease, at handovers, on the Twin Link and in joins, row by row: the terms of the statements about them
(R371 to R402, R422 to R424). -/
namespace Sys2Proof.Safety
open Sys2Proof.Machine

/-! ### The lease (R376 to R382) -/

/-- A device with twin enabled that holds the lease. -/
abbrev holds (u : State) : Prop := u.twin.enabled = true ∧ u.twin.state = .active

/-- LEASE_RENEWAL_TIMER, 250 µs after the last renewal: a renewal goes out on both paths (R377). -/
abbrev renewalSent : Rule where
  row := fun t => .leaseRenewalTimer t
  guard := fun u => holds u ∧ u.twin.sentAt + ticksOfUs 250 ≤ u.now
  effect := fun u => { u with twin := { u.twin with pulseOut := some (u.now, true), outRenew := true, sentAt := u.now } }

/-- A pulse heard. -/
def pulseHeard (u : State) : State := u.updTwin fun t => { t with pulseAt := some u.now, heard := true }

/-- LEASE_PULSE_RECEIVED, a renewal pulse at a device that does not hold the lease: it takes the partner's epoch (R377, Table 13-4). -/
abbrev pulseRenews (w : Nat) : Rule where
  row := fun t => .leasePulseReceived t w
  guard := fun u => u.twin.enabled = true ∧ 1500 ≤ w ∧ w ≤ 3000 ∧ u.twin.state ≠ .active
  effect := fun u => (pulseHeard u).renewed (max u.twin.partnerEpoch u.twin.epoch)

/-- LEASE_PULSE_RECEIVED, an acknowledgement at the holder: the renewal sent last counts as acknowledged (R377, Table 13-4). -/
abbrev pulseAcknowledges (w : Nat) : Rule where
  row := fun t => .leasePulseReceived t w
  guard := fun u => holds u ∧ 500 ≤ w ∧ w < 1500
  effect := fun u => (pulseHeard u).updTwin fun t => { t with ackedAt := t.sentAt, plost := false }

/-- LEASE_PULSE_RECEIVED of another width: counted as stale (Table 13-4, Table 13-9). -/
abbrev pulseStale (w : Nat) : Rule where
  row := fun t => .leasePulseReceived t w
  guard := fun u => u.twin.enabled = true ∧ (w < 500 ∨ 3000 < w)
  effect := State.twlStale

/-- LEASE_SELF_FENCE_TIMEOUT with the partner alive: the holder gives up the lease and fences, logged (R379). -/
abbrev selfFenced : Rule where
  row := fun t => .leaseSelfFenceTimeout t
  guard := fun u => holds u ∧ u.twin.ackedAt + ticksOfUs 900 ≤ u.now ∧ u.twin.aliveIn = true
  effect := fun u => (u.dropLease.twinTo .fenced).logNow evTwinSelfFence

/-- LEASE_SELF_FENCE_TIMEOUT with the partner not alive: the holder goes on, and notes the partner as lost once (R379). -/
abbrev partnerLost : Rule where
  row := fun t => .leaseSelfFenceTimeout t
  guard := fun u => holds u ∧ u.twin.ackedAt + ticksOfUs 900 ≤ u.now ∧ u.twin.aliveIn = false ∧ u.twin.plost = false
  effect := fun u => (u.updTwin fun t => { t with plost := true }).logNow evTwinPartnerLost

/-- A standby device that has heard no renewal for 1.1 ms (R378). -/
abbrev silentNow (u : State) : Prop := u.twin.standby = true ∧ u.twin.renewAt + ticksOfUs 1100 ≤ u.now

/-- The device in silence: a join under way has failed. -/
def inSilence (u : State) : State := (u.updTwin fun t => { t with silent := true }).joinFails

/-- LEASE_SILENCE in step, without HOLD: the partner claims (R378). -/
abbrev silenceClaims : Rule where
  row := fun t => .leaseSilence t
  guard := fun u => silentNow u ∧ (inSilence u).twin.state = .inStep ∧ (inSilence u).twin.hold = false
  effect := fun u => (inSilence u).claims true false

/-- LEASE_SILENCE noted first in a SUSPECT partner without SUSPCLAIM: an alarm, and no claim (R378). -/
abbrev silenceAlarms : Rule where
  row := fun t => .leaseSilence t
  guard := fun u => silentNow u ∧ u.twin.silent = false ∧ (inSilence u).twin.state = .suspect ∧ (inSilence u).suspClaim = false
  effect := fun u => (((inSilence u).updTwin fun t => { t with alarm := true }).setEvt rTwnEvt 6).logNow evTwinAlarm

/-- LEASE_SILENCE of a FENCED device that never heard a partner: a PRIMARY claims at once (R378). -/
abbrev silenceFirstClaim : Rule where
  row := fun t => .leaseSilence t
  guard := fun u => silentNow u ∧ (inSilence u).twin.state = .fenced ∧ (inSilence u).twin.hold = false ∧ (inSilence u).twin.heard = false ∧
    (inSilence u).secondary = false
  effect := fun u => (inSilence u).claims false false

/-- LEASE_SILENCE of a FENCED SECONDARY that never heard a partner: it waits 20 ms (R378). -/
abbrev silenceDelays : Rule where
  row := fun t => .leaseSilence t
  guard := fun u => silentNow u ∧ (inSilence u).twin.state = .fenced ∧ (inSilence u).twin.hold = false ∧ (inSilence u).twin.heard = false ∧
    (inSilence u).secondary = true ∧ (inSilence u).twin.claimAt = none
  effect := fun u => (inSilence u).updTwin fun t => { t with claimAt := some ((inSilence u).now + ticksOfMs 20) }

/-- TWIN_ROLE_DELAY_EXPIRY: the SECONDARY claims (R378). -/
abbrev roleClaims (due : Nat) : Rule where
  row := fun t => .twinRoleDelayExpiry t
  guard := fun u => u.twin.state = .fenced ∧ u.twin.heard = false ∧ u.twin.hold = false ∧ u.twin.claimAt = some due ∧ due ≤ u.now
  effect := fun u => u.claims false false

/-- ALIVE_IN_STOPPED, 50 µs after the last edge: ALIVE_IN counts as stopped (Table 13-4). -/
abbrev aliveStops : Rule where
  row := fun t => .aliveInStopped t
  guard := fun u => ∀ a ∈ u.twin.aliveAt, a + ticksOfUs 50 ≤ u.now
  effect := fun u => { u with twin := { u.twin with aliveIn := false } }

/-- ALIVE_IN_EDGE: ALIVE_IN runs (Table 13-4). -/
abbrev aliveRuns : Rule where
  row := fun t => .aliveInEdge t
  guard := fun _ => True
  effect := fun u => { u with twin := { u.twin with aliveIn := true, aliveAt := some u.now } }

/-- ALIVE_OUT_TOGGLE, every 10 µs while twin is enabled and CCA runs: the ball changes level (Table 13-4). -/
abbrev aliveToggles : Rule where
  row := fun t => .aliveOutToggle t
  guard := fun u => u.twin.enabled = true ∧ u.ccaRuns = true ∧ u.twin.aliveSent + ticksOfUs 10 ≤ u.now
  effect := fun u => { u with twin := { u.twin with aliveOut := !u.twin.aliveOut, aliveSent := u.now } }

/-! ### The fence and handovers (R372, R383, R385, R402) -/

/-- TWIN_FENCE_SWITCH with no handover: the fence state changes at the start of its period (R372). -/
abbrev fenceSwitches (h : Int) : Rule where
  row := fun t => .twinFenceSwitch t
  guard := fun u => u.twin.fenceFrom = some h ∧ h ≤ u.index ∧ u.twin.hand = none ∧ u.twin.offered = none
  effect := fun u => { u with twin := { u.twin with fenced := !u.twin.fenced, fenceFrom := none } }

/-- TWIN_FENCE_SWITCH at the holder, its handover committed: it is IN_STEP, or FENCED with HOLD when it was to be fenced, counted and logged
(R383). -/
abbrev handoverGiven (h : Int) (x : Handover) : Rule where
  row := fun t => .twinFenceSwitch t
  guard := fun u => u.twin.fenceFrom = some h ∧ h ≤ u.index ∧ u.twin.hand = some x ∧ x.committed = true
  effect := fun u => (u.updTwin fun t => { t with fenced := !t.fenced, fenceFrom := none }).handedOver x

/-- TWIN_FENCE_SWITCH at the partner, its handover committed: it holds the lease with the epoch offered, counted and logged (R383). -/
abbrev handoverTaken (h b : Int) (e : Nat) : Rule where
  row := fun t => .twinFenceSwitch t
  guard := fun u => u.twin.fenceFrom = some h ∧ h ≤ u.index ∧ u.twin.hand = none ∧ u.twin.offered = some (b, e, true)
  effect := fun u =>
    ((((u.updTwin fun t => { t with fenced := !t.fenced, fenceFrom := none }).takeLease e).bump rTwnHandcnt).logAt evTwinHandover b [])

/-- HANDOVER_RECEIVED in step, for a period to come and a later epoch: HACK goes out (R383). -/
abbrev handoverAnswered (h : Word) (e : Nat) (urgent : Bool) : Rule where
  row := fun t => .handoverReceived t h e urgent
  guard := fun u => u.twin.enabled = true ∧ u.twin.state = .inStep ∧ u.index < nearestIndex h u.index ∧ u.twin.epoch < e
  effect := fun u => { u with twin := { u.twin with offered := some (nearestIndex h u.index, e, false), outHack := some (nearestIndex h u.index) } }

/-- HANDOVER_RECEIVED with a passed period or an epoch not later: counted as stale (Table 13-9). -/
abbrev handoverStale (h : Word) (e : Nat) (urgent : Bool) : Rule where
  row := fun t => .handoverReceived t h e urgent
  guard := fun u => u.twin.standby = true ∧ (nearestIndex h u.index ≤ u.index ∨ e ≤ u.twin.epoch)
  effect := State.twlStale

/-- HACK_RECEIVED in time: COMMIT goes out, and the holder is fenced from h (R383). -/
abbrev hackCommits (x : Handover) : Rule where
  row := fun t => .hackReceived t (lo32 x.h)
  guard := fun u => u.twin.hand = some x ∧ x.committed = false ∧ u.time ≤ u.hackLimit x
  effect := fun u => (u.setFence true x.h).updTwin fun t => { t with hand := some { x with committed := true }, outCommit := some x.h }

/-- COMMIT_RECEIVED by period h: the partner is unfenced from h (R383). -/
abbrev commitTaken (b : Int) (e : Nat) : Rule where
  row := fun t => .commitReceived t (lo32 b)
  guard := fun u => u.twin.offered = some (b, e, false) ∧ u.time ≤ u.startOf b ∧ u.twin.state = .inStep
  effect := fun u => (u.setFence false b).updTwin fun t => { t with offered := some (b, e, true) }

/-- CANCEL_RECEIVED: the handover answered is abandoned (R383). -/
abbrev cancelTaken (b : Int) (e : Nat) : Rule where
  row := fun t => .cancelReceived t (lo32 b)
  guard := fun u => u.twin.offered = some (b, e, false)
  effect := fun u => { u with twin := { u.twin with offered := none } }

/-- HACK_DEADLINE without HACK: CANCEL goes out, the lease stays, the hold-off starts again, flagged and logged (R383, R385). -/
abbrev handoverFails (x : Handover) : Rule where
  row := fun t => .hackDeadline t
  guard := fun u => u.twin.hand = some x ∧ x.committed = false ∧ u.hackLimit x < u.time ∧ x.fence ≠ some true
  effect := fun u =>
    ((u.updTwin fun t => { t with hand := none, outCancel := some x.h, stepSince := t.stepSince.map fun _ => u.now }).setEvt rTwnEvt 7).logAt
      evHandoverFail x.h []

/-- TAKEBACK_HOLDOFF_EXPIRY: a SECONDARY holder with TAKEBACK offers the lease to its PRIMARY partner (R385). -/
abbrev takebackStarts (since : Nat) : Rule where
  row := fun t => .takebackHoldoffExpiry t
  guard := fun u => u.takeback = true ∧ u.secondary = true ∧ u.twin.partnerSecondary = false ∧ u.handoverPossible = true ∧
    u.twin.stepSince = some since ∧ since + u.holdoff ≤ u.now
  effect := fun u => u.startHandover false none

/-- FENCEREQ_RECEIVED at a standby device: FENCED with HOLD, recorded under cause 8 without touching the reset block's own record (R402, R513). -/
abbrev fencedOnRequest (force : Bool) : Rule where
  row := fun t => .fencereqReceived t force
  guard := fun u => u.twin.state ≠ .detached ∧ u.twin.state ≠ .active
  effect := fun u => ((u.fenceHeld.noteSource ⟨8, 3, 0, 0⟩).updRpc fun _ => u.fenceHeld.rpc).countReset true

/-- FENCEREQ_RECEIVED at a holder that cannot hand over, without FORCE: nothing happens (R402). -/
abbrev fenceRefused : Rule where
  row := fun t => .fencereqReceived t false
  guard := fun u => u.twin.state = .active ∧ u.handoverPossible = false
  effect := fun u => u

/-- DETACH_RECEIVED at a standby device: HOLD (R402). -/
abbrev detachHolds : Rule where
  row := fun t => .detachReceived t
  guard := fun u => u.twin.standby = true
  effect := fun u => { u with twin := { u.twin with hold := true } }

/-! ### Mirroring and signatures (R387 to R397) -/

/-- MIRROR_READY: the quantum enters processing on the mirrored values (R390). -/
abbrev mirrorRuns (k : Int) : Rule where
  row := fun t => .mirrorReady t k
  guard := fun u => u.twin.mirrors = true ∧ u.audio.next = some k ∧ u.twin.mirrorWhole (k * u.q) u.q = true ∧
    (u.reachQuantum k).processing = true ∧ (u.reachQuantum k).audio.next = some k
  effect := fun u =>
    let v := u.reachQuantum k
    (v.startQuantum k fun t key n => t.twin.mirrorValue v.graphNow.mirrorKeys (k * u.q) key n).updTwin fun t => { t with local_ := false }

/-- MIRROR_FALLBACK at its time: the quantum runs on the own receivers, LOCAL, counted, flagged, its signature excused (R390). -/
abbrev mirrorFalls (k : Int) : Rule where
  row := fun t => .mirrorFallback t k
  guard := fun u => u.twin.mirrors = true ∧ u.audio.next = some k ∧ u.fallbackTime k ≤ u.time ∧
    (u.reachQuantum k).processing = true ∧ (u.reachQuantum k).audio.next = some k
  effect := fun u =>
    ((((u.reachQuantum k).startQuantum k State.ownInput).bump rTwlMirlate).setEvt rTwlEvt 3).updTwin fun t =>
      { t with local_ := true, excused := (k * u.q) :: t.excused }

/-- SIGNATURE_MISS: no partner signature by the sink deadline of quantum k + 2, counted once (R396). -/
abbrev signatureMissed (k : Int) (own : Signature) : Rule where
  row := fun t => .signatureMiss t k
  guard := fun u => u.compares = true ∧ u.twin.state ≠ .active ∧ u.deadlineReached (k + 2) = true ∧ own ∈ u.twin.sigs ∧ own.index = k * u.q ∧
    u.twin.judged.contains (k * u.q) = false ∧ ∀ x ∈ u.twin.partnerSigs, x.index ≠ k * u.q
  effect := fun u => (u.bump rTwnSigmiss).updTwin fun t => { t with judged := ((k * u.q) :: t.judged).take 16 }

/-! ### The Twin Link (R386, R388, R393, R394, R422) -/

/-- TWIN_LINK_FRAME_LAUNCH, once in a period: a frame with the period's label, the device's state and what waits to be sent; a holder's frame
carries the mirror samples of the period before (R386, R388). -/
abbrev twinLaunches : Course where
  row := fun t => .twinLinkFrameLaunch t
  guard := fun u => u.twin.enabled = true ∧ u.pd.testBit 13 = true ∧ u.twin.launched ≠ some u.index
  after := fun u v => v.twin.launched = some u.index ∧ v.twin.outRenew = false ∧ v.twin.outAck = false ∧ v.twin.outClaim = false ∧ v.regs = u.regs ∧
    ∃ f, v.twin.sent = some f ∧ f.label = zenLabel u.index ∧ f.state = u.twin.state ∧ f.secondary = u.secondary ∧ f.renew = u.twin.outRenew ∧
      f.ack = u.twin.outAck ∧ f.claim = u.twin.outClaim ∧ f.detach = u.twin.outDetach ∧ f.unrelayed = u.twin.unrelayed ∧
      f.mirror = if u.twin.state = .active then u.mirrorAt (u.index - 1) else []

/-- A frame that arrives over a locked Twin Link. -/
abbrev twinHears (u : State) : Prop := u.twin.enabled = true ∧ u.twin.lock = true

/-- What a frame says of the partner, and of its lease (R377, R386, R394). -/
def partnerHeard (f : TwlFrame) (u : State) : State :=
  let v := ((u.bump rTwlFramecnt).hearFrame (u.labelIndex f.label) f).linkRecovers f
  let w := if f.renew then v.renewed (f.renewEpoch v.twin) else v
  ((if f.ack then w.ackReceived else w).keepMirror (u.labelIndex f.label) f).copyAsked f.copyReq f.copyMissing

/-- TWIN_LINK_FRAME_RECEIVED intact, its label within two periods, no signature in it and no join under way (R386, R388). -/
abbrev twinFrameHeard (f : TwlFrame) : Rule where
  row := fun t => .twinLinkFrameReceived t f
  guard := fun u => twinHears u ∧ f.intact = true ∧ u.index - 2 ≤ u.labelIndex f.label ∧ u.labelIndex f.label ≤ u.index + 2 ∧ f.sig = none ∧
    (partnerHeard f u).twin.phase = .none
  effect := partnerHeard f

/-- TWIN_LINK_FRAME_RECEIVED with a signature: it is kept, and compared once both are there (R396). -/
abbrev twinFrameSigned (f : TwlFrame) (x : Word × Nat × Bool) : Rule where
  row := fun t => .twinLinkFrameReceived t f
  guard := fun u => twinHears u ∧ f.intact = true ∧ u.index - 2 ≤ u.labelIndex f.label ∧ u.labelIndex f.label ≤ u.index + 2 ∧ f.sig = some x ∧
    ((partnerHeard f u).takeSig x).twin.phase = .none
  effect := fun u => (partnerHeard f u).takeSig x

/-- TWIN_LINK_FRAME_RECEIVED damaged, or with a label away from the present period: counted and flagged, nothing of it taken (R386). -/
abbrev twinFrameBad (f : TwlFrame) : Rule where
  row := fun t => .twinLinkFrameReceived t f
  guard := fun u => twinHears u ∧ (f.intact = false ∨ u.labelIndex f.label < u.index - 2 ∨ u.index + 2 < u.labelIndex f.label)
  effect := fun u => ((u.bump rTwlChkcnt).setEvt rTwlEvt 1).updTwin fun t => { t with intact := 0 }

/-- An entry of a relay section at this device (R392, R422, R423). -/
def entryTaken (seq : Nat) (s : State) (e : RelayEntry) : State :=
  if e.kind = 1 then (if s.twin.state = .active then s else s.takeExecuted seq e)
  else if e.kind = 2 then s.takeReplyOnly e else if e.kind = 3 then s.takeForwarded e else s

/-- RELAY_SECTION_RECEIVED with the expected number: the entries whole with it are taken in order (R393). -/
abbrev sectionTaken (x : RelaySection) : Rule where
  row := fun t => .relaySectionReceived t x
  guard := fun u => twinHears u ∧ u.twin.relayNext.getD x.seq = x.seq
  effect := fun u =>
    let r := entriesOf (u.twin.relayIn.length + x.words.length) (u.twin.relayIn ++ x.words)
    r.1.foldl (entryTaken x.seq) (u.updTwin fun t => { t with relayNext := some ((x.seq + 1) % 2 ^ 16), relayIn := r.2, gapAt := none })

/-- RELAY_SECTION_RECEIVED a second time: discarded (R393). -/
abbrev sectionRepeated (x : RelaySection) (n : Nat) : Rule where
  row := fun t => .relaySectionReceived t x
  guard := fun u => twinHears u ∧ u.twin.relayNext = some n ∧ x.seq ≠ n ∧ (x.seq + 1) % 2 ^ 16 = n
  effect := fun u => u

/-- RELAY_SECTION_RECEIVED out of sequence: counted, and a gap stands open (R393). -/
abbrev sectionGap (x : RelaySection) (n : Nat) : Rule where
  row := fun t => .relaySectionReceived t x
  guard := fun u => twinHears u ∧ u.twin.relayNext = some n ∧ x.seq ≠ n ∧ (x.seq + 1) % 2 ^ 16 ≠ n
  effect := fun u => u.twlStale.updTwin fun t => { t with gapAt := some (t.gapAt.getD u.now) }

/-- RELAY_GAP_TIMEOUT: a gap open for two periods; an IN_STEP partner is JOINING, flagged and logged (R393). -/
abbrev gapExpires (g : Nat) : Rule where
  row := fun t => .relayGapTimeout t
  guard := fun u => u.twin.gapAt = some g ∧ 2 * ticksOfMs 1000 ≤ (u.now - g) * u.fs
  effect := fun u => u.relayLate.updTwin fun t => { t with relayNext := none, relayIn := [], gapAt := none }

/-- TWL_LOCK_LOSS: counted and flagged; what was not yet relayed counts as unrelayed, and a copy under way has failed (R394, R400). -/
abbrev twinLockLost : Rule where
  row := fun t => .twlLockLoss t
  guard := fun u => u.twin.lock = true
  effect := fun u =>
    let lost := decide (u.twin.state = .active) && (!u.twin.relayOut.isEmpty || !u.twin.relayWords.isEmpty)
    let v := ((u.bump rTwlLockcnt).setEvt rTwlEvt 0).updTwin fun t =>
      { t with lock := false, intact := 0, pstate := if t.pstate = 0 then 0 else 3, unver := t.unver || t.standby, unrelayed := t.unrelayed || lost,
               relayOut := [], relayWords := [], relayCut := 0, relaySec := none, relayNext := none, relayIn := [], gapAt := none, capture := none }
    if v.twin.phase = .copy then v.joinFails else v

/-- TWL_BLOCK_LOCK_GAIN: the lock and the delay measured (R394). -/
abbrev twinLockGained (d : Nat) : Rule where
  row := fun t => .twlBlockLockGain t d
  guard := fun u => u.twin.lock = false
  effect := fun u =>
    (u.setEvt rTwlEvt 0).updTwin fun t =>
      { t with lock := true, intact := 0, delay := d % 2 ^ 20, pstate := if decide (t.pstate = 0) && t.enabled then 1 else t.pstate }

/-! ### Joins (R398 to R400) -/

/-- TWIN_AUTOJOIN_START with AUTOJOIN and nothing in the way: the join starts (R376, R399). -/
abbrev joinStarts : Rule where
  row := fun t => .twinAutojoinStart t
  guard := fun u => u.autojoin = true ∧ u.twin.hold = false ∧ u.twin.phase = .none ∧ u.twin.retryAt = none ∧ u.mayJoin = true
  effect := State.startJoin

/-- JOIN_RETRY a second after a failed join (R400). -/
abbrev joinAgain (due : Nat) : Rule where
  row := fun t => .joinRetry t
  guard := fun u => u.autojoin = true ∧ u.twin.hold = false ∧ u.twin.phase = .none ∧ u.twin.retryAt = some due ∧ due ≤ u.now ∧ u.mayJoin = true
  effect := State.startJoin

/-- A copy block noted: counted, and block 0 gives the size and k_c (Table 13-8). -/
def blockNoted (x : CopyBlock) (u : State) : State :=
  (u.bump rTwlCopycnt).updTwin fun t =>
    { t with blocks := x.num :: t.blocks, blockSize := if x.num = 0 then x.size else t.blockSize,
             snapKib := if x.num = 0 then cdivN x.size 1024 else t.snapKib, joinAt := if x.num = 0 then x.k else t.joinAt }

/-- The copy is whole. -/
def copyWhole (v : State) : Bool := v.twin.blocks.contains 0 && decide (v.twin.blockSize ≤ v.twin.lowestMissing * v.blockOctets)

/-- JOIN_COPY_BLOCK, one of several: noted (R399). -/
abbrev blockKept (x : CopyBlock) (ok : Bool) (c : Copied) : Rule where
  row := fun t => .joinCopyBlock t x ok c
  guard := fun u => u.twin.phase = .copy ∧ u.twin.blocks.contains x.num = false ∧ copyWhole (blockNoted x u) = false
  effect := blockNoted x

/-- JOIN_COPY_BLOCK, the last, with the CRC-64 in agreement: the copied state takes the place of the device's, and the entries logged since are
executed (R399, R458). -/
abbrev copyCommitted (x : CopyBlock) (c : Copied) : Rule where
  row := fun t => .joinCopyBlock t x true c
  guard := fun u => u.twin.phase = .copy ∧ u.twin.blocks.contains x.num = false ∧ copyWhole (blockNoted x u) = true
  effect := fun u =>
    let v := (blockNoted x u).joinCommit c (blockNoted x u).twin.joinAt
    let log := v.twin.joinLog.filter fun e => let d := (e.1 + 2 ^ 16 - c.relaySeq) % 2 ^ 16; decide (0 < d) && decide (d < 2 ^ 15)
    log.foldl (fun (s : State) e => s.runEntry e.2) (v.updTwin fun t => { t with joinLog := [] })

/-- JOIN_COPY_BLOCK, the last, with the CRC-64 not in agreement: the copy begins again (R399). -/
abbrev copyRejected (x : CopyBlock) (c : Copied) : Rule where
  row := fun t => .joinCopyBlock t x false c
  guard := fun u => u.twin.phase = .copy ∧ u.twin.blocks.contains x.num = false ∧ copyWhole (blockNoted x u) = true
  effect := fun u => (blockNoted x u).updTwin fun t => { t with blocks := [], blockSize := 0 }

/-- JOIN_CATCHUP_DONE: the replay has reached the present quantum (Table 13-8). -/
abbrev catchupEnds : Rule where
  row := fun t => .joinCatchupDone t
  guard := fun u => u.twin.phase = .catchup ∧ u.caughtUp = true
  effect := fun u => { u with twin := { u.twin with phase := .heal } }

/-- JOIN_HEAL_DONE: H samples after k_c (Table 13-8). -/
abbrev healEnds : Rule where
  row := fun t => .joinHealDone t
  guard := fun u => u.twin.phase = .heal ∧ u.twin.healTo ≤ u.index
  effect := fun u => { u with twin := { u.twin with phase := .verify, matches_ := 0 } }

end Sys2Proof.Safety
end

