-- ==== Sys2Proof/Safety/Zen.lean ====
section
/-! DEFINITION. What happens at the Zen Link ports, row by row: the terms of the statements about them (R345 to R366, R418). -/
namespace Sys2Proof.Safety
open Sys2Proof.Machine

/-- A port in use with block lock, and a frame that it does not refuse for rate, label or hops (R351, Table 12-3). -/
abbrev zenTakes (p : Nat) (f : ZenFrame) (u : State) : Prop := u.zenOn p = true ∧ (u.zport p).lock = true ∧ u.zenRefused f = false

/-- What a node reads of a frame: accepted when its check passed, else only counted (R354, R355, Table 12-3). -/
def zenReads (p : Nat) (n : Int) (f : ZenFrame) (u : State) : State := if f.intact then u.zenAccept p n f else u.zenBad p

/-- ZEN_FRAME_RECEIVED with another rate, a label away from the present period, or 4,095 hops: refused, counted, flagged and logged once
(R351, Table 12-3). -/
abbrev zenFrameRefused (p : Nat) (f : ZenFrame) (ok hiber : Bool) : Rule where
  row := fun t => .zenFrameReceived t p f ok hiber
  guard := fun w => let u := w.zenHiber p hiber; u.zenOn p = true ∧ (u.zport p).lock = true ∧ u.zenRefused f = true
  effect := fun w => let u := w.zenHiber p hiber; ((u.bump (rZenLblcnt + 0x400 * p)).setEvt (rZenEvt + 0x400 * p) 3).logOnce evZenLabel p

/-- ZEN_FRAME_RECEIVED at the root of a ring: the frame ends there, and is read (R348, R351). -/
abbrev zenFrameEnds (p r : Nat) (f : ZenFrame) (ok hiber : Bool) : Rule where
  row := fun t => .zenFrameReceived t p f ok hiber
  guard := fun w => let u := w.zenHiber p hiber; zenTakes p f u ∧ zenPathIn u.zen.mode p = some r ∧ u.zen.isRoot = true
  effect := fun w => let u := w.zenHiber p hiber; zenReads p (u.labelIndex f.label) f (u.readInband r (u.labelIndex f.label) f true).1

/-- ZEN_FRAME_RECEIVED at another node that is no head, for a frame not yet launched: forwarded with its own areas, and read (R349, R350, R353). -/
abbrev zenFrameForwarded (p r : Nat) (f : ZenFrame) (ok hiber : Bool) : Rule where
  row := fun t => .zenFrameReceived t p f ok hiber
  guard := fun w => let u := w.zenHiber p hiber; zenTakes p f u ∧ zenPathIn u.zen.mode p = some r ∧ u.zen.isRoot = false ∧ ((u.headCount p r f).zring r).head = false ∧
    ((u.headCount p r f).zring r).launched < u.labelIndex f.label
  effect := fun w =>
    let u := w.zenHiber p hiber
    let n := u.labelIndex f.label
    let b := (u.headCount p r f).readInband r n f false
    zenReads p n f (b.1.zenForward p r n b.2 f.intact ok)

/-- ZEN_FRAME_RECEIVED at a head: it ends there, and is read (R357, R358). -/
abbrev zenFrameHeaded (p r : Nat) (f : ZenFrame) (ok hiber : Bool) : Rule where
  row := fun t => .zenFrameReceived t p f ok hiber
  guard := fun w => let u := w.zenHiber p hiber; zenTakes p f u ∧ zenPathIn u.zen.mode p = some r ∧ u.zen.isRoot = false ∧ ((u.headCount p r f).zring r).head = true
  effect := fun w => let u := w.zenHiber p hiber; zenReads p (u.labelIndex f.label) f ((u.headCount p r f).readInband r (u.labelIndex f.label) f true).1

/-- ZEN_FRAME_LAUNCH at a root: one frame for the present period on each ring, and the hellos are looked at again (R348, R360). -/
abbrev zenRootLaunches : Rule where
  row := fun t => .zenFrameLaunch t
  guard := fun u => u.zen.enabled = true ∧ u.zen.mode = 1 ∧ u.zen.isRoot = true ∧ (u.zring 0).launched < u.index ∧ (u.zenLaunch 0 u.index).zen.mode = 1
  effect := fun u => (u.zenLaunch 0 u.index).zenView

/-- ZEN_FRAME_LAUNCH at a branch node: one frame upwards (R363). -/
abbrev zenBranchLaunches : Rule where
  row := fun t => .zenFrameLaunch t
  guard := fun u => u.zen.enabled = true ∧ u.zen.mode = 2 ∧ u.zen.isRoot = false ∧ (u.zring 0).head = false ∧ u.zen.upLaunched < u.index
  effect := fun u => (u.zenLaunch 2 u.index).zenView

/-- Block lock lost, in the port's own state: LOCK clears, DOWN, counted, flagged and logged (Table 12-3). -/
def zenPortDown (p : Nat) (u : State) : State :=
  (((u.updZport p fun x => { x with lock := false, state := .down }).bump (rZenLockcnt + 0x400 * p)).setEvt (rZenEvt + 0x400 * p) 0).logNow evZenLinkDown

/-- ZEN_LOCK_LOSS of an upstream port at a node that is not root: it becomes head of the path (R357). -/
abbrev zenLockLost (p r : Nat) : Rule where
  row := fun t => .zenLockLoss t p none
  guard := fun u => u.zenOn p = true ∧ (u.zport p).lock = true ∧ zenPathIn u.zen.mode p = some r ∧ (zenPortDown p u).zen.isRoot = false
  effect := fun u => (zenPortDown p u).becomeHead r

/-- ZEN_LOCK_LOSS of a port that is upstream of no path: no head (R357). -/
abbrev zenBranchLost (p : Nat) (l : Option ZenFrame) : Rule where
  row := fun t => .zenLockLoss t p l
  guard := fun u => u.zenOn p = true ∧ (u.zport p).lock = true ∧ zenPathIn u.zen.mode p = none
  effect := zenPortDown p

/-- ZEN_MISSING_FRAMES: after four periods without a good frame the node becomes head (R357). -/
abbrev zenFramesMissing (p r : Nat) : Rule where
  row := fun t => .zenMissingFrames t p
  guard := fun u => zenPathIn u.zen.mode p = some r ∧ u.zenOn p = true ∧ (u.zport p).lastGood + 4 < u.index ∧ (u.zring r).head = false ∧ u.zen.isRoot = false
  effect := fun u =>
    ((((u.updZring r fun x => { x with head := true, good := 0 }).setEvt (rZenEvt + 0x400 * zenPortUp r) 2).bump rZenHeadcnt).logNow evZenHead).zenView

/-- ZEN_ROOT_CHANGE: an elected node that is not root becomes root, no head any more, which ZEN_EVT tells (R359, R370). -/
abbrev zenBecomesRoot : Rule where
  row := fun t => .zenRootChange t
  guard := fun u => u.zen.root = u.zen.node ∧ u.zen.enabled = true ∧ u.zen.clash = none ∧ u.zen.isRoot = false
  effect := fun u =>
    let v : State := { u with zen := { u.zen with isRoot := true, rings := u.zen.rings.map fun x => { x with head := false, good := 0 } } }
    ((v.portEvents u).logNow evZenRoot).zenView

/-- ZEN_ROOT_CHANGE: a root that is not elected any more stops being root (R359). -/
abbrev zenStopsRoot : Rule where
  row := fun t => .zenRootChange t
  guard := fun u => u.zen.root ≠ u.zen.node ∧ u.zen.isRoot = true
  effect := fun u =>
    let v : State := { u with zen := { u.zen with isRoot := false, rings := u.zen.rings.map fun x => { x with head := false, good := 0 } } }
    ((v.portEvents u).logNow evZenRoot).zenView

/-- ZEN_LINK_WORD over the right cable: the neighbour, its stamps and the delay that they give are noted, and a locked port is UP (R346, R347). -/
abbrev zenNeighbour (p : Nat) (x : LinkWord) : Rule where
  row := fun t => .zenLinkWord t p x.node x.port x.q x.stamps
  guard := fun u => u.zenOn p = true ∧ zenCableOk u.zen.mode p (x.port % 4) = true
  effect := fun u =>
    (u.updZport p fun y =>
      { y with peer := x.node % 4096, peerPort := x.port % 4, peerQ := x.q, peerValid := true, heard := some (x.stamps.sent, u.time),
               delay := x.delay u.time y.delay, state := if y.lock then .up else y.state }).zenView

/-- ZEN_LINK_WORD over a wrong cable: the port stays in TRAINING, and it is logged (R347, Table 12-3). -/
abbrev zenMiscabled (p : Nat) (x : LinkWord) : Rule where
  row := fun t => .zenLinkWord t p x.node x.port x.q x.stamps
  guard := fun u => u.zenOn p = true ∧ zenCableOk u.zen.mode p (x.port % 4) = false
  effect := fun u =>
    ((u.updZport p fun y =>
      { y with peer := x.node % 4096, peerPort := x.port % 4, peerQ := x.q, peerValid := true, heard := some (x.stamps.sent, u.time),
               delay := x.delay u.time y.delay, state := .training }).logNow evZenCable).zenView

/-- ZEN_BLOCK_LOCK_GAIN: LOCK sets, and the port is UP once its neighbour is known and rightly cabled, else TRAINING (R364). -/
abbrev zenLockGained (p : Nat) : Rule where
  row := fun t => .zenBlockLockGain t p
  guard := fun u => u.zenOn p = true ∧ (u.zport p).lock = false
  effect := fun u =>
    (u.updZport p fun x => { x with
      lock := true
      state := if (u.zport p).peerValid && zenCableOk u.zen.mode p (u.zport p).peerPort then .up else .training }).setEvt (rZenEvt + 0x400 * p) 0

end Sys2Proof.Safety
end

