-- ==== Sys2Proof/Certificates/Slice0/Obligations.lean ====
section
/-! DEFINITION. The statements about the model, for the provers. -/
section
open Sys2Proof Sys2Proof.Machine Sys2Proof.Safety

/-! ### The block as a whole -/

/-- A step runs the command at the front of the queue on the rest of the state; with nothing waiting the block idles (log entry 2). -/
def Obligations.StepRunsTheFront : Prop :=
  ∀ s : State, (∀ (c : Instr) (rest : List Instr), s.pending = c :: rest → step s = exec c { s with pending := rest }) ∧
    (s.pending = [] → step s = .next s)

/-- What reset leaves: 48 kHz and Q = 8 (R446), the defaults of R154, no graph, no build, no change waiting, no packet taken, every register
at its column Reset (R12, R467), and an empty queue. -/
def Obligations.ResetLeaves : Prop :=
  State.reset.fs = 48000 ∧ State.reset.q = 8 ∧ State.reset.takes = false ∧ (∀ a, State.reset.reg a = regReset a) ∧
  (State.reset.cfg.sluice.fadeLen, State.reset.cfg.sluice.fadeCurve, State.reset.cfg.sluice.rampLen) = (64, Curve.power, 64) ∧
  State.reset.cfg.graph = none ∧ State.reset.build = none ∧ State.reset.changes = [] ∧
  (∀ n < 15, (State.reset.chan n).waiting = [] ∧ (State.reset.chan n).hist = []) ∧ State.reset.pending = []

/-- The machine right after reset meets the invariant of StepKeepsInvariant. -/
def Obligations.ResetMeetsInvariant : Prop := MessagesSent State.reset ∧ DisabledReset State.reset

/-- Every step keeps it: no interrupt message that R480 asks for is left unsent, and a channel that was disabled stays unreset only while a
command of it executes (R484). -/
def Obligations.StepKeepsInvariant : Prop :=
  ∀ s t : State, MessagesSent s ∧ DisabledReset s → step s = .next t → MessagesSent t ∧ DisabledReset t

/-! ### Packets -/

/-- A device that is not yet READY takes no packet: a command leaves it as it is, and no transport queues one (R409, R439). -/
def Obligations.NotReadyTakesNothing : Prop :=
  (∀ c ∈ commands, ∀ (t : Nat) (p : Packet) (s : State), (s.atTime t).takes = false → exec (c.row t p) s = .next (s.atTime t).settle) ∧
  (∀ (t n : Nat) (words : List Word) (s : State), (s.atTime t).takes = false →
    exec (.pcieCommandFetch t n words) s = .next (s.atTime t).settle) ∧
  (∀ (t m src port octets : Nat) (words : List Word) (s : State), (s.atTime t).takes = false →
    exec (.udpDatagramReceived t m src port octets words) s = .next (s.atTime t).settle) ∧
  (∀ (octets : Nat) (words : List Word) (s : State) (n : Nat), s.takes = false →
    ((spiPktWrite octets words s).chan n).waiting = (s.chan n).waiting)

/-- The catalogue holds the opcodes of Table 15-2 with their timing and twin classes; the continued commands are the three of R438; any other
opcode is refused with BAD_OPCODE. -/
def Obligations.CatalogueIsTheTable : Prop :=
  (catalogue.filter (·.continued)).map (·.op) = [0x020, 0x201, 0x202] ∧
  (catalogue.filter fun c => decide (c.timing = .sample)).map (·.op) =
    [0x111, 0x206, 0x207, 0x208, 0x301, 0x302, 0x303, 0x304, 0x306, 0x307, 0x404, 0x501, 0x502, 0x503, 0x504] ∧
  (catalogue.filter fun c => decide (c.timing = .quantum)).map (·.op) =
    [0x009, 0x00A, 0x104, 0x107, 0x201, 0x202, 0x203, 0x305, 0x602, 0x603, 0x604, 0x802, 0x803, 0x804, 0x902, 0x903, 0x904] ∧
  (catalogue.filter fun c => !c.pair).map (·.op) =
    [0x001, 0x002, 0x003, 0x010, 0x011, 0x012, 0x018, 0x020, 0x030, 0x105, 0x106, 0x209, 0x405, 0x604, 0x701, 0x702, 0x703, 0x704, 0x801,
     0x805, 0x806, 0x901, 0x905, 0xA01, 0xA02, 0xA03, 0xA04, 0xA05, 0xB01, 0xB02, 0xB03, 0xB04, 0xB05, 0xB06, 0xC01, 0xC02, 0xC03] ∧
  catalogue.length = 79 ∧ (catalogue.map (·.op)).Nodup ∧
  ∀ (op : Nat) (p : Packet) (s : State), (∀ c ∈ catalogue, c.op ≠ op) → (s.chan p.ch).stale op p s.index = none →
    ((s.takePacketOf op p).chan p.ch).entry p.tag = some ⟨p.tag, p.check op, mkReply op p .badOpcode 0 s.index []⟩

/-- Steps 1 to 3 of Table 14-7, in their order (R406, R409, R427): CHECK, CHANNEL, LENGTH. A packet refused there enters no tag history,
executes nothing, and is answered with the CHANNEL and the tag as received. -/
def Obligations.HeaderChecks : Prop :=
  ∀ (s : State) (ch : Nat) (x : Waiting) (w : Nat → Word) (h : Nat × Packet),
    (∀ i, w i = x.words.getD i 0) → h = packetOf ((List.range (max 4 (min 1024 (fld (w 0) 15 0)))).map w) ch →
    let good := fld (w 1) 7 0 = headerCheck (w 0) (w 1) (w 2) (w 3)
    let ours := fld (w 1) 15 8 = ch
    let sized := 4 ≤ fld (w 0) 15 0 ∧ fld (w 0) 15 0 ≤ 1024
    let whole := 4 * fld (w 0) 15 0 = x.octets
    let t := s.takeWords ch x
    let reply := fun (st : Status) (d : Nat) => ({ mkReply h.1 h.2 st d s.index [] with ch := fld (w 1) 15 8 } : Reply)
    let refused := fun (r : Reply) =>
      (t.chan ch).out = (s.chan ch).out ++ [r] ∧ (t.chan ch).hist = (s.chan ch).hist ∧ (t.chan ch).thi = (s.chan ch).thi ∧
      (∀ n, n ≠ ch → t.chan n = s.chan n) ∧
      ({ t with chans := s.chans, log := s.log, runs := s.runs, counters := s.counters, regs := s.regs } : State) = s
    (¬ good → refused (reply .badCheck 1)) ∧
    (good → ¬ ours → refused (reply .badCheck 2)) ∧
    (good → ours → ¬ sized → refused (reply .badLength 1)) ∧
    (good → ours → sized → ¬ whole → refused (reply .badLength 2)) ∧
    (good → ours → sized → whole → t = s.takePacketOf h.1 h.2)

/-- Tags (R425): where a packet falls by d = (TAG − T_hi) mod 2^16, what each place is answered, and how the history is kept. -/
def Obligations.TagPlacement : Prop :=
  (∀ (c : Channel) (op : Nat) (p : Packet) (now : Int) (hi : BitVec 16), c.thi = some hi → c.hist ≠ [] →
    let d := (p.tag.toNat + 2 ^ 16 - hi.toNat) % 2 ^ 16
    (1 ≤ d → d ≤ 32767 → c.stale op p now = none) ∧
    (∀ e, (d = 0 ∨ 32768 ≤ d) → c.entry p.tag = some e → e.check = p.check op →
      c.stale op p now = some { e.reply with status := .okDuplicate, detail := e.reply.status.code }) ∧
    (∀ e, (d = 0 ∨ 32768 ≤ d) → c.entry p.tag = some e → e.check ≠ p.check op → c.stale op p now = some (mkReply op p .tagConflict 0 now [])) ∧
    ((d = 0 ∨ 32768 ≤ d) → c.entry p.tag = none → c.stale op p now = some (mkReply op p .tagStale 0 now []))) ∧
  (∀ (c : Channel) (op : Nat) (p : Packet) (now : Int), c.hist = [] → c.stale op p now = none) ∧
  (∀ (s : State) (op : Nat) (p : Packet) (r : Reply), (s.chan p.ch).stale op p s.index = some r →
    ((s.takePacketOf op p).chan p.ch).hist = (s.chan p.ch).hist ∧ ((s.takePacketOf op p).chan p.ch).thi = (s.chan p.ch).thi ∧
    ((s.takePacketOf op p).chan p.ch).out = (s.chan p.ch).out ++ (if suppressed p r.status then [] else [r]) ∧
    ({ s.takePacketOf op p with chans := s.chans, log := s.log, runs := s.runs, counters := s.counters, regs := s.regs } : State) = s) ∧
  (∀ (s : State) (op : Nat) (p : Packet) (st : Status) (d : Nat) (time : Int) (words : List Word),
    let c := (s.answer op p st d time words).chan p.ch
    c.thi = some p.tag ∧ c.entry p.tag = some ⟨p.tag, p.check op, mkReply op p st d time words⟩ ∧ c.hist.length ≤ 128 ∧
    (((s.chan p.ch).hist.map (·.tag)).Nodup → (c.hist.map (·.tag)).Nodup) ∧
    ∀ e ∈ c.hist, e.tag = p.tag ∨ e ∈ (s.chan p.ch).hist)

/-- NOREPLY (R407): a reply goes out unless NOREPLY is set and its status is OK, OK_QUEUED or OK_DUPLICATE. -/
def Obligations.NoReplySuppresses : Prop :=
  (∀ (s : State) (op : Nat) (p : Packet) (st : Status) (d : Nat) (time : Int) (words : List Word),
    ((s.answer op p st d time words).chan p.ch).out =
      if p.noreply = true ∧ (st = .ok ∨ st = .okQueued ∨ st = .okDuplicate) then (s.chan p.ch).out
      else (s.chan p.ch).out ++ [mkReply op p st d time words]) ∧
  (∀ (s : State) (op : Nat) (p : Packet) (r : Reply), (s.chan p.ch).stale op p s.index = some r →
    ((s.takePacketOf op p).chan p.ch).out =
      if p.noreply = true ∧ (r.status = .ok ∨ r.status = .okQueued ∨ r.status = .okDuplicate) then (s.chan p.ch).out
      else (s.chan p.ch).out ++ [r])

/-- The twin gate (R391, R394): a pair command that has passed the checks before it is executed only by a device that is ACTIVE or DETACHED;
any other device forwards it with RELAY and block lock, and refuses it with PARTNER_FAULT, detail 3, or NOT_ACTIVE. -/
def Obligations.TwinGate : Prop :=
  ∀ c ∈ catalogue, c.pair = true → ∀ (p : Packet) (s : State),
    (∀ i, c.verdict p s = .take i → s.twin.state = .active ∨ s.twin.state = .detached) ∧
    (s.twin.state ≠ .active → s.twin.state ≠ .detached → c.early p s = none →
      c.verdict p s = if s.relays then (if s.twin.lock then .forward else .deny ⟨.partnerFault, 3⟩) else .deny ⟨.notActive, 0⟩)

/-- A refused packet changes nothing but its channel's answer, a failed set or a broken chain, and what is counted and logged of it (R67,
R427, R431, R433, R435). -/
def Obligations.RefusalChangesNothing : Prop :=
  ∀ (c : CmdSpec) (p : Packet) (d : Deny) (s : State), d.status.good = false →
    let t := c.denied p d s
    let r := mkReply c.op p d.status d.detail s.index []
    let chained := (c.continued = true ∧ p.more = false) ∨ d = badParam 0x0F02 ∨ d = badParam 0x0F03 ∨ (d = flagsDeny ∧ p.more = true)
    ({ t with chans := s.chans, log := s.log, runs := s.runs, counters := s.counters, regs := s.regs } : State) = s ∧
    (∀ a, a ≠ rEvtEvt → a ≠ rEvtLostcnt → t.reg a = s.reg a) ∧
    (∀ n, n ≠ p.ch → t.chan n = s.chan n) ∧
    (t.chan p.ch).out = (s.chan p.ch).out ++ [r] ∧
    (t.chan p.ch).entry p.tag = some ⟨p.tag, p.check c.op, r⟩ ∧
    (t.chan p.ch).set = (if p.group then (s.chan p.ch).set.map fun g => { g with refused := g.refused + 1 } else (s.chan p.ch).set) ∧
    (chained → (t.chan p.ch).chain = none) ∧ (¬ chained → (t.chan p.ch).chain = (s.chan p.ch).chain) ∧
    (t.chan p.ch).waiting = (s.chan p.ch).waiting ∧ (t.chan p.ch).hold = (s.chan p.ch).hold

/-- SAFE_SET_BEGIN (R65): it opens a set on its channel, and with one open it is refused with BUSY and leaves the open set. -/
def Obligations.SafeSetOpens : Prop :=
  safeSetBeginDoes.Holds ∧
  (∀ (p : Packet) (s : State) (i : Int), safeSetBeginSpec.verdict p s = .take i → (s.chan p.ch).set = none) ∧
  (∀ (p : Packet) (s : State), safeSetBeginSpec.early p s = none → s.executesPair = true → p.handle = 0 → p.params = [] → p.apply = 0 →
    (s.chan p.ch).set ≠ none → safeSetBeginSpec.verdict p s = .denyLate busyDeny) ∧
  (∀ (p : Packet) (s : State), s.takes = true → p.group = false → (s.chan p.ch).set ≠ none →
    ((safeSetBeginSpec.interpret p s).chan p.ch).set = (s.chan p.ch).set)

/-- GROUP packets (R67): without an open set WRONG_STATE, and a refusal for any reason while a set is open marks the set failed. -/
def Obligations.GroupNeedsASet : Prop :=
  (∀ (c : CmdSpec) (p : Packet) (s : State), p.group = true → c.flags p = none → c.chainDeny p s = none → runDeny c.op s = none →
    c.state p s = none → (s.chan p.ch).set = none → c.verdict p s = .deny ⟨.wrongState, 0⟩) ∧
  (∀ (c : CmdSpec) (p : Packet) (d : Deny) (s : State) (g : SafeSet), p.group = true → (s.chan p.ch).set = some g →
    ((c.denied p d s).chan p.ch).set = some { g with refused := g.refused + 1 }) ∧
  (∀ (p : Packet) (kind : Nat) (r : Reply) (s : State) (g : SafeSet), p.group = true → (s.chan p.ch).set = some g →
    ((s.turnAway p.ch kind r p).chan p.ch).set = some { g with refused := g.refused + 1 }) ∧
  (∀ (op : Nat) (p : Packet) (r : Reply) (s : State) (g : SafeSet), (s.chan p.ch).stale op p s.index = some r → r.status.good = false →
    p.group = true → (s.chan p.ch).set = some g → ((s.takePacketOf op p).chan p.ch).set = some { g with refused := g.refused + 1 }) ∧
  (∀ (op : Nat) (p : Packet) (s : State) (g : SafeSet), (∀ c ∈ catalogue, c.op ≠ op) → (s.chan p.ch).stale op p s.index = none →
    p.group = true → (s.chan p.ch).set = some g → ((s.takePacketOf op p).chan p.ch).set = some { g with refused := g.refused + 1 })

/-- Sets and chains (R66, R430): a GROUP packet taken joins its set, a MORE packet its chain, and each has no other effect; the packet that
ends a chain carries the packets of the whole chain, and closes it. -/
def Obligations.SetsAndChainsCollect : Prop :=
  (∀ (c : CmdSpec) (p : Packet) (i : Int) (s : State) (g : SafeSet), p.group = true → (s.chan p.ch).set = some g →
    let d := c.accept p s i none
    (d.s.chan p.ch).set = some { g with members := g.members ++ [(c.op, p)] } ∧ ({ d.s with chans := s.chans } : State) = s ∧
    (∀ n, n ≠ p.ch → d.s.chan n = s.chan n) ∧ d.words = []) ∧
  (∀ (c : CmdSpec) (p : Packet) (i : Int) (s : State), p.group = false → p.more = true →
    let d := c.accept p s i none
    (d.s.chan p.ch).chain =
      some { op := c.op, handle := p.handle, apply := p.apply, packets := ((s.chan p.ch).chain.elim [] (·.packets)) ++ [p] } ∧
    ({ d.s with chans := s.chans } : State) = s ∧ (∀ n, n ≠ p.ch → d.s.chan n = s.chan n) ∧ d.words = [] ∧ c.okStatus p = .ok) ∧
  (∀ (op : Nat) (p : Packet) (s : State) (k : Chain), (s.chan p.ch).chain = some k → k.op = op → chainOf op p s = k.packets ++ [p]) ∧
  (∀ (c : CmdSpec) (p : Packet) (s : State), c.continued = true → p.more = false → ((closeChain c p s).chan p.ch).chain = none)

/-- PING (R442): from 0 to 1,020 words, which its reply returns unchanged in the same order; nothing but the answer changes. -/
def Obligations.PingReturnsItsWords : Prop :=
  ∀ (t : Nat) (p : Packet) (s : State), (s.atTime t).takes = true → p.params.length ≤ 1020 → p.handle = 0 → p.apply = 0 →
    p.group = false → p.more = false → pingSpec.chainDeny p (judgedIn pingSpec t p s) = none →
    ∃ (u : State) (r : Reply), exec (.ping t p) s = .next u.settle ∧ r.words = p.params ∧ r.status = .ok ∧
      (u.chan p.ch).entry p.tag = some ⟨p.tag, p.check 0x001, r⟩ ∧
      (u.chan p.ch).out = ((judgedIn pingSpec t p s).chan p.ch).out ++ (if p.noreply then [] else [r]) ∧
      ({ u with chans := s.chans, runs := (judgedIn pingSpec t p s).runs } : State) = { judgedIn pingSpec t p s with chans := s.chans }

/-! ### Keep SRAM -/

/-- KEEP_READ (R461): K words, from 1 to 1,020, from a byte offset that is a multiple of 4; a read past 0xFFFF is refused under R435. -/
def Obligations.KeepReadAnswers : Prop :=
  ∀ (p : Packet) (s : State), keepReadSpec.early p s = none → p.handle = 0 → p.apply = 0 → p.group = false → p.more = false →
    (p.params.length ≠ 2 → keepReadSpec.verdict p s = .denyLate ⟨.badLength, 0x0003⟩) ∧
    (p.params.length = 2 →
    let a := fld (p.w 4) 15 0
    let k := fld (p.w 5) 9 0
    let reserved := (p.w 4).toNat ≠ a ∨ (p.w 5).toNat ≠ k
    ((reserved ∨ a % 4 ≠ 0 ∨ k < 1 ∨ 1020 < k ∨ 0x10000 < a + 4 * k) → keepReadSpec.verdict p s = .denyLate ⟨.badParam, 0x0016⟩) ∧
    (¬ (reserved ∨ a % 4 ≠ 0 ∨ k < 1 ∨ 1020 < k ∨ 0x10000 < a + 4 * k) → ∃ i, keepReadSpec.verdict p s = .take i ∧
      ∀ forced, (keepReadSpec.accept p s i forced).s = s ∧
        (keepReadSpec.accept p s i forced).words = (List.range k).map fun j => keepWord s.keep (a + 4 * j)))

/-- The keep SRAM (R11, R459, R460): words written read back, every other octet stays, the CRC-32 is kept current, and the memory keeps its
canonical form. -/
def Obligations.KeepHoldsWhatWasWritten : Prop :=
  ∀ (s : State) (a : Nat) (ws : List Word),
    let t := s.keepWrite a ws
    (∀ i < ws.length, keepWord t.keep (a + 4 * i) = ws.getD i 0) ∧
    (∀ b, b < a ∨ a + 4 * ws.length ≤ b → keepByte t.keep b = keepByte s.keep b) ∧
    t.keepCrc = keepCrcOf t.keep ∧ (keepWf s.keep = true → keepWf t.keep = true) ∧
    ({ t with keep := s.keep, keepCrc := s.keepCrc } : State) = s

/-! ### Registers and transports -/

/-- Ring indices (R411): a value that would place more than K entries between the two indices is ignored, counted and logged, and the
channel keeps its indices; any other is taken. -/
def Obligations.RingIndicesAreChecked : Prop :=
  (∀ n v, (tailRefused n v).Holds) ∧ (∀ n v, (consumedRefused n v).Holds) ∧ (∀ n v, (tailTaken n v).Holds) ∧ (∀ n v, (consumed n v).Holds) ∧
  (∀ (u : State) (n : Nat), n < 8 →
    let v := ((u.bump (rCmdRingerr + 32 * n)).logNow evCmdRingErr).violation n 9 0
    (∀ m, v.chan m = u.chan m) ∧ v.reg (rCmdRingerr + 32 * n) = w32 (satCount (u.reg (rCmdRingerr + 32 * n)).toNat 1) ∧
    ∃ e ∈ v.log, e.code = evCmdRingErr)

/-- PKT_READ (R414): the reply leaves the store only when it was read whole; a read that ends sooner leaves it to be sent again. -/
def Obligations.SpiReadsRepliesWhole : Prop :=
  (∀ whole r rest, (spiReadsOldest whole r rest).Holds) ∧
  (∀ (whole : Bool) (u : State) (r : Reply) (rest : List Reply), (u.chan 8).out = r :: rest →
    ((spiPktRead whole u).chan 8).out = (if whole then rest else r :: rest) ∧ (spiPktRead whole u).spi.miso = r.raw)

/-- A posted write that has not taken effect 10 µs after its acceptance is discarded; XBUSY clears and WLOST sets (R474). -/
def Obligations.PostedWriteGivenUp : Prop :=
  (∀ b x, (postedDiscarded b x).Holds) ∧
  (∀ (b : Nat) (u : State), (∃ x, AMap.find u.posted b = some x ∧ x.since + ticksOfUs 10 ≤ u.now) →
    (postedWriteTimeout b u).postedBits b = 2 ∧ ∀ a, a ≠ b * 1024 → (postedWriteTimeout b u).reg a = u.reg a)

/-- Decoding in MW0 (R469, R470): bits [15:10] are the block, with bit 15 ignored from 36 on; the offset is taken modulo the block's span; an
offset that holds no register reads 0 and ignores writes. -/
def Obligations.OffsetsDecode : Prop :=
  (∀ off, mw0Block off = if off / 1024 % 64 < 36 then off / 1024 % 64 else off / 1024 % 64 - 32) ∧
  (∀ off, mw0Decode off / 1024 = mw0Block off ∧ mw0Decode off % 1024 = off % 1024 % blockSpan (mw0Block off) / 4 * 4) ∧
  ((List.range 36).map blockSpan =
    [64, 1024, 256, 128, 512, 128, 32, 32, 128, 128, 128, 128, 128, 128, 128, 128, 128, 128, 128, 128, 256, 256, 256, 256, 64, 128, 128, 128,
     128, 64, 512, 256, 64, 32, 32, 64]) ∧
  (∀ (s : State) (a : Nat) (v : Word), a % 4 = 0 → regRowOf a = none → s.writeReg a v = s ∧ (s.readReg a).read = 0)

/-- Access types (R12, R13): what a write leaves in each bit of a register that follows Table 00-4 alone, and what a read leaves; bits of no
field read as 0, and every other register stays. -/
def Obligations.AccessTypes : Prop :=
  ∀ (s : State) (a : Nat) (v : Word) (r : RegRow), regRowOf a = some r →
    (∀ f ∈ r.fields, ∀ i, f.lo ≤ i → i ≤ f.hi →
      ((s.writePlain a v).reg a).getLsbD i =
        (match f.acc with
          | .rw => v.getLsbD i
          | .rws => v.getLsbD i
          | .ro => (s.reg a).getLsbD i
          | .rc => (s.reg a).getLsbD i
          | .w1c => (s.reg a).getLsbD i && !v.getLsbD i
          | .wo => false) ∧
      (r.afterRead (s.reg a)).getLsbD i = (if f.acc = .rc then r.resetWord.getLsbD i else (s.reg a).getLsbD i)) ∧
    (∀ i, (∀ f ∈ r.fields, i < f.lo ∨ f.hi < i) → ((s.writePlain a v).reg a).getLsbD i = false ∧ (r.afterRead (s.reg a)).getLsbD i = false) ∧
    (∀ b, b ≠ a → (s.writePlain a v).reg b = s.reg b) ∧ ({ s.writePlain a v with regs := s.regs } : State) = s

/-- Bit aliases (R477): where a bit is aliased; a read returns the bit and clears no field; a write gives the aliased bit its value, every
other RW and RWS bit its own, and every W1C and WO bit 0. -/
def Obligations.BitAliases : Prop :=
  (∀ o b, o < 4096 → o % 4 = 0 → b < 32 → aliasOf (o / 4 * 128 + b * 4) = (mw0Decode o, b)) ∧
  (∀ off, (readAliased off).Holds) ∧
  (∀ (u : State) (off : Nat), reaches (aliasOf off).1 u → (aliasOf off).1 % 1024 = 0 →
    ((u.aliasRead off).read = w32 (b2n (bitOf (u.regValue (aliasOf off).1) (aliasOf off).2)) ∧ (u.aliasRead off).regs = u.regs)) ∧
  (∀ off v, (aliasLands off v).Holds) ∧
  (∀ (s : State) (a bit i : Nat) (v : Bool) (r : RegRow), regRowOf a = some r → bit < 32 → i < 32 →
    (s.aliasWord a bit v).getLsbD i =
      if i = bit then v
      else (r.fields.any fun f => (decide (f.acc = .rw) || decide (f.acc = .rws)) && decide (f.lo ≤ i) && decide (i ≤ f.hi)) &&
        (s.regValue a).getLsbD i)

/-! ### Numbers and indices -/

/-- Rounding and saturation (R210). -/
def Obligations.RoundingAndSaturation : Prop :=
  (∀ a b : Int, 0 < b → 2 * |rhe a b * b - a| ≤ b ∧ (2 * |rhe a b * b - a| = b → rhe a b % 2 = 0)) ∧
  (∀ v : Int, sat40 v = max (-2 ^ 39) (min (2 ^ 39 - 1) v) ∧ sat32 v = max (-2 ^ 31) (min (2 ^ 31 - 1) v))

/-- The earliest apply index E (R57): the first sample of the lowest quantum whose readiness time, Q + 1 samples after its boundary, lies at
least 25 µs ahead; times in units of 2^−32 ns times fs. -/
def Obligations.EarliestIndex : Prop :=
  ∀ s : State,
    let ready := fun k : Int => (s.time - s.tu.origin * nsUnit + 25000 * nsUnit) * s.fs ≤ (k * s.q + s.q + 1) * (10 ^ 9 * nsUnit)
    ∃ k : Int, s.earliest = k * s.q ∧ ready k ∧ ∀ j : Int, ready j → k ≤ j

/-- The selected index (R58, R59): E for apply time 0; else E + Δ with Δ = (a − E) mod 2^32, when Δ is less than 2^31; else LATE. -/
def Obligations.SelectedIndex : Prop :=
  (∀ (a : Word) (e : Int), a ≠ 0 →
    let d := ((a.toNat : Int) - e) % 2 ^ 32
    (d < 2 ^ 31 → selectFrom a e = some (e + d)) ∧ (2 ^ 31 ≤ d → selectFrom a e = none)) ∧
  (∀ e : Int, selectFrom 0 e = some e) ∧
  (∀ (c : CmdSpec) (p : Packet) (s : State), c.timing ≠ .untimed →
    (∀ i, selectFrom p.apply (s.earliestFor c.pair + c.lead) = some i → c.index p s = .ok i) ∧
    (selectFrom p.apply (s.earliestFor c.pair + c.lead) = none → firstDeny [c.handle p s, c.layout p s] = none →
      c.late p s = .denyLate ⟨.late, 0⟩))

/-- The order of changes (R62): of the changes that may take effect, the one taken first comes before every other by index, quantum-exact
before sample-exact, and order of acceptance. -/
def Obligations.ChangesInOrder : Prop :=
  ∀ (s : State) (ok : Change → Bool) (c : Change), s.firstChange ok = some c →
    c ∈ s.changes ∧ ok c = true ∧ ∀ x ∈ s.changes, ok x = true →
      s.effIndex c < s.effIndex x ∨ (s.effIndex c = s.effIndex x ∧
        ((c.quantum = true ∧ x.quantum = false) ∨ (c.quantum = x.quantum ∧ c.order ≤ x.order)))

/-- Gain ramps (R141): from G0, the gain in force at n − 1, to G1 over N_r samples from index n. -/
def Obligations.GainRamps : Prop :=
  ∀ (t : Track) (d n g1 : Int) (len : Nat),
    let g0 := Track.at_ t d (n - 1)
    let u := t.push d n len g1
    (∀ j : Nat, j < len → Track.at_ u d (n + j) = g0 + rhe ((g1 - g0) * (j + 1)) len) ∧
    (∀ m : Int, n + len - 1 ≤ m → n ≤ m → Track.at_ u d m = g1) ∧
    (∀ m : Int, m < n → Track.at_ u d m = Track.at_ t d m)

/-- Linear crossfades (R135): u = (2j + 1) / (2L); the weights sum to 1, and those at j and at L − 1 − j exchange. -/
def Obligations.LinearFadesAreSymmetric : Prop :=
  ∀ len j : Nat, j < len →
    let w := fadeWeights .linear len j
    w.1 = rhe ((2 * j + 1) * 2 ^ 30) (2 * len) ∧ w.1 + w.2 = 2 ^ 30 ∧ 0 ≤ w.1 ∧ w.1 ≤ 2 ^ 30 ∧
    fadeWeights .linear len (len - 1 - j) = (w.2, w.1)

/-- ROUTE_SET to another source at index n, not deferred (R132, R133, R135, R136): before n the sink is as it was; for L samples it mixes the
outgoing signal with the new route's term by the fade's weights; then it is the new term alone. Every other sink stays. -/
def Obligations.RouteTakesOver : Prop :=
  ∀ (l : Sluice) (x src : Nat) (g : Int) (w : Word) (n : Int) (samples : Nat → Int),
    let old := (l.sink x).before n
    (∀ r, old.current = some r → r.src ≠ src ∨ r.dead ≠ none) → (l.sink x).startFor n = n →
    let new := (l.routeSet x src g w n).1
    let lc := l.fade w
    (∀ m : Int, m < n → (new.sink x).value m samples = old.value m samples) ∧
    (∀ j : Nat, j < lc.1 → (new.sink x).value (n + j) samples =
      fadeMix (old.value (n + j) samples) (rhe (samples src * g) (2 ^ 28)) (fadeWeights lc.2 lc.1 j)) ∧
    (∀ m : Int, n + lc.1 ≤ m → (new.sink x).value m samples = rhe (samples src * g) (2 ^ 28)) ∧
    (∀ y, y ≠ x → new.sink y = l.sink y) ∧ ({ new with sinks := l.sinks } : Sluice) = l

/-- Port words (R260, R261): a word of 16, 24 or 32 bits received at a port leaves a port of the same width unchanged, and is not counted as a
clip. -/
def Obligations.PortWordsRoundTrip : Prop :=
  ∀ dw ∈ [16, 24, 32], ∀ w : Word, txValue dw (rxValue dw w) = (asSigned dw w.toNat, false)

/-! ### DRAM and temperature -/

/-- Places in the DRAM (R505): the column, row and bank of an offset, and no two offsets of different 2-byte columns share a place. -/
def Obligations.DramPlaces : Prop :=
  ∀ k a b : Nat, 1 ≤ k →
    let g := 2 ^ k
    let c := a / (4 * g) * g + a % g
    dramPlace g a = ⟨a / g % 4, (c / 2048 % 16) ^^^ (c / 32768 % 16), c / 32768, c / 2 % 1024⟩ ∧
    (dramPlace g a = dramPlace g b → a % 2 = b % 2 → a = b)

/-- THERM_ALERT_N (R549): driven low at or above T_Jmax − 5 °C, released below T_Jmax − 10 °C, and left as it is between them. -/
def Obligations.ThermalAlert : Prop :=
  tjMax = (if Config.gradeE then 105 else 100) ∧
  ∀ (t : Nat) (temp : Int) (s : State), ∃ u : State, exec (.thermAlertChange t temp) s = .next u.settle ∧
    u = { s.atTime t with rpc := { s.rpc with
      therm := if (tjMax - 5) * 256 ≤ temp then true else if temp < (tjMax - 10) * 256 then false else s.rpc.therm } }

/-! ### What each command does when it is taken -/

/-- The commands that report (R74, R120, R187, R313, R369, R402, R442 to R444, R461, R464, R466, R567): a packet that passes its checks is answered
with its words; the state stays, but for the answer, a counter that COUNTER_READ was asked to zero, and the count of free values taken. -/
def Obligations.QueriesReport : Prop :=
  ∀ c ∈
    [pingDoes, getInfoDoes, getStatusDoes, graphQueryCostDoes, pathLatencyDoes, objectQueryDoes, timeQueryDoes, twinStatusDoes,
     keepReadDoes, eventReadDoes, zenTopologyDoes, convQueryDoes, counterReadDoes],
    c.Holds

/-- The system commands (R40, R65, R68, R446, R448 to R455, R460, R462): what each leaves when it is taken, whole. -/
def Obligations.SystemCommandsAct : Prop :=
  ∀ c ∈
    [setRateDoes, fwUpdateBeginDoes, fwUpdateDataDoes, fwUpdateCommitDoes, resetScopeDoes, boardTableLoadDoes, channelConfigDoes,
     keepWriteDoes, meterSubscribeDoes, safeSetBeginDoes, safeSetCommitDoes],
    c.Holds

/-- The commands of the build area, of trajectories and of filters (R51 to R53, R90 to R95, R170 to R175, R179): what each leaves when it is
taken, whole. -/
def Obligations.GraphAndObjectCommandsAct : Prop :=
  ∀ c ∈
    [graphBeginDoes, graphAddOpDoes, graphConnectDoes, graphCommitDoes, trajAppendDoes, trajFlushDoes, filterLoadBeginDoes,
     filterLoadDataDoes, filterLoadEndDoes, filterSwapDoes],
    c.Holds

/-- The untimed commands of the ports, of time and of the media network, and SAP_ARM (R255, R265 to R267, R293, R294, R299, R302, R307, R308,
R311, R318, R319, R323, R341): what each leaves when it is taken, whole. -/
def Obligations.PortTimeAndNetworkCommandsAct : Prop :=
  ∀ c ∈
    [sapConfigDoes, sapArmDoes, timeConfigDoes, ptpConfigDoes, mediaClockDoes, macConfigDoes, shaperSetDoes, pauseConfigDoes],
    c.Holds

/-- The commands of the Zenel Link, of the twin, of the DRAM and of snapshots (R367, R383, R399, R402, R456, R458, R503, R504, R510): what each
leaves when it is taken, whole. -/
def Obligations.ZenTwinAndMemoryCommandsAct : Prop :=
  ∀ c ∈
    [zenConfigDoes, twinConfigDoes, twinJoinDoes, twinHandoverDoes, twinFenceDoes, dramStartDoes, dramOppointDoes, stateSaveDoes,
     stateRestoreDoes],
    c.Holds

/-- Sample-exact commands (R60, R63, Table 02-5): each adds one change for its selected index and does nothing else but answer. -/
def Obligations.SampleExactCommandsWait : Prop := ∀ c ∈ sampleExact, c.Holds

/-- Quantum-exact commands (R60, R63, R86, R269, R342, R352, Table 02-5): each adds one change for its selected index; OBJECT_CREATE,
STREAM_TX_ADD, ZEN_MAP and SAP_STOP also do and answer what their rules say. -/
def Obligations.QuantumExactCommandsWait : Prop := ∀ c ∈ quantumExact ++ [objectCreateDoes, streamTxAddDoes, zenMapDoes, sapStopDoes], c.Holds

/-! ### What each event does -/

/-- What arrives on the transports (R406, R410, R412 to R417, R419 to R421, R423): PCIe, SPI and UDP queue a packet for the interpreter, or
lose and count it; in-band fragments make messages; a forwarded packet without a reply is answered after 10 ms. -/
def Obligations.PacketsArrive : Prop :=
  (∀ n words, (fetchQueues n words).Holds) ∧ (∀ n words node ch, (fetchGoesOn n words node ch).Holds) ∧
  (∀ octets words, (spiWriteQueues octets words).Holds) ∧ (∀ octets words, (spiWriteShort octets words).Holds) ∧
  (∀ octets words, (spiWriteBusy octets words).Holds) ∧ (∀ octets words, (spiWriteBad octets words).Holds) ∧
  (∀ whole, (spiReadsNothing whole).Holds) ∧ (∀ whole r rest, (spiReadsOldest whole r rest).Holds) ∧ spiStatusOpens.Holds ∧
  (∀ m src port octets words, (datagramQueues m src port octets words).Holds) ∧
  (∀ m src port octets words, (datagramForeign m src port octets words).Holds) ∧ (∀ area f, (fragmentKept area f).Holds) ∧
  (∀ area f octets ws, (fragmentCompletes area f octets ws).Holds) ∧ (∀ area src x, (messageGivenUp area src x).Holds) ∧
  (∀ n op p sent, (forwardGivenUp n op p sent).Holds)

/-- Accesses of the host to registers (R12, R410, R415, R467 to R478): a write takes effect, waits as a posted write, is lost while one waits, or is
discarded and counted; a read returns the value after every earlier write; SPI accesses do the same. -/
def Obligations.RegisterAccessesAct : Prop :=
  (∀ off be v, (writeLands off be v).Holds) ∧ (∀ off be v, (writePosts off be v).Holds) ∧ (∀ off be v, (writeLost off be v).Holds) ∧
  (∀ off be v, (writeAliased off be v).Holds) ∧ (∀ win off be v, (writeBad win off be v).Holds) ∧
  (∀ off be v, (writeOff off be v).Holds) ∧ (∀ off, (readReturns off).Holds) ∧ (∀ off, (readOff off).Holds) ∧
  (∀ off, (readAliased off).Holds) ∧ (∀ off, (readEngine off).Holds) ∧ (∀ off v, (aliasLands off v).Holds) ∧
  (∀ b x, (postedLands b x).Holds) ∧ (∀ b x, (postedDiscarded b x).Holds) ∧ (∀ off, (spiReadsRegister off).Holds) ∧ spiReadFails.Holds ∧
  (∀ off v, (spiWritesRegister off v).Holds)

/-- The rows for single registers (R315, R338 to R340, R410, R411, R436, R480, R484, R535, Table 09-7): TIM_SNAP, the witness FIFO, interrupt
vectors, ring indices, channel enables, descriptor tails, power domain requests, and the PCIe link. -/
def Obligations.SingleRegistersAct : Prop :=
  snapTaken.Holds ∧ (∀ v, (witnessPopped v).Holds) ∧ (∀ v, (vectorsArmed v).Holds) ∧ (∀ i, (vectorUnmasked i).Holds) ∧
  functionUnmasked.Holds ∧ (∀ n v, (tailTaken n v).Holds) ∧ (∀ n v, (tailRefused n v).Holds) ∧ (∀ n v, (consumed n v).Holds) ∧
  (∀ n v, (consumedRefused n v).Holds) ∧ (∀ n ien log2k, (channelEnabled n ien log2k).Holds) ∧ (∀ n ien, (channelDisabled n ien).Holds) ∧
  (∀ n ien, (channelCloses n ien).Holds) ∧ (∀ m r tail ds, (rxDescsGiven m r tail ds).Holds) ∧
  (∀ m r tail ds, (txDescsGiven m r tail ds).Holds) ∧ (∀ v d on, (domainsRefused v d on).Holds) ∧ (∀ v, (domainsRequested v).Holds) ∧
  (∀ up enable mask, (linkChanges up enable mask).Holds)

/-- The scheduler and the engines (R32, R60 to R63, R177, R235, R239 to R249): changes at their index, quanta, dispatch and completion, releases,
wait limits, sink deadlines, and the end of a filter copy. -/
def Obligations.SchedulerRuns : Prop :=
  (∀ c, (changeTaken c).Holds) ∧ (∀ c, (changeWaits c).Holds) ∧ (∀ k, (quantumStarts k).Holds) ∧
  (∀ l core now e, (instanceTakesSlot l core now e).Holds) ∧ (∀ k x d r, (operationCompletes k x d r).Holds) ∧
  (∀ k x d r, (passCompletes k x d r).Holds) ∧ (∀ k op tier b d, (tierCompletes k op tier b d).Holds) ∧ tickReleases.Holds ∧
  (∀ k x d r, (operationStopped k x d r).Holds) ∧ (∀ k op tier b d, (tierStopped k op tier b d).Holds) ∧
  (∀ k i d, (waitGoesOn k i d).Holds) ∧ (∀ k r, (deadlinePasses k r).Holds) ∧ (∀ k r b, (deadlineRetires k r b).Holds) ∧
  (∀ i h rest x, (copyDone i h rest x).Holds)

/-- Serial audio groups (R265 to R269, R275 to R277, R392): start and stop of sets, START_IN, a stopped clock, rate checks, and rejoining. -/
def Obligations.SapGroupsStartAndStop : Prop :=
  (∀ g n y, (groupQuiet g n y).Holds) ∧ (∀ n y, (setRuns n y).Holds) ∧ startInStarts.Holds ∧ startInIgnored.Holds ∧
  (∀ g, (groupOff g).Holds) ∧ (∀ g l, (clockStops g l).Holds) ∧ (∀ g sum n, (rateHolds g sum n).Holds) ∧
  (∀ g sum n, (rateGood g sum n).Holds) ∧ (∀ g, (rejoinStarts g).Holds) ∧ (∀ g b, (rejoinEnds g b).Holds)

/-- Frames of the serial audio ports and blocks of the taps (R72, R260 to R264, R270 to R280, R284 to R287). -/
def Obligations.SapFramesAndTapsMove : Prop :=
  (∀ g f words full, (frameTaken g f words full).Holds) ∧ (∀ g f words full, (frameMisframed g f words full).Holds) ∧
  (∀ g f words full, (frameGlitched g f words full).Holds) ∧ (∀ g f words full, (frameQuiet g f words full).Holds) ∧
  (∀ g f words full, (frameRejoins g f words full).Holds) ∧ (∀ g f starved, (frameSent g f starved).Holds) ∧
  (∀ t0 k block x, (blockRead t0 k block x).Holds) ∧ (∀ t0 k block x, (blockMissing t0 k block x).Holds) ∧
  (∀ t0 k x, (blockWritten t0 k x).Holds) ∧ (∀ t0 k x, (blockLost t0 k x).Holds)

/-- The PTP port (R301 to R305, Table 10-5): Sync, Follow_Up, Delay_Resp, Delay_Req and Announce messages heard, messages sent, and a lost master. -/
def Obligations.PtpMessagesCount : Prop :=
  (∀ h t1, (syncMeasures h t1).Holds) ∧ (∀ h t1, (syncWaits h t1).Holds) ∧ (∀ h two t1, (syncOutOfSequence h two t1).Holds) ∧
  (∀ h two t1, (syncForeign h two t1).Holds) ∧ (∀ h t1 q, (followUpMeasures h t1 q).Holds) ∧ (∀ h t1, (followUpAlone h t1).Holds) ∧
  (∀ q, (followUpMissed q).Holds) ∧ (∀ h c t4 t3 o, (delayMeasured h c t4 t3 o).Holds) ∧
  (∀ h c t4 t3 o, (delayNegative h c t4 t3 o).Holds) ∧ (∀ h, (delayAnswered h).Holds) ∧ (∀ h, (delayUnanswered h).Holds) ∧
  (∀ h a, (announceHeard h a).Holds) ∧ (∀ h a, (announceSelects h a).Holds) ∧ (∀ h a, (announceOutOfSequence h a).Holds) ∧
  syncSent.Holds ∧ announceSent.Holds ∧ delayAsked.Holds ∧ masterLost.Holds ∧ masterLostAside.Holds ∧ masterNone.Holds ∧
  portLeads.Holds

/-- Time sources, steps of device time and clocks (R36, R294, R296, R299, R306 to R310, R445, R522). -/
def Obligations.TimeAndClocksMove : Prop :=
  pulseMeasures.Holds ∧ pulseStamped.Holds ∧ (∀ key, (blockMeasures key).Holds) ∧ sourceLost.Holds ∧ sourceLossWaits.Holds ∧ (∀ st, (stepTaken st).Holds) ∧
  referenceLost.Holds ∧ referenceBack.Holds ∧ (∀ p, (counterPllLost p).Holds) ∧ (∀ p d, (pllLost p d).Holds) ∧
  (∀ m i, (wordClockSwitches m i).Holds) ∧ (∀ on width, (secondPulses on width).Holds) ∧ (∀ on width, (secondSilent on width).Holds)

/-- The MACs and the media streams (R316 to R319, R320 to R326, R330 to R336, R338 to R340, Tables 11-1, 11-3 and 11-5). -/
def Obligations.NetworkFramesMove : Prop :=
  (∀ m f fill i is, (frameDefective m f fill i is).Holds) ∧ (∀ m f fill, (frameOtherVlan m f fill).Holds) ∧
  (∀ m r f fill, (frameToRing m r f fill).Holds) ∧ (∀ m f fill c i, (frameToConsumer m f fill c i).Holds) ∧
  (∀ m n, (pauseTaken m n).Holds) ∧ (∀ m n, (pauseIgnored m n).Holds) ∧ (∀ m till, (holdEnds m till).Holds) ∧
  (∀ m fill, (pauseAgain m fill).Holds) ∧ (∀ m q f rest, (frameStarts m q f rest).Holds) ∧ (∀ m n, (pauseStarts m n).Holds) ∧
  (∀ m q start f, (frameLeaves m q start f).Holds) ∧
  (∀ m q start r octets queued tag ds, (ringFrameLeaves m q start r octets queued tag ds).Holds) ∧
  (∀ m q start x octets queued tag, (mediaFrameLeaves m q start x octets queued tag).Holds) ∧
  (∀ m q start f, (frameAborted m q start f).Holds) ∧ (∀ m, (lateDropped m).Holds) ∧
  (∀ m hiber, (linkRises m hiber).Holds) ∧ (∀ m hiber, (linkFalls m hiber).Holds) ∧ (∀ m i r x, (packetTaken m i r x).Holds) ∧
  (∀ m i r x, (packetRepeated m i r x).Holds) ∧ (∀ m i r x, (packetBad m i r x).Holds) ∧ (∀ i x, (streamFalls i x).Holds) ∧
  (∀ i x, (streamStays i x).Holds)

/-- The Zenel ports (R345 to R364, Table 12-3): frames refused, ended, forwarded and launched, lock lost and gained, heads and roots, and link words. -/
def Obligations.ZenPortsAct : Prop :=
  (∀ p f ok hiber, (zenFrameRefused p f ok hiber).Holds) ∧ (∀ p r f ok hiber, (zenFrameEnds p r f ok hiber).Holds) ∧
  (∀ p r f ok hiber, (zenFrameForwarded p r f ok hiber).Holds) ∧ (∀ p r f ok hiber, (zenFrameHeaded p r f ok hiber).Holds) ∧ zenRootLaunches.Holds ∧
  zenBranchLaunches.Holds ∧ (∀ p r, (zenLockLost p r).Holds) ∧ (∀ p l, (zenBranchLost p l).Holds) ∧
  (∀ p r, (zenFramesMissing p r).Holds) ∧ zenBecomesRoot.Holds ∧ zenStopsRoot.Holds ∧
  (∀ p x, (zenNeighbour p x).Holds) ∧ (∀ p x, (zenMiscabled p x).Holds) ∧
  (∀ p, (zenLockGained p).Holds)

/-- The lease (R376 to R382, Tables 13-3, 13-4 and 13-9): renewals and acknowledgements, self-fencing, silence and claims, and the ALIVE lines. -/
def Obligations.LeaseIsKept : Prop :=
  renewalSent.Holds ∧ (∀ w, (pulseRenews w).Holds) ∧ (∀ w, (pulseAcknowledges w).Holds) ∧ (∀ w, (pulseStale w).Holds) ∧
  selfFenced.Holds ∧ partnerLost.Holds ∧ silenceClaims.Holds ∧ silenceAlarms.Holds ∧ silenceFirstClaim.Holds ∧ silenceDelays.Holds ∧
  (∀ due, (roleClaims due).Holds) ∧ aliveStops.Holds ∧ aliveRuns.Holds ∧ aliveToggles.Holds

/-- The fence and planned handovers (R372, R383, R385, R402), and the mirror's readiness and signatures missed (R389, R390, R396). -/
def Obligations.HandoversRun : Prop :=
  (∀ h, (fenceSwitches h).Holds) ∧ (∀ h x, (handoverGiven h x).Holds) ∧ (∀ h b e, (handoverTaken h b e).Holds) ∧
  (∀ h e urgent, (handoverAnswered h e urgent).Holds) ∧ (∀ h e urgent, (handoverStale h e urgent).Holds) ∧ (∀ x, (hackCommits x).Holds) ∧
  (∀ b e, (commitTaken b e).Holds) ∧ (∀ b e, (cancelTaken b e).Holds) ∧ (∀ x, (handoverFails x).Holds) ∧
  (∀ since, (takebackStarts since).Holds) ∧ (∀ force, (fencedOnRequest force).Holds) ∧ fenceRefused.Holds ∧ detachHolds.Holds ∧
  (∀ k, (mirrorRuns k).Holds) ∧ (∀ k, (mirrorFalls k).Holds) ∧ (∀ k own, (signatureMissed k own).Holds)

/-- The Twin Link and joins (R386 to R389, R393 to R400, R422 to R424): frames launched and heard, relay sections, lost lock, and the phases of a join. -/
def Obligations.TwinLinkAndJoinsRun : Prop :=
  twinLaunches.Holds ∧ (∀ f, (twinFrameHeard f).Holds) ∧ (∀ f x, (twinFrameSigned f x).Holds) ∧ (∀ f, (twinFrameBad f).Holds) ∧
  (∀ x, (sectionTaken x).Holds) ∧ (∀ x n, (sectionRepeated x n).Holds) ∧ (∀ x n, (sectionGap x n).Holds) ∧ (∀ g, (gapExpires g).Holds) ∧
  twinLockLost.Holds ∧ (∀ d, (twinLockGained d).Holds) ∧ joinStarts.Holds ∧ (∀ due, (joinAgain due).Holds) ∧
  (∀ x ok c, (blockKept x ok c).Holds) ∧ (∀ x c, (copyCommitted x c).Holds) ∧ (∀ x c, (copyRejected x c).Holds) ∧ catchupEnds.Holds ∧
  healEnds.Holds

/-- Reset sources (R448, R501, R513 to R519, R523, R528, R529): what asserts, holds, joins and releases a reset, and the idle requests before it. -/
def Obligations.ResetSourcesAct : Prop :=
  coldAsserted.Holds ∧ warmAsserted.Holds ∧ warmJoins.Holds ∧ (∀ b, (supplyResets b).Holds) ∧ (∀ c x, (releaseStarts c x).Holds) ∧
  (∀ c x, (stillReset c x).Holds) ∧ (∀ x, (powerOnEnds x).Holds) ∧ watchdogResets.Holds ∧ (∀ x, (scopeWarm x).Holds) ∧
  (∀ x, (scopeDomain x).Holds) ∧ (∀ i x y, (idleResets i x y).Holds) ∧ (∀ i x y, (idleResetsShortly i x y).Holds) ∧ (∀ i x, (idleReported i x).Holds) ∧
  (∀ i x, (idleExpires i x).Holds)

/-- Power domains, the release sequence, supplies and temperature (R26, R520, R521, R523, R530 to R532, R535, R549, Table 18-4). -/
def Obligations.ReleaseAndSuppliesAct : Prop :=
  (∀ d, (domainOn d).Holds) ∧ (∀ d, (domainOff d).Holds) ∧ (∀ c, (clockReleases c).Holds) ∧ (∀ c, (clockBack c).Holds) ∧
  (∀ c, (clockLate c).Holds) ∧ (∀ c, (clockMissed c).Holds) ∧ becomesReady.Holds ∧ (∀ rail mv, (supplyWarns rail mv).Holds) ∧
  (∀ rail low b, (supplyRecovers rail low b).Holds) ∧ (∀ temp, (thermRises temp).Holds) ∧ (∀ temp, (thermFalls temp).Holds)

/-- The rows of the release sequence, of the domains and of the supplies complete (R520, R521, R531, R532, R535, Table 18-4): at their moment t,
in every state `s.atTime t` that meets the conditions on it, exec answers a next state `v.settle`, and `v` shows what the row is there for.
CLOCK_GOOD_ASSERT of clock c; CLOCK_GOOD_TIMEOUT 2 ms after the step that waits on it; READY_ENTRY from BOOT; DOMAIN_POWER_DONE of domain d, on or
off as RPC_PDREQ asks; SUPPLY_WARNING and SUPPLY_RECOVERY of a rail. -/
def Obligations.ReleaseRowsComplete : Prop :=
  ∀ (t : Nat) (s u : State), u = s.atTime t →
    (∀ c < 29, u.clockGood c = false → (c ≠ 5 ∨ u.tu.raw = 0) →
      bitOf (u.reg rRpcHeld) c = true ∨ u.run ≠ .loading ∧ u.run ≠ .boot ∧ u.rpc.sources = [] ∧ u.rpc.waits = [] →
      exec (.clockGoodAssert t c) s = .next (u.putClock c true).settle) ∧
    (∀ c < 29, u.clockGood c = false → (c ≠ 5 ∨ u.tu.raw = 0) → bitOf (u.reg rRpcHeld) c = false → u.run = .loading →
      exec (.clockGoodAssert t c) s = .next (u.putClock c true).release.settle) ∧
    (∀ c < 29, u.clockGood c = false → u.run = .loading ∨ u.run = .boot → u.releasing = true → bitOf (u.reg rRpcHeld) c = false →
      u.rpc.stepAt + ticksOfMs 2 ≤ u.now → ∃ v : State, exec (.clockGoodTimeout t c) s = .next v.settle ∧ bitOf (v.reg rRpcHeld) c = true ∧
        v.run = u.run ∧ v.pd = u.pd) ∧
    (u.run = .boot → u.releasing = true →
      ∃ v : State, exec (.readyEntry t) s = .next v.settle ∧ v.run = .ready ∧ (v.chan 8).enabled = true ∧ v.rpc.waits = []) ∧
    (∀ d < 16, u.rpc.busy.testBit d = true → (u.rpc.idle.any fun x => x.domains.contains d) = false →
      bitOf (u.reg rRpcPdreq) d = false ∨ u.domainClocked d = true ∧ u.domainHeld d = false →
      ∃ v : State, exec (.domainPowerDone t d) s = .next v.settle ∧ v.rpc.busy.testBit d = false) ∧
    (∀ rail < 2, ∀ mv, u.rpc.warned rail = false →
      ∃ v : State, exec (.supplyWarning t rail mv) s = .next v.settle ∧ v.rpc.warned rail = true) ∧
    (∀ rail low, u.rpc.warned rail = true → ∃ v : State, exec (.supplyRecovery t rail low) s = .next v.settle ∧ v.rpc.warned rail = false)

/-- Polders, the bus matrix, the DRAM and snapshots (R445, R456, R457, R492, R494, R499, R500, R507 to R510). -/
def Obligations.BusAndDramAct : Prop :=
  (∀ p, (polderOn p).Holds) ∧ (∀ off m, (scrubClean off m).Holds) ∧ (∀ off m, (scrubCorrects off m).Holds) ∧
  (∀ off m, (scrubHalts off m).Holds) ∧ (∀ off, (scrubFinds off).Holds) ∧ (∀ off, (scrubReadsOnes off).Holds) ∧ (∀ m id addr, (busHangs m id addr).Holds) ∧
  (∀ m id, (busLate m id).Holds) ∧ (∀ c n, (dramRefreshes c n).Holds) ∧ (∀ rates, (dramPolled rates).Holds) ∧
  (∀ rates, (dramFails rates).Holds) ∧ (∀ c, (dramRests c).Holds) ∧ (∀ c, (dramStaysUp c).Holds) ∧
  (∀ c since, (dramWakes c since).Holds) ∧ (∀ x, (oppointHolds x).Holds) ∧ (∀ x, (oppointDone x).Holds) ∧ (∀ x b, (saveStored x b).Holds)

end
end

