-- ==== Sys2Proof/Laws/Maps.lean ====
section
/-! SUPPORT. Laws of finite maps and of the keep SRAM: reading after writing, and the canonical form. -/
namespace Sys2Proof

@[simp] theorem AMap.find_put_same {α : Type} (m : AMap α) (i : Nat) (v : α) : AMap.find (AMap.put m i v) i = some v := by
  induction m with
  | nil => simp [AMap.put, AMap.find]
  | cons x m ih =>
    obtain ⟨k, w⟩ := x
    simp only [AMap.put]
    split
    · simp [AMap.find]
    · split
      · simp [AMap.find]
      · rename_i h
        simp [AMap.find, Ne.symm h, ih]

theorem AMap.find_put_other {α : Type} (m : AMap α) {i j : Nat} (v : α) (h : j ≠ i) : AMap.find (AMap.put m i v) j = AMap.find m j := by
  induction m with
  | nil => simp [AMap.put, AMap.find, Ne.symm h]
  | cons x m ih =>
    obtain ⟨k, w⟩ := x
    simp only [AMap.put]
    split
    · simp [AMap.find, Ne.symm h]
    · split
      · rename_i e
        subst e
        simp [AMap.find, Ne.symm h]
      · simp [AMap.find, ih]

@[simp] theorem AMap.getD_put_same {α : Type} (m : AMap α) (i : Nat) (v d : α) : AMap.getD (AMap.put m i v) i d = v := by simp [AMap.getD]

theorem AMap.getD_put_other {α : Type} (m : AMap α) {i j : Nat} (v d : α) (h : j ≠ i) : AMap.getD (AMap.put m i v) j d = AMap.getD m j d := by
  simp [AMap.getD, AMap.find_put_other m v h]

namespace Machine

theorem keepRises_mono {a b : Nat} (h : a ≤ b) (m : List Host.Cell) (hm : keepRises b m = true) : keepRises a m = true := by
  cases m with
  | nil => rfl
  | cons x m => simp only [keepRises, Bool.and_eq_true, decide_eq_true_eq] at hm ⊢; exact ⟨⟨by omega, hm.1.2⟩, hm.2⟩

theorem keepRises_filter {b : Nat} (m : List Host.Cell) (f : Host.Cell → Bool) (h : keepRises b m = true) : keepRises b (m.filter f) = true := by
  induction m generalizing b with
  | nil => rfl
  | cons x m ih =>
    obtain ⟨k, w⟩ := x
    simp only [keepRises, Bool.and_eq_true, decide_eq_true_eq] at h
    rw [List.filter_cons]
    split
    · simp only [keepRises, Bool.and_eq_true, decide_eq_true_eq]; exact ⟨h.1, ih h.2⟩
    · exact ih (keepRises_mono (by omega) m h.2)

theorem keepRises_enter {a b : Nat} (m : List Host.Cell) (v : Byte) (h : keepRises b m = true) (hb : b ≤ a) (hv : v ≠ 0)
    (hm : ∀ c ∈ m, c.1 ≠ a) : keepRises b (keepEnter m a v) = true := by
  induction m generalizing b with
  | nil => simp only [keepEnter, keepRises, Bool.and_eq_true, decide_eq_true_eq]; exact ⟨⟨hb, hv⟩, trivial⟩
  | cons x m ih =>
    obtain ⟨k, w⟩ := x
    have hk : k ≠ a := hm (k, w) (by simp)
    simp only [keepRises, Bool.and_eq_true, decide_eq_true_eq] at h
    simp only [keepEnter]
    split <;> simp only [keepRises, Bool.and_eq_true, decide_eq_true_eq]
    · exact ⟨⟨hb, hv⟩, ⟨by omega, h.1.2⟩, h.2⟩
    · exact ⟨h.1, ih h.2 (by omega) fun c hc => hm c (by simp [hc])⟩

theorem keepRises_put {a b : Nat} (m : List Host.Cell) (v : Byte) (h : keepRises b m = true) (hb : b ≤ a) : keepRises b (keepPut m a v) = true := by
  simp only [keepPut]
  split
  · exact keepRises_filter m _ h
  · exact keepRises_enter _ v (keepRises_filter m _ h) hb (by assumption) fun c hc => by simpa using (List.mem_filter.mp hc).2

/-- A write of an octet keeps the canonical form. -/
theorem keepWf_put (m : List Host.Cell) (a : Nat) (v : Byte) (h : keepWf m = true) : keepWf (keepPut m a v) = true :=
  keepRises_put m v h (Nat.zero_le a)

/-- A write of a word keeps the canonical form. -/
theorem keepWf_putWord (m : List Host.Cell) (a : Nat) (w : Word) (h : keepWf m = true) : keepWf (keepPutWord m a w) = true :=
  keepWf_put _ _ _ (keepWf_put _ _ _ (keepWf_put _ _ _ (keepWf_put _ _ _ h)))

/-- A write of words keeps the canonical form. -/
theorem keepWf_putWords (m : List Host.Cell) (a : Nat) (ws : List Word) (h : keepWf m = true) : keepWf (keepPutWords m a ws) = true := by
  induction ws generalizing m a with
  | nil => exact h
  | cons w ws ih => exact ih _ _ (keepWf_putWord m a w h)

theorem keepByte_none (m : List Host.Cell) (a : Nat) (h : ∀ c ∈ m, c.1 ≠ a) : keepByte m a = 0 := by
  induction m with
  | nil => rfl
  | cons x m ih =>
    have hx : x.1 ≠ a := h x (by simp)
    simp only [keepByte, hx, if_false]
    exact ih fun c hc => h c (by simp [hc])

theorem keepByte_enter_same (m : List Host.Cell) (a : Nat) (v : Byte) (h : ∀ c ∈ m, c.1 ≠ a) : keepByte (keepEnter m a v) a = v := by
  induction m with
  | nil => simp [keepEnter, keepByte]
  | cons x m ih =>
    have hx : x.1 ≠ a := h x (by simp)
    simp only [keepEnter]
    split
    · simp [keepByte]
    · simp only [keepByte, hx, if_false]; exact ih fun c hc => h c (by simp [hc])

theorem keepByte_enter_other (m : List Host.Cell) {a c : Nat} (v : Byte) (hc : c ≠ a) : keepByte (keepEnter m a v) c = keepByte m c := by
  induction m with
  | nil => simp [keepEnter, keepByte, Ne.symm hc]
  | cons x m ih =>
    simp only [keepEnter]
    split
    · simp [keepByte, Ne.symm hc]
    · simp only [keepByte, ih]

theorem keepByte_filter_other (m : List Host.Cell) {a c : Nat} (hc : c ≠ a) : keepByte (m.filter fun x => !decide (x.1 = a)) c = keepByte m c := by
  induction m with
  | nil => rfl
  | cons x m ih =>
    obtain ⟨k, w⟩ := x
    rw [List.filter_cons]
    split
    · simp only [keepByte, ih]
    · rename_i hx
      have hk : k = a := by simpa using hx
      have : k ≠ c := by omega
      simp only [keepByte, this, if_false, ih]

/-- An octet written reads back. -/
theorem keepByte_put_same (m : List Host.Cell) (a : Nat) (v : Byte) : keepByte (keepPut m a v) a = v := by
  have h : ∀ c ∈ m.filter fun x => !decide (x.1 = a), c.1 ≠ a := fun c hc => by simpa using (List.mem_filter.mp hc).2
  simp only [keepPut]
  split
  · rename_i e; rw [e]; exact keepByte_none _ a h
  · exact keepByte_enter_same _ a v h

/-- A write leaves every other octet as it was. -/
theorem keepByte_put_other (m : List Host.Cell) {a c : Nat} (v : Byte) (hc : c ≠ a) : keepByte (keepPut m a v) c = keepByte m c := by
  simp only [keepPut]
  split
  · exact keepByte_filter_other m hc
  · rw [keepByte_enter_other _ v hc, keepByte_filter_other m hc]

end Machine
end Sys2Proof
end

