-- ==== Sys2Proof/Laws/State.lean ====
section
/-! SUPPORT. What each update of the state leaves alone: one lemma for each field and update. -/
namespace Sys2Proof.Machine

/-! The passing of environment time -/

@[simp] theorem State.atTime_free (s : State) (t : Nat) : (s.atTime t).free = s.free := rfl
@[simp] theorem State.atTime_run (s : State) (t : Nat) : (s.atTime t).run = s.run := rfl
@[simp] theorem State.atTime_halt (s : State) (t : Nat) : (s.atTime t).halt = s.halt := rfl
@[simp] theorem State.atTime_rate (s : State) (t : Nat) : (s.atTime t).rate = s.rate := rfl
@[simp] theorem State.atTime_logQ (s : State) (t : Nat) : (s.atTime t).logQ = s.logQ := rfl
@[simp] theorem State.atTime_regs (s : State) (t : Nat) : (s.atTime t).regs = s.regs := rfl
@[simp] theorem State.atTime_chans (s : State) (t : Nat) : (s.atTime t).chans = s.chans := rfl
@[simp] theorem State.atTime_log (s : State) (t : Nat) : (s.atTime t).log = s.log := rfl
@[simp] theorem State.atTime_runs (s : State) (t : Nat) : (s.atTime t).runs = s.runs := rfl
@[simp] theorem State.atTime_counters (s : State) (t : Nat) : (s.atTime t).counters = s.counters := rfl
@[simp] theorem State.atTime_changes (s : State) (t : Nat) : (s.atTime t).changes = s.changes := rfl
@[simp] theorem State.atTime_nextOrder (s : State) (t : Nat) : (s.atTime t).nextOrder = s.nextOrder := rfl
@[simp] theorem State.atTime_subs (s : State) (t : Nat) : (s.atTime t).subs = s.subs := rfl
@[simp] theorem State.atTime_fw (s : State) (t : Nat) : (s.atTime t).fw = s.fw := rfl
@[simp] theorem State.atTime_board (s : State) (t : Nat) : (s.atTime t).board = s.board := rfl
@[simp] theorem State.atTime_handles (s : State) (t : Nat) : (s.atTime t).handles = s.handles := rfl
@[simp] theorem State.atTime_keep (s : State) (t : Nat) : (s.atTime t).keep = s.keep := rfl
@[simp] theorem State.atTime_keepCrc (s : State) (t : Nat) : (s.atTime t).keepCrc = s.keepCrc := rfl
@[simp] theorem State.atTime_keepOk (s : State) (t : Nat) : (s.atTime t).keepOk = s.keepOk := rfl
@[simp] theorem State.atTime_keepDue (s : State) (t : Nat) : (s.atTime t).keepDue = s.keepDue := rfl
@[simp] theorem State.atTime_pd (s : State) (t : Nat) : (s.atTime t).pd = s.pd := rfl
@[simp] theorem State.atTime_load (s : State) (t : Nat) : (s.atTime t).load = s.load := rfl
@[simp] theorem State.atTime_dramOn (s : State) (t : Nat) : (s.atTime t).dramOn = s.dramOn := rfl
@[simp] theorem State.atTime_dram (s : State) (t : Nat) : (s.atTime t).dram = s.dram := rfl
@[simp] theorem State.atTime_mem (s : State) (t : Nat) : (s.atTime t).mem = s.mem := rfl
@[simp] theorem State.atTime_build (s : State) (t : Nat) : (s.atTime t).build = s.build := rfl
@[simp] theorem State.atTime_cfg (s : State) (t : Nat) : (s.atTime t).cfg = s.cfg := rfl
@[simp] theorem State.atTime_audio (s : State) (t : Nat) : (s.atTime t).audio = s.audio := rfl
@[simp] theorem State.atTime_pcie (s : State) (t : Nat) : (s.atTime t).pcie = s.pcie := rfl
@[simp] theorem State.atTime_sap (s : State) (t : Nat) : (s.atTime t).sap = s.sap := rfl
@[simp] theorem State.atTime_net (s : State) (t : Nat) : (s.atTime t).net = s.net := rfl
@[simp] theorem State.atTime_zen (s : State) (t : Nat) : (s.atTime t).zen = s.zen := rfl
@[simp] theorem State.atTime_twin (s : State) (t : Nat) : (s.atTime t).twin = s.twin := rfl
@[simp] theorem State.atTime_pendReset (s : State) (t : Nat) : (s.atTime t).pendReset = s.pendReset := rfl
@[simp] theorem State.atTime_rpc (s : State) (t : Nat) : (s.atTime t).rpc = s.rpc := rfl
@[simp] theorem State.atTime_served (s : State) (t : Nat) : (s.atTime t).served = s.served := rfl
@[simp] theorem State.atTime_spi (s : State) (t : Nat) : (s.atTime t).spi = s.spi := rfl
@[simp] theorem State.atTime_posted (s : State) (t : Nat) : (s.atTime t).posted = s.posted := rfl
@[simp] theorem State.atTime_read (s : State) (t : Nat) : (s.atTime t).read = s.read := rfl
@[simp] theorem State.atTime_msixEnable (s : State) (t : Nat) : (s.atTime t).msixEnable = s.msixEnable := rfl
@[simp] theorem State.atTime_msixMask (s : State) (t : Nat) : (s.atTime t).msixMask = s.msixMask := rfl
@[simp] theorem State.atTime_messages (s : State) (t : Nat) : (s.atTime t).messages = s.messages := rfl
@[simp] theorem State.atTime_pending (s : State) (t : Nat) : (s.atTime t).pending = s.pending := rfl

/-! Storing a register -/

@[simp] theorem State.setReg_now (s : State) (a : Nat) (v : Word) : (s.setReg a v).now = s.now := rfl
@[simp] theorem State.setReg_free (s : State) (a : Nat) (v : Word) : (s.setReg a v).free = s.free := rfl
@[simp] theorem State.setReg_run (s : State) (a : Nat) (v : Word) : (s.setReg a v).run = s.run := rfl
@[simp] theorem State.setReg_halt (s : State) (a : Nat) (v : Word) : (s.setReg a v).halt = s.halt := rfl
@[simp] theorem State.setReg_rate (s : State) (a : Nat) (v : Word) : (s.setReg a v).rate = s.rate := rfl
@[simp] theorem State.setReg_logQ (s : State) (a : Nat) (v : Word) : (s.setReg a v).logQ = s.logQ := rfl
@[simp] theorem State.setReg_tu (s : State) (a : Nat) (v : Word) : (s.setReg a v).tu = s.tu := rfl
@[simp] theorem State.setReg_chans (s : State) (a : Nat) (v : Word) : (s.setReg a v).chans = s.chans := rfl
@[simp] theorem State.setReg_log (s : State) (a : Nat) (v : Word) : (s.setReg a v).log = s.log := rfl
@[simp] theorem State.setReg_runs (s : State) (a : Nat) (v : Word) : (s.setReg a v).runs = s.runs := rfl
@[simp] theorem State.setReg_counters (s : State) (a : Nat) (v : Word) : (s.setReg a v).counters = s.counters := rfl
@[simp] theorem State.setReg_changes (s : State) (a : Nat) (v : Word) : (s.setReg a v).changes = s.changes := rfl
@[simp] theorem State.setReg_nextOrder (s : State) (a : Nat) (v : Word) : (s.setReg a v).nextOrder = s.nextOrder := rfl
@[simp] theorem State.setReg_subs (s : State) (a : Nat) (v : Word) : (s.setReg a v).subs = s.subs := rfl
@[simp] theorem State.setReg_fw (s : State) (a : Nat) (v : Word) : (s.setReg a v).fw = s.fw := rfl
@[simp] theorem State.setReg_board (s : State) (a : Nat) (v : Word) : (s.setReg a v).board = s.board := rfl
@[simp] theorem State.setReg_handles (s : State) (a : Nat) (v : Word) : (s.setReg a v).handles = s.handles := rfl
@[simp] theorem State.setReg_keep (s : State) (a : Nat) (v : Word) : (s.setReg a v).keep = s.keep := rfl
@[simp] theorem State.setReg_keepCrc (s : State) (a : Nat) (v : Word) : (s.setReg a v).keepCrc = s.keepCrc := rfl
@[simp] theorem State.setReg_keepOk (s : State) (a : Nat) (v : Word) : (s.setReg a v).keepOk = s.keepOk := rfl
@[simp] theorem State.setReg_keepDue (s : State) (a : Nat) (v : Word) : (s.setReg a v).keepDue = s.keepDue := rfl
@[simp] theorem State.setReg_pd (s : State) (a : Nat) (v : Word) : (s.setReg a v).pd = s.pd := rfl
@[simp] theorem State.setReg_load (s : State) (a : Nat) (v : Word) : (s.setReg a v).load = s.load := rfl
@[simp] theorem State.setReg_dramOn (s : State) (a : Nat) (v : Word) : (s.setReg a v).dramOn = s.dramOn := rfl
@[simp] theorem State.setReg_dram (s : State) (a : Nat) (v : Word) : (s.setReg a v).dram = s.dram := rfl
@[simp] theorem State.setReg_mem (s : State) (a : Nat) (v : Word) : (s.setReg a v).mem = s.mem := rfl
@[simp] theorem State.setReg_build (s : State) (a : Nat) (v : Word) : (s.setReg a v).build = s.build := rfl
@[simp] theorem State.setReg_cfg (s : State) (a : Nat) (v : Word) : (s.setReg a v).cfg = s.cfg := rfl
@[simp] theorem State.setReg_audio (s : State) (a : Nat) (v : Word) : (s.setReg a v).audio = s.audio := rfl
@[simp] theorem State.setReg_pcie (s : State) (a : Nat) (v : Word) : (s.setReg a v).pcie = s.pcie := rfl
@[simp] theorem State.setReg_sap (s : State) (a : Nat) (v : Word) : (s.setReg a v).sap = s.sap := rfl
@[simp] theorem State.setReg_net (s : State) (a : Nat) (v : Word) : (s.setReg a v).net = s.net := rfl
@[simp] theorem State.setReg_zen (s : State) (a : Nat) (v : Word) : (s.setReg a v).zen = s.zen := rfl
@[simp] theorem State.setReg_twin (s : State) (a : Nat) (v : Word) : (s.setReg a v).twin = s.twin := rfl
@[simp] theorem State.setReg_pendReset (s : State) (a : Nat) (v : Word) : (s.setReg a v).pendReset = s.pendReset := rfl
@[simp] theorem State.setReg_rpc (s : State) (a : Nat) (v : Word) : (s.setReg a v).rpc = s.rpc := rfl
@[simp] theorem State.setReg_served (s : State) (a : Nat) (v : Word) : (s.setReg a v).served = s.served := rfl
@[simp] theorem State.setReg_spi (s : State) (a : Nat) (v : Word) : (s.setReg a v).spi = s.spi := rfl
@[simp] theorem State.setReg_posted (s : State) (a : Nat) (v : Word) : (s.setReg a v).posted = s.posted := rfl
@[simp] theorem State.setReg_read (s : State) (a : Nat) (v : Word) : (s.setReg a v).read = s.read := rfl
@[simp] theorem State.setReg_msixEnable (s : State) (a : Nat) (v : Word) : (s.setReg a v).msixEnable = s.msixEnable := rfl
@[simp] theorem State.setReg_msixMask (s : State) (a : Nat) (v : Word) : (s.setReg a v).msixMask = s.msixMask := rfl
@[simp] theorem State.setReg_messages (s : State) (a : Nat) (v : Word) : (s.setReg a v).messages = s.messages := rfl
@[simp] theorem State.setReg_pending (s : State) (a : Nat) (v : Word) : (s.setReg a v).pending = s.pending := rfl

/-! Setting bits of a register -/

@[simp] theorem State.orReg_now (s : State) (a m : Nat) : (s.orReg a m).now = s.now := rfl
@[simp] theorem State.orReg_free (s : State) (a m : Nat) : (s.orReg a m).free = s.free := rfl
@[simp] theorem State.orReg_run (s : State) (a m : Nat) : (s.orReg a m).run = s.run := rfl
@[simp] theorem State.orReg_halt (s : State) (a m : Nat) : (s.orReg a m).halt = s.halt := rfl
@[simp] theorem State.orReg_rate (s : State) (a m : Nat) : (s.orReg a m).rate = s.rate := rfl
@[simp] theorem State.orReg_logQ (s : State) (a m : Nat) : (s.orReg a m).logQ = s.logQ := rfl
@[simp] theorem State.orReg_tu (s : State) (a m : Nat) : (s.orReg a m).tu = s.tu := rfl
@[simp] theorem State.orReg_chans (s : State) (a m : Nat) : (s.orReg a m).chans = s.chans := rfl
@[simp] theorem State.orReg_log (s : State) (a m : Nat) : (s.orReg a m).log = s.log := rfl
@[simp] theorem State.orReg_runs (s : State) (a m : Nat) : (s.orReg a m).runs = s.runs := rfl
@[simp] theorem State.orReg_counters (s : State) (a m : Nat) : (s.orReg a m).counters = s.counters := rfl
@[simp] theorem State.orReg_changes (s : State) (a m : Nat) : (s.orReg a m).changes = s.changes := rfl
@[simp] theorem State.orReg_nextOrder (s : State) (a m : Nat) : (s.orReg a m).nextOrder = s.nextOrder := rfl
@[simp] theorem State.orReg_subs (s : State) (a m : Nat) : (s.orReg a m).subs = s.subs := rfl
@[simp] theorem State.orReg_fw (s : State) (a m : Nat) : (s.orReg a m).fw = s.fw := rfl
@[simp] theorem State.orReg_board (s : State) (a m : Nat) : (s.orReg a m).board = s.board := rfl
@[simp] theorem State.orReg_handles (s : State) (a m : Nat) : (s.orReg a m).handles = s.handles := rfl
@[simp] theorem State.orReg_keep (s : State) (a m : Nat) : (s.orReg a m).keep = s.keep := rfl
@[simp] theorem State.orReg_keepCrc (s : State) (a m : Nat) : (s.orReg a m).keepCrc = s.keepCrc := rfl
@[simp] theorem State.orReg_keepOk (s : State) (a m : Nat) : (s.orReg a m).keepOk = s.keepOk := rfl
@[simp] theorem State.orReg_keepDue (s : State) (a m : Nat) : (s.orReg a m).keepDue = s.keepDue := rfl
@[simp] theorem State.orReg_pd (s : State) (a m : Nat) : (s.orReg a m).pd = s.pd := rfl
@[simp] theorem State.orReg_load (s : State) (a m : Nat) : (s.orReg a m).load = s.load := rfl
@[simp] theorem State.orReg_dramOn (s : State) (a m : Nat) : (s.orReg a m).dramOn = s.dramOn := rfl
@[simp] theorem State.orReg_dram (s : State) (a m : Nat) : (s.orReg a m).dram = s.dram := rfl
@[simp] theorem State.orReg_mem (s : State) (a m : Nat) : (s.orReg a m).mem = s.mem := rfl
@[simp] theorem State.orReg_build (s : State) (a m : Nat) : (s.orReg a m).build = s.build := rfl
@[simp] theorem State.orReg_cfg (s : State) (a m : Nat) : (s.orReg a m).cfg = s.cfg := rfl
@[simp] theorem State.orReg_audio (s : State) (a m : Nat) : (s.orReg a m).audio = s.audio := rfl
@[simp] theorem State.orReg_pcie (s : State) (a m : Nat) : (s.orReg a m).pcie = s.pcie := rfl
@[simp] theorem State.orReg_sap (s : State) (a m : Nat) : (s.orReg a m).sap = s.sap := rfl
@[simp] theorem State.orReg_net (s : State) (a m : Nat) : (s.orReg a m).net = s.net := rfl
@[simp] theorem State.orReg_zen (s : State) (a m : Nat) : (s.orReg a m).zen = s.zen := rfl
@[simp] theorem State.orReg_twin (s : State) (a m : Nat) : (s.orReg a m).twin = s.twin := rfl
@[simp] theorem State.orReg_pendReset (s : State) (a m : Nat) : (s.orReg a m).pendReset = s.pendReset := rfl
@[simp] theorem State.orReg_rpc (s : State) (a m : Nat) : (s.orReg a m).rpc = s.rpc := rfl
@[simp] theorem State.orReg_served (s : State) (a m : Nat) : (s.orReg a m).served = s.served := rfl
@[simp] theorem State.orReg_spi (s : State) (a m : Nat) : (s.orReg a m).spi = s.spi := rfl
@[simp] theorem State.orReg_posted (s : State) (a m : Nat) : (s.orReg a m).posted = s.posted := rfl
@[simp] theorem State.orReg_read (s : State) (a m : Nat) : (s.orReg a m).read = s.read := rfl
@[simp] theorem State.orReg_msixEnable (s : State) (a m : Nat) : (s.orReg a m).msixEnable = s.msixEnable := rfl
@[simp] theorem State.orReg_msixMask (s : State) (a m : Nat) : (s.orReg a m).msixMask = s.msixMask := rfl
@[simp] theorem State.orReg_messages (s : State) (a m : Nat) : (s.orReg a m).messages = s.messages := rfl
@[simp] theorem State.orReg_pending (s : State) (a m : Nat) : (s.orReg a m).pending = s.pending := rfl

/-! Clearing bits of a register -/

@[simp] theorem State.clrReg_now (s : State) (a m : Nat) : (s.clrReg a m).now = s.now := rfl
@[simp] theorem State.clrReg_free (s : State) (a m : Nat) : (s.clrReg a m).free = s.free := rfl
@[simp] theorem State.clrReg_run (s : State) (a m : Nat) : (s.clrReg a m).run = s.run := rfl
@[simp] theorem State.clrReg_halt (s : State) (a m : Nat) : (s.clrReg a m).halt = s.halt := rfl
@[simp] theorem State.clrReg_rate (s : State) (a m : Nat) : (s.clrReg a m).rate = s.rate := rfl
@[simp] theorem State.clrReg_logQ (s : State) (a m : Nat) : (s.clrReg a m).logQ = s.logQ := rfl
@[simp] theorem State.clrReg_tu (s : State) (a m : Nat) : (s.clrReg a m).tu = s.tu := rfl
@[simp] theorem State.clrReg_chans (s : State) (a m : Nat) : (s.clrReg a m).chans = s.chans := rfl
@[simp] theorem State.clrReg_log (s : State) (a m : Nat) : (s.clrReg a m).log = s.log := rfl
@[simp] theorem State.clrReg_runs (s : State) (a m : Nat) : (s.clrReg a m).runs = s.runs := rfl
@[simp] theorem State.clrReg_counters (s : State) (a m : Nat) : (s.clrReg a m).counters = s.counters := rfl
@[simp] theorem State.clrReg_changes (s : State) (a m : Nat) : (s.clrReg a m).changes = s.changes := rfl
@[simp] theorem State.clrReg_nextOrder (s : State) (a m : Nat) : (s.clrReg a m).nextOrder = s.nextOrder := rfl
@[simp] theorem State.clrReg_subs (s : State) (a m : Nat) : (s.clrReg a m).subs = s.subs := rfl
@[simp] theorem State.clrReg_fw (s : State) (a m : Nat) : (s.clrReg a m).fw = s.fw := rfl
@[simp] theorem State.clrReg_board (s : State) (a m : Nat) : (s.clrReg a m).board = s.board := rfl
@[simp] theorem State.clrReg_handles (s : State) (a m : Nat) : (s.clrReg a m).handles = s.handles := rfl
@[simp] theorem State.clrReg_keep (s : State) (a m : Nat) : (s.clrReg a m).keep = s.keep := rfl
@[simp] theorem State.clrReg_keepCrc (s : State) (a m : Nat) : (s.clrReg a m).keepCrc = s.keepCrc := rfl
@[simp] theorem State.clrReg_keepOk (s : State) (a m : Nat) : (s.clrReg a m).keepOk = s.keepOk := rfl
@[simp] theorem State.clrReg_keepDue (s : State) (a m : Nat) : (s.clrReg a m).keepDue = s.keepDue := rfl
@[simp] theorem State.clrReg_pd (s : State) (a m : Nat) : (s.clrReg a m).pd = s.pd := rfl
@[simp] theorem State.clrReg_load (s : State) (a m : Nat) : (s.clrReg a m).load = s.load := rfl
@[simp] theorem State.clrReg_dramOn (s : State) (a m : Nat) : (s.clrReg a m).dramOn = s.dramOn := rfl
@[simp] theorem State.clrReg_dram (s : State) (a m : Nat) : (s.clrReg a m).dram = s.dram := rfl
@[simp] theorem State.clrReg_mem (s : State) (a m : Nat) : (s.clrReg a m).mem = s.mem := rfl
@[simp] theorem State.clrReg_build (s : State) (a m : Nat) : (s.clrReg a m).build = s.build := rfl
@[simp] theorem State.clrReg_cfg (s : State) (a m : Nat) : (s.clrReg a m).cfg = s.cfg := rfl
@[simp] theorem State.clrReg_audio (s : State) (a m : Nat) : (s.clrReg a m).audio = s.audio := rfl
@[simp] theorem State.clrReg_pcie (s : State) (a m : Nat) : (s.clrReg a m).pcie = s.pcie := rfl
@[simp] theorem State.clrReg_sap (s : State) (a m : Nat) : (s.clrReg a m).sap = s.sap := rfl
@[simp] theorem State.clrReg_net (s : State) (a m : Nat) : (s.clrReg a m).net = s.net := rfl
@[simp] theorem State.clrReg_zen (s : State) (a m : Nat) : (s.clrReg a m).zen = s.zen := rfl
@[simp] theorem State.clrReg_twin (s : State) (a m : Nat) : (s.clrReg a m).twin = s.twin := rfl
@[simp] theorem State.clrReg_pendReset (s : State) (a m : Nat) : (s.clrReg a m).pendReset = s.pendReset := rfl
@[simp] theorem State.clrReg_rpc (s : State) (a m : Nat) : (s.clrReg a m).rpc = s.rpc := rfl
@[simp] theorem State.clrReg_served (s : State) (a m : Nat) : (s.clrReg a m).served = s.served := rfl
@[simp] theorem State.clrReg_spi (s : State) (a m : Nat) : (s.clrReg a m).spi = s.spi := rfl
@[simp] theorem State.clrReg_posted (s : State) (a m : Nat) : (s.clrReg a m).posted = s.posted := rfl
@[simp] theorem State.clrReg_read (s : State) (a m : Nat) : (s.clrReg a m).read = s.read := rfl
@[simp] theorem State.clrReg_msixEnable (s : State) (a m : Nat) : (s.clrReg a m).msixEnable = s.msixEnable := rfl
@[simp] theorem State.clrReg_msixMask (s : State) (a m : Nat) : (s.clrReg a m).msixMask = s.msixMask := rfl
@[simp] theorem State.clrReg_messages (s : State) (a m : Nat) : (s.clrReg a m).messages = s.messages := rfl
@[simp] theorem State.clrReg_pending (s : State) (a m : Nat) : (s.clrReg a m).pending = s.pending := rfl

/-! Setting an event bit -/

@[simp] theorem State.setEvt_now (s : State) (a i : Nat) : (s.setEvt a i).now = s.now := rfl
@[simp] theorem State.setEvt_free (s : State) (a i : Nat) : (s.setEvt a i).free = s.free := rfl
@[simp] theorem State.setEvt_run (s : State) (a i : Nat) : (s.setEvt a i).run = s.run := rfl
@[simp] theorem State.setEvt_halt (s : State) (a i : Nat) : (s.setEvt a i).halt = s.halt := rfl
@[simp] theorem State.setEvt_rate (s : State) (a i : Nat) : (s.setEvt a i).rate = s.rate := rfl
@[simp] theorem State.setEvt_logQ (s : State) (a i : Nat) : (s.setEvt a i).logQ = s.logQ := rfl
@[simp] theorem State.setEvt_tu (s : State) (a i : Nat) : (s.setEvt a i).tu = s.tu := rfl
@[simp] theorem State.setEvt_chans (s : State) (a i : Nat) : (s.setEvt a i).chans = s.chans := rfl
@[simp] theorem State.setEvt_log (s : State) (a i : Nat) : (s.setEvt a i).log = s.log := rfl
@[simp] theorem State.setEvt_runs (s : State) (a i : Nat) : (s.setEvt a i).runs = s.runs := rfl
@[simp] theorem State.setEvt_counters (s : State) (a i : Nat) : (s.setEvt a i).counters = s.counters := rfl
@[simp] theorem State.setEvt_changes (s : State) (a i : Nat) : (s.setEvt a i).changes = s.changes := rfl
@[simp] theorem State.setEvt_nextOrder (s : State) (a i : Nat) : (s.setEvt a i).nextOrder = s.nextOrder := rfl
@[simp] theorem State.setEvt_subs (s : State) (a i : Nat) : (s.setEvt a i).subs = s.subs := rfl
@[simp] theorem State.setEvt_fw (s : State) (a i : Nat) : (s.setEvt a i).fw = s.fw := rfl
@[simp] theorem State.setEvt_board (s : State) (a i : Nat) : (s.setEvt a i).board = s.board := rfl
@[simp] theorem State.setEvt_handles (s : State) (a i : Nat) : (s.setEvt a i).handles = s.handles := rfl
@[simp] theorem State.setEvt_keep (s : State) (a i : Nat) : (s.setEvt a i).keep = s.keep := rfl
@[simp] theorem State.setEvt_keepCrc (s : State) (a i : Nat) : (s.setEvt a i).keepCrc = s.keepCrc := rfl
@[simp] theorem State.setEvt_keepOk (s : State) (a i : Nat) : (s.setEvt a i).keepOk = s.keepOk := rfl
@[simp] theorem State.setEvt_keepDue (s : State) (a i : Nat) : (s.setEvt a i).keepDue = s.keepDue := rfl
@[simp] theorem State.setEvt_pd (s : State) (a i : Nat) : (s.setEvt a i).pd = s.pd := rfl
@[simp] theorem State.setEvt_load (s : State) (a i : Nat) : (s.setEvt a i).load = s.load := rfl
@[simp] theorem State.setEvt_dramOn (s : State) (a i : Nat) : (s.setEvt a i).dramOn = s.dramOn := rfl
@[simp] theorem State.setEvt_dram (s : State) (a i : Nat) : (s.setEvt a i).dram = s.dram := rfl
@[simp] theorem State.setEvt_mem (s : State) (a i : Nat) : (s.setEvt a i).mem = s.mem := rfl
@[simp] theorem State.setEvt_build (s : State) (a i : Nat) : (s.setEvt a i).build = s.build := rfl
@[simp] theorem State.setEvt_cfg (s : State) (a i : Nat) : (s.setEvt a i).cfg = s.cfg := rfl
@[simp] theorem State.setEvt_audio (s : State) (a i : Nat) : (s.setEvt a i).audio = s.audio := rfl
@[simp] theorem State.setEvt_pcie (s : State) (a i : Nat) : (s.setEvt a i).pcie = s.pcie := rfl
@[simp] theorem State.setEvt_sap (s : State) (a i : Nat) : (s.setEvt a i).sap = s.sap := rfl
@[simp] theorem State.setEvt_net (s : State) (a i : Nat) : (s.setEvt a i).net = s.net := rfl
@[simp] theorem State.setEvt_zen (s : State) (a i : Nat) : (s.setEvt a i).zen = s.zen := rfl
@[simp] theorem State.setEvt_twin (s : State) (a i : Nat) : (s.setEvt a i).twin = s.twin := rfl
@[simp] theorem State.setEvt_pendReset (s : State) (a i : Nat) : (s.setEvt a i).pendReset = s.pendReset := rfl
@[simp] theorem State.setEvt_rpc (s : State) (a i : Nat) : (s.setEvt a i).rpc = s.rpc := rfl
@[simp] theorem State.setEvt_served (s : State) (a i : Nat) : (s.setEvt a i).served = s.served := rfl
@[simp] theorem State.setEvt_spi (s : State) (a i : Nat) : (s.setEvt a i).spi = s.spi := rfl
@[simp] theorem State.setEvt_posted (s : State) (a i : Nat) : (s.setEvt a i).posted = s.posted := rfl
@[simp] theorem State.setEvt_read (s : State) (a i : Nat) : (s.setEvt a i).read = s.read := rfl
@[simp] theorem State.setEvt_msixEnable (s : State) (a i : Nat) : (s.setEvt a i).msixEnable = s.msixEnable := rfl
@[simp] theorem State.setEvt_msixMask (s : State) (a i : Nat) : (s.setEvt a i).msixMask = s.msixMask := rfl
@[simp] theorem State.setEvt_messages (s : State) (a i : Nat) : (s.setEvt a i).messages = s.messages := rfl
@[simp] theorem State.setEvt_pending (s : State) (a i : Nat) : (s.setEvt a i).pending = s.pending := rfl

/-! Counting in a register -/

@[simp] theorem State.bump_now (s : State) (a n : Nat) : (s.bump a n).now = s.now := rfl
@[simp] theorem State.bump_free (s : State) (a n : Nat) : (s.bump a n).free = s.free := rfl
@[simp] theorem State.bump_run (s : State) (a n : Nat) : (s.bump a n).run = s.run := rfl
@[simp] theorem State.bump_halt (s : State) (a n : Nat) : (s.bump a n).halt = s.halt := rfl
@[simp] theorem State.bump_rate (s : State) (a n : Nat) : (s.bump a n).rate = s.rate := rfl
@[simp] theorem State.bump_logQ (s : State) (a n : Nat) : (s.bump a n).logQ = s.logQ := rfl
@[simp] theorem State.bump_tu (s : State) (a n : Nat) : (s.bump a n).tu = s.tu := rfl
@[simp] theorem State.bump_chans (s : State) (a n : Nat) : (s.bump a n).chans = s.chans := rfl
@[simp] theorem State.bump_log (s : State) (a n : Nat) : (s.bump a n).log = s.log := rfl
@[simp] theorem State.bump_runs (s : State) (a n : Nat) : (s.bump a n).runs = s.runs := rfl
@[simp] theorem State.bump_counters (s : State) (a n : Nat) : (s.bump a n).counters = s.counters := rfl
@[simp] theorem State.bump_changes (s : State) (a n : Nat) : (s.bump a n).changes = s.changes := rfl
@[simp] theorem State.bump_nextOrder (s : State) (a n : Nat) : (s.bump a n).nextOrder = s.nextOrder := rfl
@[simp] theorem State.bump_subs (s : State) (a n : Nat) : (s.bump a n).subs = s.subs := rfl
@[simp] theorem State.bump_fw (s : State) (a n : Nat) : (s.bump a n).fw = s.fw := rfl
@[simp] theorem State.bump_board (s : State) (a n : Nat) : (s.bump a n).board = s.board := rfl
@[simp] theorem State.bump_handles (s : State) (a n : Nat) : (s.bump a n).handles = s.handles := rfl
@[simp] theorem State.bump_keep (s : State) (a n : Nat) : (s.bump a n).keep = s.keep := rfl
@[simp] theorem State.bump_keepCrc (s : State) (a n : Nat) : (s.bump a n).keepCrc = s.keepCrc := rfl
@[simp] theorem State.bump_keepOk (s : State) (a n : Nat) : (s.bump a n).keepOk = s.keepOk := rfl
@[simp] theorem State.bump_keepDue (s : State) (a n : Nat) : (s.bump a n).keepDue = s.keepDue := rfl
@[simp] theorem State.bump_pd (s : State) (a n : Nat) : (s.bump a n).pd = s.pd := rfl
@[simp] theorem State.bump_load (s : State) (a n : Nat) : (s.bump a n).load = s.load := rfl
@[simp] theorem State.bump_dramOn (s : State) (a n : Nat) : (s.bump a n).dramOn = s.dramOn := rfl
@[simp] theorem State.bump_dram (s : State) (a n : Nat) : (s.bump a n).dram = s.dram := rfl
@[simp] theorem State.bump_mem (s : State) (a n : Nat) : (s.bump a n).mem = s.mem := rfl
@[simp] theorem State.bump_build (s : State) (a n : Nat) : (s.bump a n).build = s.build := rfl
@[simp] theorem State.bump_cfg (s : State) (a n : Nat) : (s.bump a n).cfg = s.cfg := rfl
@[simp] theorem State.bump_audio (s : State) (a n : Nat) : (s.bump a n).audio = s.audio := rfl
@[simp] theorem State.bump_pcie (s : State) (a n : Nat) : (s.bump a n).pcie = s.pcie := rfl
@[simp] theorem State.bump_sap (s : State) (a n : Nat) : (s.bump a n).sap = s.sap := rfl
@[simp] theorem State.bump_net (s : State) (a n : Nat) : (s.bump a n).net = s.net := rfl
@[simp] theorem State.bump_zen (s : State) (a n : Nat) : (s.bump a n).zen = s.zen := rfl
@[simp] theorem State.bump_twin (s : State) (a n : Nat) : (s.bump a n).twin = s.twin := rfl
@[simp] theorem State.bump_pendReset (s : State) (a n : Nat) : (s.bump a n).pendReset = s.pendReset := rfl
@[simp] theorem State.bump_rpc (s : State) (a n : Nat) : (s.bump a n).rpc = s.rpc := rfl
@[simp] theorem State.bump_served (s : State) (a n : Nat) : (s.bump a n).served = s.served := rfl
@[simp] theorem State.bump_spi (s : State) (a n : Nat) : (s.bump a n).spi = s.spi := rfl
@[simp] theorem State.bump_posted (s : State) (a n : Nat) : (s.bump a n).posted = s.posted := rfl
@[simp] theorem State.bump_read (s : State) (a n : Nat) : (s.bump a n).read = s.read := rfl
@[simp] theorem State.bump_msixEnable (s : State) (a n : Nat) : (s.bump a n).msixEnable = s.msixEnable := rfl
@[simp] theorem State.bump_msixMask (s : State) (a n : Nat) : (s.bump a n).msixMask = s.msixMask := rfl
@[simp] theorem State.bump_messages (s : State) (a n : Nat) : (s.bump a n).messages = s.messages := rfl
@[simp] theorem State.bump_pending (s : State) (a n : Nat) : (s.bump a n).pending = s.pending := rfl

/-! Storing a field of a register -/

@[simp] theorem State.setFld_now (s : State) (a hi lo v : Nat) : (s.setFld a hi lo v).now = s.now := rfl
@[simp] theorem State.setFld_free (s : State) (a hi lo v : Nat) : (s.setFld a hi lo v).free = s.free := rfl
@[simp] theorem State.setFld_run (s : State) (a hi lo v : Nat) : (s.setFld a hi lo v).run = s.run := rfl
@[simp] theorem State.setFld_halt (s : State) (a hi lo v : Nat) : (s.setFld a hi lo v).halt = s.halt := rfl
@[simp] theorem State.setFld_rate (s : State) (a hi lo v : Nat) : (s.setFld a hi lo v).rate = s.rate := rfl
@[simp] theorem State.setFld_logQ (s : State) (a hi lo v : Nat) : (s.setFld a hi lo v).logQ = s.logQ := rfl
@[simp] theorem State.setFld_tu (s : State) (a hi lo v : Nat) : (s.setFld a hi lo v).tu = s.tu := rfl
@[simp] theorem State.setFld_chans (s : State) (a hi lo v : Nat) : (s.setFld a hi lo v).chans = s.chans := rfl
@[simp] theorem State.setFld_log (s : State) (a hi lo v : Nat) : (s.setFld a hi lo v).log = s.log := rfl
@[simp] theorem State.setFld_runs (s : State) (a hi lo v : Nat) : (s.setFld a hi lo v).runs = s.runs := rfl
@[simp] theorem State.setFld_counters (s : State) (a hi lo v : Nat) : (s.setFld a hi lo v).counters = s.counters := rfl
@[simp] theorem State.setFld_changes (s : State) (a hi lo v : Nat) : (s.setFld a hi lo v).changes = s.changes := rfl
@[simp] theorem State.setFld_nextOrder (s : State) (a hi lo v : Nat) : (s.setFld a hi lo v).nextOrder = s.nextOrder := rfl
@[simp] theorem State.setFld_subs (s : State) (a hi lo v : Nat) : (s.setFld a hi lo v).subs = s.subs := rfl
@[simp] theorem State.setFld_fw (s : State) (a hi lo v : Nat) : (s.setFld a hi lo v).fw = s.fw := rfl
@[simp] theorem State.setFld_board (s : State) (a hi lo v : Nat) : (s.setFld a hi lo v).board = s.board := rfl
@[simp] theorem State.setFld_handles (s : State) (a hi lo v : Nat) : (s.setFld a hi lo v).handles = s.handles := rfl
@[simp] theorem State.setFld_keep (s : State) (a hi lo v : Nat) : (s.setFld a hi lo v).keep = s.keep := rfl
@[simp] theorem State.setFld_keepCrc (s : State) (a hi lo v : Nat) : (s.setFld a hi lo v).keepCrc = s.keepCrc := rfl
@[simp] theorem State.setFld_keepOk (s : State) (a hi lo v : Nat) : (s.setFld a hi lo v).keepOk = s.keepOk := rfl
@[simp] theorem State.setFld_keepDue (s : State) (a hi lo v : Nat) : (s.setFld a hi lo v).keepDue = s.keepDue := rfl
@[simp] theorem State.setFld_pd (s : State) (a hi lo v : Nat) : (s.setFld a hi lo v).pd = s.pd := rfl
@[simp] theorem State.setFld_load (s : State) (a hi lo v : Nat) : (s.setFld a hi lo v).load = s.load := rfl
@[simp] theorem State.setFld_dramOn (s : State) (a hi lo v : Nat) : (s.setFld a hi lo v).dramOn = s.dramOn := rfl
@[simp] theorem State.setFld_dram (s : State) (a hi lo v : Nat) : (s.setFld a hi lo v).dram = s.dram := rfl
@[simp] theorem State.setFld_mem (s : State) (a hi lo v : Nat) : (s.setFld a hi lo v).mem = s.mem := rfl
@[simp] theorem State.setFld_build (s : State) (a hi lo v : Nat) : (s.setFld a hi lo v).build = s.build := rfl
@[simp] theorem State.setFld_cfg (s : State) (a hi lo v : Nat) : (s.setFld a hi lo v).cfg = s.cfg := rfl
@[simp] theorem State.setFld_audio (s : State) (a hi lo v : Nat) : (s.setFld a hi lo v).audio = s.audio := rfl
@[simp] theorem State.setFld_pcie (s : State) (a hi lo v : Nat) : (s.setFld a hi lo v).pcie = s.pcie := rfl
@[simp] theorem State.setFld_sap (s : State) (a hi lo v : Nat) : (s.setFld a hi lo v).sap = s.sap := rfl
@[simp] theorem State.setFld_net (s : State) (a hi lo v : Nat) : (s.setFld a hi lo v).net = s.net := rfl
@[simp] theorem State.setFld_zen (s : State) (a hi lo v : Nat) : (s.setFld a hi lo v).zen = s.zen := rfl
@[simp] theorem State.setFld_twin (s : State) (a hi lo v : Nat) : (s.setFld a hi lo v).twin = s.twin := rfl
@[simp] theorem State.setFld_pendReset (s : State) (a hi lo v : Nat) : (s.setFld a hi lo v).pendReset = s.pendReset := rfl
@[simp] theorem State.setFld_rpc (s : State) (a hi lo v : Nat) : (s.setFld a hi lo v).rpc = s.rpc := rfl
@[simp] theorem State.setFld_served (s : State) (a hi lo v : Nat) : (s.setFld a hi lo v).served = s.served := rfl
@[simp] theorem State.setFld_spi (s : State) (a hi lo v : Nat) : (s.setFld a hi lo v).spi = s.spi := rfl
@[simp] theorem State.setFld_posted (s : State) (a hi lo v : Nat) : (s.setFld a hi lo v).posted = s.posted := rfl
@[simp] theorem State.setFld_read (s : State) (a hi lo v : Nat) : (s.setFld a hi lo v).read = s.read := rfl
@[simp] theorem State.setFld_msixEnable (s : State) (a hi lo v : Nat) : (s.setFld a hi lo v).msixEnable = s.msixEnable := rfl
@[simp] theorem State.setFld_msixMask (s : State) (a hi lo v : Nat) : (s.setFld a hi lo v).msixMask = s.msixMask := rfl
@[simp] theorem State.setFld_messages (s : State) (a hi lo v : Nat) : (s.setFld a hi lo v).messages = s.messages := rfl
@[simp] theorem State.setFld_pending (s : State) (a hi lo v : Nat) : (s.setFld a hi lo v).pending = s.pending := rfl

/-! Replacing a channel -/

@[simp] theorem State.setChan_now (s : State) (n : Nat) (c : Channel) : (s.setChan n c).now = s.now := rfl
@[simp] theorem State.setChan_free (s : State) (n : Nat) (c : Channel) : (s.setChan n c).free = s.free := rfl
@[simp] theorem State.setChan_run (s : State) (n : Nat) (c : Channel) : (s.setChan n c).run = s.run := rfl
@[simp] theorem State.setChan_halt (s : State) (n : Nat) (c : Channel) : (s.setChan n c).halt = s.halt := rfl
@[simp] theorem State.setChan_rate (s : State) (n : Nat) (c : Channel) : (s.setChan n c).rate = s.rate := rfl
@[simp] theorem State.setChan_logQ (s : State) (n : Nat) (c : Channel) : (s.setChan n c).logQ = s.logQ := rfl
@[simp] theorem State.setChan_tu (s : State) (n : Nat) (c : Channel) : (s.setChan n c).tu = s.tu := rfl
@[simp] theorem State.setChan_regs (s : State) (n : Nat) (c : Channel) : (s.setChan n c).regs = s.regs := rfl
@[simp] theorem State.setChan_log (s : State) (n : Nat) (c : Channel) : (s.setChan n c).log = s.log := rfl
@[simp] theorem State.setChan_runs (s : State) (n : Nat) (c : Channel) : (s.setChan n c).runs = s.runs := rfl
@[simp] theorem State.setChan_counters (s : State) (n : Nat) (c : Channel) : (s.setChan n c).counters = s.counters := rfl
@[simp] theorem State.setChan_changes (s : State) (n : Nat) (c : Channel) : (s.setChan n c).changes = s.changes := rfl
@[simp] theorem State.setChan_nextOrder (s : State) (n : Nat) (c : Channel) : (s.setChan n c).nextOrder = s.nextOrder := rfl
@[simp] theorem State.setChan_subs (s : State) (n : Nat) (c : Channel) : (s.setChan n c).subs = s.subs := rfl
@[simp] theorem State.setChan_fw (s : State) (n : Nat) (c : Channel) : (s.setChan n c).fw = s.fw := rfl
@[simp] theorem State.setChan_board (s : State) (n : Nat) (c : Channel) : (s.setChan n c).board = s.board := rfl
@[simp] theorem State.setChan_handles (s : State) (n : Nat) (c : Channel) : (s.setChan n c).handles = s.handles := rfl
@[simp] theorem State.setChan_keep (s : State) (n : Nat) (c : Channel) : (s.setChan n c).keep = s.keep := rfl
@[simp] theorem State.setChan_keepCrc (s : State) (n : Nat) (c : Channel) : (s.setChan n c).keepCrc = s.keepCrc := rfl
@[simp] theorem State.setChan_keepOk (s : State) (n : Nat) (c : Channel) : (s.setChan n c).keepOk = s.keepOk := rfl
@[simp] theorem State.setChan_keepDue (s : State) (n : Nat) (c : Channel) : (s.setChan n c).keepDue = s.keepDue := rfl
@[simp] theorem State.setChan_pd (s : State) (n : Nat) (c : Channel) : (s.setChan n c).pd = s.pd := rfl
@[simp] theorem State.setChan_load (s : State) (n : Nat) (c : Channel) : (s.setChan n c).load = s.load := rfl
@[simp] theorem State.setChan_dramOn (s : State) (n : Nat) (c : Channel) : (s.setChan n c).dramOn = s.dramOn := rfl
@[simp] theorem State.setChan_dram (s : State) (n : Nat) (c : Channel) : (s.setChan n c).dram = s.dram := rfl
@[simp] theorem State.setChan_mem (s : State) (n : Nat) (c : Channel) : (s.setChan n c).mem = s.mem := rfl
@[simp] theorem State.setChan_build (s : State) (n : Nat) (c : Channel) : (s.setChan n c).build = s.build := rfl
@[simp] theorem State.setChan_cfg (s : State) (n : Nat) (c : Channel) : (s.setChan n c).cfg = s.cfg := rfl
@[simp] theorem State.setChan_audio (s : State) (n : Nat) (c : Channel) : (s.setChan n c).audio = s.audio := rfl
@[simp] theorem State.setChan_pcie (s : State) (n : Nat) (c : Channel) : (s.setChan n c).pcie = s.pcie := rfl
@[simp] theorem State.setChan_sap (s : State) (n : Nat) (c : Channel) : (s.setChan n c).sap = s.sap := rfl
@[simp] theorem State.setChan_net (s : State) (n : Nat) (c : Channel) : (s.setChan n c).net = s.net := rfl
@[simp] theorem State.setChan_zen (s : State) (n : Nat) (c : Channel) : (s.setChan n c).zen = s.zen := rfl
@[simp] theorem State.setChan_twin (s : State) (n : Nat) (c : Channel) : (s.setChan n c).twin = s.twin := rfl
@[simp] theorem State.setChan_pendReset (s : State) (n : Nat) (c : Channel) : (s.setChan n c).pendReset = s.pendReset := rfl
@[simp] theorem State.setChan_rpc (s : State) (n : Nat) (c : Channel) : (s.setChan n c).rpc = s.rpc := rfl
@[simp] theorem State.setChan_served (s : State) (n : Nat) (c : Channel) : (s.setChan n c).served = s.served := rfl
@[simp] theorem State.setChan_spi (s : State) (n : Nat) (c : Channel) : (s.setChan n c).spi = s.spi := rfl
@[simp] theorem State.setChan_posted (s : State) (n : Nat) (c : Channel) : (s.setChan n c).posted = s.posted := rfl
@[simp] theorem State.setChan_read (s : State) (n : Nat) (c : Channel) : (s.setChan n c).read = s.read := rfl
@[simp] theorem State.setChan_msixEnable (s : State) (n : Nat) (c : Channel) : (s.setChan n c).msixEnable = s.msixEnable := rfl
@[simp] theorem State.setChan_msixMask (s : State) (n : Nat) (c : Channel) : (s.setChan n c).msixMask = s.msixMask := rfl
@[simp] theorem State.setChan_messages (s : State) (n : Nat) (c : Channel) : (s.setChan n c).messages = s.messages := rfl
@[simp] theorem State.setChan_pending (s : State) (n : Nat) (c : Channel) : (s.setChan n c).pending = s.pending := rfl

/-! Changing a channel -/

@[simp] theorem State.updChan_now (s : State) (n : Nat) (f : Channel → Channel) : (s.updChan n f).now = s.now := rfl
@[simp] theorem State.updChan_free (s : State) (n : Nat) (f : Channel → Channel) : (s.updChan n f).free = s.free := rfl
@[simp] theorem State.updChan_run (s : State) (n : Nat) (f : Channel → Channel) : (s.updChan n f).run = s.run := rfl
@[simp] theorem State.updChan_halt (s : State) (n : Nat) (f : Channel → Channel) : (s.updChan n f).halt = s.halt := rfl
@[simp] theorem State.updChan_rate (s : State) (n : Nat) (f : Channel → Channel) : (s.updChan n f).rate = s.rate := rfl
@[simp] theorem State.updChan_logQ (s : State) (n : Nat) (f : Channel → Channel) : (s.updChan n f).logQ = s.logQ := rfl
@[simp] theorem State.updChan_tu (s : State) (n : Nat) (f : Channel → Channel) : (s.updChan n f).tu = s.tu := rfl
@[simp] theorem State.updChan_regs (s : State) (n : Nat) (f : Channel → Channel) : (s.updChan n f).regs = s.regs := rfl
@[simp] theorem State.updChan_log (s : State) (n : Nat) (f : Channel → Channel) : (s.updChan n f).log = s.log := rfl
@[simp] theorem State.updChan_runs (s : State) (n : Nat) (f : Channel → Channel) : (s.updChan n f).runs = s.runs := rfl
@[simp] theorem State.updChan_counters (s : State) (n : Nat) (f : Channel → Channel) : (s.updChan n f).counters = s.counters := rfl
@[simp] theorem State.updChan_changes (s : State) (n : Nat) (f : Channel → Channel) : (s.updChan n f).changes = s.changes := rfl
@[simp] theorem State.updChan_nextOrder (s : State) (n : Nat) (f : Channel → Channel) : (s.updChan n f).nextOrder = s.nextOrder := rfl
@[simp] theorem State.updChan_subs (s : State) (n : Nat) (f : Channel → Channel) : (s.updChan n f).subs = s.subs := rfl
@[simp] theorem State.updChan_fw (s : State) (n : Nat) (f : Channel → Channel) : (s.updChan n f).fw = s.fw := rfl
@[simp] theorem State.updChan_board (s : State) (n : Nat) (f : Channel → Channel) : (s.updChan n f).board = s.board := rfl
@[simp] theorem State.updChan_handles (s : State) (n : Nat) (f : Channel → Channel) : (s.updChan n f).handles = s.handles := rfl
@[simp] theorem State.updChan_keep (s : State) (n : Nat) (f : Channel → Channel) : (s.updChan n f).keep = s.keep := rfl
@[simp] theorem State.updChan_keepCrc (s : State) (n : Nat) (f : Channel → Channel) : (s.updChan n f).keepCrc = s.keepCrc := rfl
@[simp] theorem State.updChan_keepOk (s : State) (n : Nat) (f : Channel → Channel) : (s.updChan n f).keepOk = s.keepOk := rfl
@[simp] theorem State.updChan_keepDue (s : State) (n : Nat) (f : Channel → Channel) : (s.updChan n f).keepDue = s.keepDue := rfl
@[simp] theorem State.updChan_pd (s : State) (n : Nat) (f : Channel → Channel) : (s.updChan n f).pd = s.pd := rfl
@[simp] theorem State.updChan_load (s : State) (n : Nat) (f : Channel → Channel) : (s.updChan n f).load = s.load := rfl
@[simp] theorem State.updChan_dramOn (s : State) (n : Nat) (f : Channel → Channel) : (s.updChan n f).dramOn = s.dramOn := rfl
@[simp] theorem State.updChan_dram (s : State) (n : Nat) (f : Channel → Channel) : (s.updChan n f).dram = s.dram := rfl
@[simp] theorem State.updChan_mem (s : State) (n : Nat) (f : Channel → Channel) : (s.updChan n f).mem = s.mem := rfl
@[simp] theorem State.updChan_build (s : State) (n : Nat) (f : Channel → Channel) : (s.updChan n f).build = s.build := rfl
@[simp] theorem State.updChan_cfg (s : State) (n : Nat) (f : Channel → Channel) : (s.updChan n f).cfg = s.cfg := rfl
@[simp] theorem State.updChan_audio (s : State) (n : Nat) (f : Channel → Channel) : (s.updChan n f).audio = s.audio := rfl
@[simp] theorem State.updChan_pcie (s : State) (n : Nat) (f : Channel → Channel) : (s.updChan n f).pcie = s.pcie := rfl
@[simp] theorem State.updChan_sap (s : State) (n : Nat) (f : Channel → Channel) : (s.updChan n f).sap = s.sap := rfl
@[simp] theorem State.updChan_net (s : State) (n : Nat) (f : Channel → Channel) : (s.updChan n f).net = s.net := rfl
@[simp] theorem State.updChan_zen (s : State) (n : Nat) (f : Channel → Channel) : (s.updChan n f).zen = s.zen := rfl
@[simp] theorem State.updChan_twin (s : State) (n : Nat) (f : Channel → Channel) : (s.updChan n f).twin = s.twin := rfl
@[simp] theorem State.updChan_pendReset (s : State) (n : Nat) (f : Channel → Channel) : (s.updChan n f).pendReset = s.pendReset := rfl
@[simp] theorem State.updChan_rpc (s : State) (n : Nat) (f : Channel → Channel) : (s.updChan n f).rpc = s.rpc := rfl
@[simp] theorem State.updChan_served (s : State) (n : Nat) (f : Channel → Channel) : (s.updChan n f).served = s.served := rfl
@[simp] theorem State.updChan_spi (s : State) (n : Nat) (f : Channel → Channel) : (s.updChan n f).spi = s.spi := rfl
@[simp] theorem State.updChan_posted (s : State) (n : Nat) (f : Channel → Channel) : (s.updChan n f).posted = s.posted := rfl
@[simp] theorem State.updChan_read (s : State) (n : Nat) (f : Channel → Channel) : (s.updChan n f).read = s.read := rfl
@[simp] theorem State.updChan_msixEnable (s : State) (n : Nat) (f : Channel → Channel) : (s.updChan n f).msixEnable = s.msixEnable := rfl
@[simp] theorem State.updChan_msixMask (s : State) (n : Nat) (f : Channel → Channel) : (s.updChan n f).msixMask = s.msixMask := rfl
@[simp] theorem State.updChan_messages (s : State) (n : Nat) (f : Channel → Channel) : (s.updChan n f).messages = s.messages := rfl
@[simp] theorem State.updChan_pending (s : State) (n : Nat) (f : Channel → Channel) : (s.updChan n f).pending = s.pending := rfl

/-! Giving a reply to a transport -/

@[simp] theorem State.emit_now (s : State) (n : Nat) (r : Reply) : (s.emit n r).now = s.now := rfl
@[simp] theorem State.emit_free (s : State) (n : Nat) (r : Reply) : (s.emit n r).free = s.free := rfl
@[simp] theorem State.emit_run (s : State) (n : Nat) (r : Reply) : (s.emit n r).run = s.run := rfl
@[simp] theorem State.emit_halt (s : State) (n : Nat) (r : Reply) : (s.emit n r).halt = s.halt := rfl
@[simp] theorem State.emit_rate (s : State) (n : Nat) (r : Reply) : (s.emit n r).rate = s.rate := rfl
@[simp] theorem State.emit_logQ (s : State) (n : Nat) (r : Reply) : (s.emit n r).logQ = s.logQ := rfl
@[simp] theorem State.emit_tu (s : State) (n : Nat) (r : Reply) : (s.emit n r).tu = s.tu := rfl
@[simp] theorem State.emit_regs (s : State) (n : Nat) (r : Reply) : (s.emit n r).regs = s.regs := rfl
@[simp] theorem State.emit_log (s : State) (n : Nat) (r : Reply) : (s.emit n r).log = s.log := rfl
@[simp] theorem State.emit_runs (s : State) (n : Nat) (r : Reply) : (s.emit n r).runs = s.runs := rfl
@[simp] theorem State.emit_counters (s : State) (n : Nat) (r : Reply) : (s.emit n r).counters = s.counters := rfl
@[simp] theorem State.emit_changes (s : State) (n : Nat) (r : Reply) : (s.emit n r).changes = s.changes := rfl
@[simp] theorem State.emit_nextOrder (s : State) (n : Nat) (r : Reply) : (s.emit n r).nextOrder = s.nextOrder := rfl
@[simp] theorem State.emit_subs (s : State) (n : Nat) (r : Reply) : (s.emit n r).subs = s.subs := rfl
@[simp] theorem State.emit_fw (s : State) (n : Nat) (r : Reply) : (s.emit n r).fw = s.fw := rfl
@[simp] theorem State.emit_board (s : State) (n : Nat) (r : Reply) : (s.emit n r).board = s.board := rfl
@[simp] theorem State.emit_handles (s : State) (n : Nat) (r : Reply) : (s.emit n r).handles = s.handles := rfl
@[simp] theorem State.emit_keep (s : State) (n : Nat) (r : Reply) : (s.emit n r).keep = s.keep := rfl
@[simp] theorem State.emit_keepCrc (s : State) (n : Nat) (r : Reply) : (s.emit n r).keepCrc = s.keepCrc := rfl
@[simp] theorem State.emit_keepOk (s : State) (n : Nat) (r : Reply) : (s.emit n r).keepOk = s.keepOk := rfl
@[simp] theorem State.emit_keepDue (s : State) (n : Nat) (r : Reply) : (s.emit n r).keepDue = s.keepDue := rfl
@[simp] theorem State.emit_pd (s : State) (n : Nat) (r : Reply) : (s.emit n r).pd = s.pd := rfl
@[simp] theorem State.emit_load (s : State) (n : Nat) (r : Reply) : (s.emit n r).load = s.load := rfl
@[simp] theorem State.emit_dramOn (s : State) (n : Nat) (r : Reply) : (s.emit n r).dramOn = s.dramOn := rfl
@[simp] theorem State.emit_dram (s : State) (n : Nat) (r : Reply) : (s.emit n r).dram = s.dram := rfl
@[simp] theorem State.emit_mem (s : State) (n : Nat) (r : Reply) : (s.emit n r).mem = s.mem := rfl
@[simp] theorem State.emit_build (s : State) (n : Nat) (r : Reply) : (s.emit n r).build = s.build := rfl
@[simp] theorem State.emit_cfg (s : State) (n : Nat) (r : Reply) : (s.emit n r).cfg = s.cfg := rfl
@[simp] theorem State.emit_audio (s : State) (n : Nat) (r : Reply) : (s.emit n r).audio = s.audio := rfl
@[simp] theorem State.emit_pcie (s : State) (n : Nat) (r : Reply) : (s.emit n r).pcie = s.pcie := rfl
@[simp] theorem State.emit_sap (s : State) (n : Nat) (r : Reply) : (s.emit n r).sap = s.sap := rfl
@[simp] theorem State.emit_net (s : State) (n : Nat) (r : Reply) : (s.emit n r).net = s.net := rfl
@[simp] theorem State.emit_zen (s : State) (n : Nat) (r : Reply) : (s.emit n r).zen = s.zen := rfl
@[simp] theorem State.emit_twin (s : State) (n : Nat) (r : Reply) : (s.emit n r).twin = s.twin := rfl
@[simp] theorem State.emit_pendReset (s : State) (n : Nat) (r : Reply) : (s.emit n r).pendReset = s.pendReset := rfl
@[simp] theorem State.emit_rpc (s : State) (n : Nat) (r : Reply) : (s.emit n r).rpc = s.rpc := rfl
@[simp] theorem State.emit_served (s : State) (n : Nat) (r : Reply) : (s.emit n r).served = s.served := rfl
@[simp] theorem State.emit_spi (s : State) (n : Nat) (r : Reply) : (s.emit n r).spi = s.spi := rfl
@[simp] theorem State.emit_posted (s : State) (n : Nat) (r : Reply) : (s.emit n r).posted = s.posted := rfl
@[simp] theorem State.emit_read (s : State) (n : Nat) (r : Reply) : (s.emit n r).read = s.read := rfl
@[simp] theorem State.emit_msixEnable (s : State) (n : Nat) (r : Reply) : (s.emit n r).msixEnable = s.msixEnable := rfl
@[simp] theorem State.emit_msixMask (s : State) (n : Nat) (r : Reply) : (s.emit n r).msixMask = s.msixMask := rfl
@[simp] theorem State.emit_messages (s : State) (n : Nat) (r : Reply) : (s.emit n r).messages = s.messages := rfl
@[simp] theorem State.emit_pending (s : State) (n : Nat) (r : Reply) : (s.emit n r).pending = s.pending := rfl

/-! Entering a change -/

@[simp] theorem State.enqueue_now (s : State) (c : Change) : (s.enqueue c).now = s.now := rfl
@[simp] theorem State.enqueue_free (s : State) (c : Change) : (s.enqueue c).free = s.free := rfl
@[simp] theorem State.enqueue_run (s : State) (c : Change) : (s.enqueue c).run = s.run := rfl
@[simp] theorem State.enqueue_halt (s : State) (c : Change) : (s.enqueue c).halt = s.halt := rfl
@[simp] theorem State.enqueue_rate (s : State) (c : Change) : (s.enqueue c).rate = s.rate := rfl
@[simp] theorem State.enqueue_logQ (s : State) (c : Change) : (s.enqueue c).logQ = s.logQ := rfl
@[simp] theorem State.enqueue_tu (s : State) (c : Change) : (s.enqueue c).tu = s.tu := rfl
@[simp] theorem State.enqueue_regs (s : State) (c : Change) : (s.enqueue c).regs = s.regs := rfl
@[simp] theorem State.enqueue_chans (s : State) (c : Change) : (s.enqueue c).chans = s.chans := rfl
@[simp] theorem State.enqueue_log (s : State) (c : Change) : (s.enqueue c).log = s.log := rfl
@[simp] theorem State.enqueue_runs (s : State) (c : Change) : (s.enqueue c).runs = s.runs := rfl
@[simp] theorem State.enqueue_counters (s : State) (c : Change) : (s.enqueue c).counters = s.counters := rfl
@[simp] theorem State.enqueue_subs (s : State) (c : Change) : (s.enqueue c).subs = s.subs := rfl
@[simp] theorem State.enqueue_fw (s : State) (c : Change) : (s.enqueue c).fw = s.fw := rfl
@[simp] theorem State.enqueue_board (s : State) (c : Change) : (s.enqueue c).board = s.board := rfl
@[simp] theorem State.enqueue_handles (s : State) (c : Change) : (s.enqueue c).handles = s.handles := rfl
@[simp] theorem State.enqueue_keep (s : State) (c : Change) : (s.enqueue c).keep = s.keep := rfl
@[simp] theorem State.enqueue_keepCrc (s : State) (c : Change) : (s.enqueue c).keepCrc = s.keepCrc := rfl
@[simp] theorem State.enqueue_keepOk (s : State) (c : Change) : (s.enqueue c).keepOk = s.keepOk := rfl
@[simp] theorem State.enqueue_keepDue (s : State) (c : Change) : (s.enqueue c).keepDue = s.keepDue := rfl
@[simp] theorem State.enqueue_pd (s : State) (c : Change) : (s.enqueue c).pd = s.pd := rfl
@[simp] theorem State.enqueue_load (s : State) (c : Change) : (s.enqueue c).load = s.load := rfl
@[simp] theorem State.enqueue_dramOn (s : State) (c : Change) : (s.enqueue c).dramOn = s.dramOn := rfl
@[simp] theorem State.enqueue_dram (s : State) (c : Change) : (s.enqueue c).dram = s.dram := rfl
@[simp] theorem State.enqueue_mem (s : State) (c : Change) : (s.enqueue c).mem = s.mem := rfl
@[simp] theorem State.enqueue_build (s : State) (c : Change) : (s.enqueue c).build = s.build := rfl
@[simp] theorem State.enqueue_cfg (s : State) (c : Change) : (s.enqueue c).cfg = s.cfg := rfl
@[simp] theorem State.enqueue_audio (s : State) (c : Change) : (s.enqueue c).audio = s.audio := rfl
@[simp] theorem State.enqueue_pcie (s : State) (c : Change) : (s.enqueue c).pcie = s.pcie := rfl
@[simp] theorem State.enqueue_sap (s : State) (c : Change) : (s.enqueue c).sap = s.sap := rfl
@[simp] theorem State.enqueue_net (s : State) (c : Change) : (s.enqueue c).net = s.net := rfl
@[simp] theorem State.enqueue_zen (s : State) (c : Change) : (s.enqueue c).zen = s.zen := rfl
@[simp] theorem State.enqueue_twin (s : State) (c : Change) : (s.enqueue c).twin = s.twin := rfl
@[simp] theorem State.enqueue_pendReset (s : State) (c : Change) : (s.enqueue c).pendReset = s.pendReset := rfl
@[simp] theorem State.enqueue_rpc (s : State) (c : Change) : (s.enqueue c).rpc = s.rpc := rfl
@[simp] theorem State.enqueue_served (s : State) (c : Change) : (s.enqueue c).served = s.served := rfl
@[simp] theorem State.enqueue_spi (s : State) (c : Change) : (s.enqueue c).spi = s.spi := rfl
@[simp] theorem State.enqueue_posted (s : State) (c : Change) : (s.enqueue c).posted = s.posted := rfl
@[simp] theorem State.enqueue_read (s : State) (c : Change) : (s.enqueue c).read = s.read := rfl
@[simp] theorem State.enqueue_msixEnable (s : State) (c : Change) : (s.enqueue c).msixEnable = s.msixEnable := rfl
@[simp] theorem State.enqueue_msixMask (s : State) (c : Change) : (s.enqueue c).msixMask = s.msixMask := rfl
@[simp] theorem State.enqueue_messages (s : State) (c : Change) : (s.enqueue c).messages = s.messages := rfl
@[simp] theorem State.enqueue_pending (s : State) (c : Change) : (s.enqueue c).pending = s.pending := rfl

/-! Changing the power and reset controller -/

@[simp] theorem State.updRpc_now (s : State) (f : Rpc → Rpc) : (s.updRpc f).now = s.now := rfl
@[simp] theorem State.updRpc_free (s : State) (f : Rpc → Rpc) : (s.updRpc f).free = s.free := rfl
@[simp] theorem State.updRpc_run (s : State) (f : Rpc → Rpc) : (s.updRpc f).run = s.run := rfl
@[simp] theorem State.updRpc_halt (s : State) (f : Rpc → Rpc) : (s.updRpc f).halt = s.halt := rfl
@[simp] theorem State.updRpc_rate (s : State) (f : Rpc → Rpc) : (s.updRpc f).rate = s.rate := rfl
@[simp] theorem State.updRpc_logQ (s : State) (f : Rpc → Rpc) : (s.updRpc f).logQ = s.logQ := rfl
@[simp] theorem State.updRpc_tu (s : State) (f : Rpc → Rpc) : (s.updRpc f).tu = s.tu := rfl
@[simp] theorem State.updRpc_regs (s : State) (f : Rpc → Rpc) : (s.updRpc f).regs = s.regs := rfl
@[simp] theorem State.updRpc_chans (s : State) (f : Rpc → Rpc) : (s.updRpc f).chans = s.chans := rfl
@[simp] theorem State.updRpc_log (s : State) (f : Rpc → Rpc) : (s.updRpc f).log = s.log := rfl
@[simp] theorem State.updRpc_runs (s : State) (f : Rpc → Rpc) : (s.updRpc f).runs = s.runs := rfl
@[simp] theorem State.updRpc_counters (s : State) (f : Rpc → Rpc) : (s.updRpc f).counters = s.counters := rfl
@[simp] theorem State.updRpc_changes (s : State) (f : Rpc → Rpc) : (s.updRpc f).changes = s.changes := rfl
@[simp] theorem State.updRpc_nextOrder (s : State) (f : Rpc → Rpc) : (s.updRpc f).nextOrder = s.nextOrder := rfl
@[simp] theorem State.updRpc_subs (s : State) (f : Rpc → Rpc) : (s.updRpc f).subs = s.subs := rfl
@[simp] theorem State.updRpc_fw (s : State) (f : Rpc → Rpc) : (s.updRpc f).fw = s.fw := rfl
@[simp] theorem State.updRpc_board (s : State) (f : Rpc → Rpc) : (s.updRpc f).board = s.board := rfl
@[simp] theorem State.updRpc_handles (s : State) (f : Rpc → Rpc) : (s.updRpc f).handles = s.handles := rfl
@[simp] theorem State.updRpc_keep (s : State) (f : Rpc → Rpc) : (s.updRpc f).keep = s.keep := rfl
@[simp] theorem State.updRpc_keepCrc (s : State) (f : Rpc → Rpc) : (s.updRpc f).keepCrc = s.keepCrc := rfl
@[simp] theorem State.updRpc_keepOk (s : State) (f : Rpc → Rpc) : (s.updRpc f).keepOk = s.keepOk := rfl
@[simp] theorem State.updRpc_keepDue (s : State) (f : Rpc → Rpc) : (s.updRpc f).keepDue = s.keepDue := rfl
@[simp] theorem State.updRpc_pd (s : State) (f : Rpc → Rpc) : (s.updRpc f).pd = s.pd := rfl
@[simp] theorem State.updRpc_load (s : State) (f : Rpc → Rpc) : (s.updRpc f).load = s.load := rfl
@[simp] theorem State.updRpc_dramOn (s : State) (f : Rpc → Rpc) : (s.updRpc f).dramOn = s.dramOn := rfl
@[simp] theorem State.updRpc_dram (s : State) (f : Rpc → Rpc) : (s.updRpc f).dram = s.dram := rfl
@[simp] theorem State.updRpc_mem (s : State) (f : Rpc → Rpc) : (s.updRpc f).mem = s.mem := rfl
@[simp] theorem State.updRpc_build (s : State) (f : Rpc → Rpc) : (s.updRpc f).build = s.build := rfl
@[simp] theorem State.updRpc_cfg (s : State) (f : Rpc → Rpc) : (s.updRpc f).cfg = s.cfg := rfl
@[simp] theorem State.updRpc_audio (s : State) (f : Rpc → Rpc) : (s.updRpc f).audio = s.audio := rfl
@[simp] theorem State.updRpc_pcie (s : State) (f : Rpc → Rpc) : (s.updRpc f).pcie = s.pcie := rfl
@[simp] theorem State.updRpc_sap (s : State) (f : Rpc → Rpc) : (s.updRpc f).sap = s.sap := rfl
@[simp] theorem State.updRpc_net (s : State) (f : Rpc → Rpc) : (s.updRpc f).net = s.net := rfl
@[simp] theorem State.updRpc_zen (s : State) (f : Rpc → Rpc) : (s.updRpc f).zen = s.zen := rfl
@[simp] theorem State.updRpc_twin (s : State) (f : Rpc → Rpc) : (s.updRpc f).twin = s.twin := rfl
@[simp] theorem State.updRpc_pendReset (s : State) (f : Rpc → Rpc) : (s.updRpc f).pendReset = s.pendReset := rfl
@[simp] theorem State.updRpc_served (s : State) (f : Rpc → Rpc) : (s.updRpc f).served = s.served := rfl
@[simp] theorem State.updRpc_spi (s : State) (f : Rpc → Rpc) : (s.updRpc f).spi = s.spi := rfl
@[simp] theorem State.updRpc_posted (s : State) (f : Rpc → Rpc) : (s.updRpc f).posted = s.posted := rfl
@[simp] theorem State.updRpc_read (s : State) (f : Rpc → Rpc) : (s.updRpc f).read = s.read := rfl
@[simp] theorem State.updRpc_msixEnable (s : State) (f : Rpc → Rpc) : (s.updRpc f).msixEnable = s.msixEnable := rfl
@[simp] theorem State.updRpc_msixMask (s : State) (f : Rpc → Rpc) : (s.updRpc f).msixMask = s.msixMask := rfl
@[simp] theorem State.updRpc_messages (s : State) (f : Rpc → Rpc) : (s.updRpc f).messages = s.messages := rfl
@[simp] theorem State.updRpc_pending (s : State) (f : Rpc → Rpc) : (s.updRpc f).pending = s.pending := rfl

/-! Changing the Twin Unit -/

@[simp] theorem State.updTwin_now (s : State) (f : Twin → Twin) : (s.updTwin f).now = s.now := rfl
@[simp] theorem State.updTwin_free (s : State) (f : Twin → Twin) : (s.updTwin f).free = s.free := rfl
@[simp] theorem State.updTwin_run (s : State) (f : Twin → Twin) : (s.updTwin f).run = s.run := rfl
@[simp] theorem State.updTwin_halt (s : State) (f : Twin → Twin) : (s.updTwin f).halt = s.halt := rfl
@[simp] theorem State.updTwin_rate (s : State) (f : Twin → Twin) : (s.updTwin f).rate = s.rate := rfl
@[simp] theorem State.updTwin_logQ (s : State) (f : Twin → Twin) : (s.updTwin f).logQ = s.logQ := rfl
@[simp] theorem State.updTwin_tu (s : State) (f : Twin → Twin) : (s.updTwin f).tu = s.tu := rfl
@[simp] theorem State.updTwin_regs (s : State) (f : Twin → Twin) : (s.updTwin f).regs = s.regs := rfl
@[simp] theorem State.updTwin_chans (s : State) (f : Twin → Twin) : (s.updTwin f).chans = s.chans := rfl
@[simp] theorem State.updTwin_log (s : State) (f : Twin → Twin) : (s.updTwin f).log = s.log := rfl
@[simp] theorem State.updTwin_runs (s : State) (f : Twin → Twin) : (s.updTwin f).runs = s.runs := rfl
@[simp] theorem State.updTwin_counters (s : State) (f : Twin → Twin) : (s.updTwin f).counters = s.counters := rfl
@[simp] theorem State.updTwin_changes (s : State) (f : Twin → Twin) : (s.updTwin f).changes = s.changes := rfl
@[simp] theorem State.updTwin_nextOrder (s : State) (f : Twin → Twin) : (s.updTwin f).nextOrder = s.nextOrder := rfl
@[simp] theorem State.updTwin_subs (s : State) (f : Twin → Twin) : (s.updTwin f).subs = s.subs := rfl
@[simp] theorem State.updTwin_fw (s : State) (f : Twin → Twin) : (s.updTwin f).fw = s.fw := rfl
@[simp] theorem State.updTwin_board (s : State) (f : Twin → Twin) : (s.updTwin f).board = s.board := rfl
@[simp] theorem State.updTwin_handles (s : State) (f : Twin → Twin) : (s.updTwin f).handles = s.handles := rfl
@[simp] theorem State.updTwin_keep (s : State) (f : Twin → Twin) : (s.updTwin f).keep = s.keep := rfl
@[simp] theorem State.updTwin_keepCrc (s : State) (f : Twin → Twin) : (s.updTwin f).keepCrc = s.keepCrc := rfl
@[simp] theorem State.updTwin_keepOk (s : State) (f : Twin → Twin) : (s.updTwin f).keepOk = s.keepOk := rfl
@[simp] theorem State.updTwin_keepDue (s : State) (f : Twin → Twin) : (s.updTwin f).keepDue = s.keepDue := rfl
@[simp] theorem State.updTwin_pd (s : State) (f : Twin → Twin) : (s.updTwin f).pd = s.pd := rfl
@[simp] theorem State.updTwin_load (s : State) (f : Twin → Twin) : (s.updTwin f).load = s.load := rfl
@[simp] theorem State.updTwin_dramOn (s : State) (f : Twin → Twin) : (s.updTwin f).dramOn = s.dramOn := rfl
@[simp] theorem State.updTwin_dram (s : State) (f : Twin → Twin) : (s.updTwin f).dram = s.dram := rfl
@[simp] theorem State.updTwin_mem (s : State) (f : Twin → Twin) : (s.updTwin f).mem = s.mem := rfl
@[simp] theorem State.updTwin_build (s : State) (f : Twin → Twin) : (s.updTwin f).build = s.build := rfl
@[simp] theorem State.updTwin_cfg (s : State) (f : Twin → Twin) : (s.updTwin f).cfg = s.cfg := rfl
@[simp] theorem State.updTwin_audio (s : State) (f : Twin → Twin) : (s.updTwin f).audio = s.audio := rfl
@[simp] theorem State.updTwin_pcie (s : State) (f : Twin → Twin) : (s.updTwin f).pcie = s.pcie := rfl
@[simp] theorem State.updTwin_sap (s : State) (f : Twin → Twin) : (s.updTwin f).sap = s.sap := rfl
@[simp] theorem State.updTwin_net (s : State) (f : Twin → Twin) : (s.updTwin f).net = s.net := rfl
@[simp] theorem State.updTwin_zen (s : State) (f : Twin → Twin) : (s.updTwin f).zen = s.zen := rfl
@[simp] theorem State.updTwin_pendReset (s : State) (f : Twin → Twin) : (s.updTwin f).pendReset = s.pendReset := rfl
@[simp] theorem State.updTwin_rpc (s : State) (f : Twin → Twin) : (s.updTwin f).rpc = s.rpc := rfl
@[simp] theorem State.updTwin_served (s : State) (f : Twin → Twin) : (s.updTwin f).served = s.served := rfl
@[simp] theorem State.updTwin_spi (s : State) (f : Twin → Twin) : (s.updTwin f).spi = s.spi := rfl
@[simp] theorem State.updTwin_posted (s : State) (f : Twin → Twin) : (s.updTwin f).posted = s.posted := rfl
@[simp] theorem State.updTwin_read (s : State) (f : Twin → Twin) : (s.updTwin f).read = s.read := rfl
@[simp] theorem State.updTwin_msixEnable (s : State) (f : Twin → Twin) : (s.updTwin f).msixEnable = s.msixEnable := rfl
@[simp] theorem State.updTwin_msixMask (s : State) (f : Twin → Twin) : (s.updTwin f).msixMask = s.msixMask := rfl
@[simp] theorem State.updTwin_messages (s : State) (f : Twin → Twin) : (s.updTwin f).messages = s.messages := rfl
@[simp] theorem State.updTwin_pending (s : State) (f : Twin → Twin) : (s.updTwin f).pending = s.pending := rfl

/-! Replacing a SAP group -/

@[simp] theorem State.putGroup_now (s : State) (g : Nat) (x : SapGroup) : (s.putGroup g x).now = s.now := rfl
@[simp] theorem State.putGroup_free (s : State) (g : Nat) (x : SapGroup) : (s.putGroup g x).free = s.free := rfl
@[simp] theorem State.putGroup_run (s : State) (g : Nat) (x : SapGroup) : (s.putGroup g x).run = s.run := rfl
@[simp] theorem State.putGroup_halt (s : State) (g : Nat) (x : SapGroup) : (s.putGroup g x).halt = s.halt := rfl
@[simp] theorem State.putGroup_rate (s : State) (g : Nat) (x : SapGroup) : (s.putGroup g x).rate = s.rate := rfl
@[simp] theorem State.putGroup_logQ (s : State) (g : Nat) (x : SapGroup) : (s.putGroup g x).logQ = s.logQ := rfl
@[simp] theorem State.putGroup_tu (s : State) (g : Nat) (x : SapGroup) : (s.putGroup g x).tu = s.tu := rfl
@[simp] theorem State.putGroup_regs (s : State) (g : Nat) (x : SapGroup) : (s.putGroup g x).regs = s.regs := rfl
@[simp] theorem State.putGroup_chans (s : State) (g : Nat) (x : SapGroup) : (s.putGroup g x).chans = s.chans := rfl
@[simp] theorem State.putGroup_log (s : State) (g : Nat) (x : SapGroup) : (s.putGroup g x).log = s.log := rfl
@[simp] theorem State.putGroup_runs (s : State) (g : Nat) (x : SapGroup) : (s.putGroup g x).runs = s.runs := rfl
@[simp] theorem State.putGroup_counters (s : State) (g : Nat) (x : SapGroup) : (s.putGroup g x).counters = s.counters := rfl
@[simp] theorem State.putGroup_changes (s : State) (g : Nat) (x : SapGroup) : (s.putGroup g x).changes = s.changes := rfl
@[simp] theorem State.putGroup_nextOrder (s : State) (g : Nat) (x : SapGroup) : (s.putGroup g x).nextOrder = s.nextOrder := rfl
@[simp] theorem State.putGroup_subs (s : State) (g : Nat) (x : SapGroup) : (s.putGroup g x).subs = s.subs := rfl
@[simp] theorem State.putGroup_fw (s : State) (g : Nat) (x : SapGroup) : (s.putGroup g x).fw = s.fw := rfl
@[simp] theorem State.putGroup_board (s : State) (g : Nat) (x : SapGroup) : (s.putGroup g x).board = s.board := rfl
@[simp] theorem State.putGroup_handles (s : State) (g : Nat) (x : SapGroup) : (s.putGroup g x).handles = s.handles := rfl
@[simp] theorem State.putGroup_keep (s : State) (g : Nat) (x : SapGroup) : (s.putGroup g x).keep = s.keep := rfl
@[simp] theorem State.putGroup_keepCrc (s : State) (g : Nat) (x : SapGroup) : (s.putGroup g x).keepCrc = s.keepCrc := rfl
@[simp] theorem State.putGroup_keepOk (s : State) (g : Nat) (x : SapGroup) : (s.putGroup g x).keepOk = s.keepOk := rfl
@[simp] theorem State.putGroup_keepDue (s : State) (g : Nat) (x : SapGroup) : (s.putGroup g x).keepDue = s.keepDue := rfl
@[simp] theorem State.putGroup_pd (s : State) (g : Nat) (x : SapGroup) : (s.putGroup g x).pd = s.pd := rfl
@[simp] theorem State.putGroup_load (s : State) (g : Nat) (x : SapGroup) : (s.putGroup g x).load = s.load := rfl
@[simp] theorem State.putGroup_dramOn (s : State) (g : Nat) (x : SapGroup) : (s.putGroup g x).dramOn = s.dramOn := rfl
@[simp] theorem State.putGroup_dram (s : State) (g : Nat) (x : SapGroup) : (s.putGroup g x).dram = s.dram := rfl
@[simp] theorem State.putGroup_mem (s : State) (g : Nat) (x : SapGroup) : (s.putGroup g x).mem = s.mem := rfl
@[simp] theorem State.putGroup_build (s : State) (g : Nat) (x : SapGroup) : (s.putGroup g x).build = s.build := rfl
@[simp] theorem State.putGroup_cfg (s : State) (g : Nat) (x : SapGroup) : (s.putGroup g x).cfg = s.cfg := rfl
@[simp] theorem State.putGroup_audio (s : State) (g : Nat) (x : SapGroup) : (s.putGroup g x).audio = s.audio := rfl
@[simp] theorem State.putGroup_pcie (s : State) (g : Nat) (x : SapGroup) : (s.putGroup g x).pcie = s.pcie := rfl
@[simp] theorem State.putGroup_net (s : State) (g : Nat) (x : SapGroup) : (s.putGroup g x).net = s.net := rfl
@[simp] theorem State.putGroup_zen (s : State) (g : Nat) (x : SapGroup) : (s.putGroup g x).zen = s.zen := rfl
@[simp] theorem State.putGroup_twin (s : State) (g : Nat) (x : SapGroup) : (s.putGroup g x).twin = s.twin := rfl
@[simp] theorem State.putGroup_pendReset (s : State) (g : Nat) (x : SapGroup) : (s.putGroup g x).pendReset = s.pendReset := rfl
@[simp] theorem State.putGroup_rpc (s : State) (g : Nat) (x : SapGroup) : (s.putGroup g x).rpc = s.rpc := rfl
@[simp] theorem State.putGroup_served (s : State) (g : Nat) (x : SapGroup) : (s.putGroup g x).served = s.served := rfl
@[simp] theorem State.putGroup_spi (s : State) (g : Nat) (x : SapGroup) : (s.putGroup g x).spi = s.spi := rfl
@[simp] theorem State.putGroup_posted (s : State) (g : Nat) (x : SapGroup) : (s.putGroup g x).posted = s.posted := rfl
@[simp] theorem State.putGroup_read (s : State) (g : Nat) (x : SapGroup) : (s.putGroup g x).read = s.read := rfl
@[simp] theorem State.putGroup_msixEnable (s : State) (g : Nat) (x : SapGroup) : (s.putGroup g x).msixEnable = s.msixEnable := rfl
@[simp] theorem State.putGroup_msixMask (s : State) (g : Nat) (x : SapGroup) : (s.putGroup g x).msixMask = s.msixMask := rfl
@[simp] theorem State.putGroup_messages (s : State) (g : Nat) (x : SapGroup) : (s.putGroup g x).messages = s.messages := rfl
@[simp] theorem State.putGroup_pending (s : State) (g : Nat) (x : SapGroup) : (s.putGroup g x).pending = s.pending := rfl

/-! Ending a run -/

@[simp] theorem State.endRun_now (s : State) (code key : Nat) : (s.endRun code key).now = s.now := rfl
@[simp] theorem State.endRun_free (s : State) (code key : Nat) : (s.endRun code key).free = s.free := rfl
@[simp] theorem State.endRun_run (s : State) (code key : Nat) : (s.endRun code key).run = s.run := rfl
@[simp] theorem State.endRun_halt (s : State) (code key : Nat) : (s.endRun code key).halt = s.halt := rfl
@[simp] theorem State.endRun_rate (s : State) (code key : Nat) : (s.endRun code key).rate = s.rate := rfl
@[simp] theorem State.endRun_logQ (s : State) (code key : Nat) : (s.endRun code key).logQ = s.logQ := rfl
@[simp] theorem State.endRun_tu (s : State) (code key : Nat) : (s.endRun code key).tu = s.tu := rfl
@[simp] theorem State.endRun_regs (s : State) (code key : Nat) : (s.endRun code key).regs = s.regs := rfl
@[simp] theorem State.endRun_chans (s : State) (code key : Nat) : (s.endRun code key).chans = s.chans := rfl
@[simp] theorem State.endRun_log (s : State) (code key : Nat) : (s.endRun code key).log = s.log := rfl
@[simp] theorem State.endRun_counters (s : State) (code key : Nat) : (s.endRun code key).counters = s.counters := rfl
@[simp] theorem State.endRun_changes (s : State) (code key : Nat) : (s.endRun code key).changes = s.changes := rfl
@[simp] theorem State.endRun_nextOrder (s : State) (code key : Nat) : (s.endRun code key).nextOrder = s.nextOrder := rfl
@[simp] theorem State.endRun_subs (s : State) (code key : Nat) : (s.endRun code key).subs = s.subs := rfl
@[simp] theorem State.endRun_fw (s : State) (code key : Nat) : (s.endRun code key).fw = s.fw := rfl
@[simp] theorem State.endRun_board (s : State) (code key : Nat) : (s.endRun code key).board = s.board := rfl
@[simp] theorem State.endRun_handles (s : State) (code key : Nat) : (s.endRun code key).handles = s.handles := rfl
@[simp] theorem State.endRun_keep (s : State) (code key : Nat) : (s.endRun code key).keep = s.keep := rfl
@[simp] theorem State.endRun_keepCrc (s : State) (code key : Nat) : (s.endRun code key).keepCrc = s.keepCrc := rfl
@[simp] theorem State.endRun_keepOk (s : State) (code key : Nat) : (s.endRun code key).keepOk = s.keepOk := rfl
@[simp] theorem State.endRun_keepDue (s : State) (code key : Nat) : (s.endRun code key).keepDue = s.keepDue := rfl
@[simp] theorem State.endRun_pd (s : State) (code key : Nat) : (s.endRun code key).pd = s.pd := rfl
@[simp] theorem State.endRun_load (s : State) (code key : Nat) : (s.endRun code key).load = s.load := rfl
@[simp] theorem State.endRun_dramOn (s : State) (code key : Nat) : (s.endRun code key).dramOn = s.dramOn := rfl
@[simp] theorem State.endRun_dram (s : State) (code key : Nat) : (s.endRun code key).dram = s.dram := rfl
@[simp] theorem State.endRun_mem (s : State) (code key : Nat) : (s.endRun code key).mem = s.mem := rfl
@[simp] theorem State.endRun_build (s : State) (code key : Nat) : (s.endRun code key).build = s.build := rfl
@[simp] theorem State.endRun_cfg (s : State) (code key : Nat) : (s.endRun code key).cfg = s.cfg := rfl
@[simp] theorem State.endRun_audio (s : State) (code key : Nat) : (s.endRun code key).audio = s.audio := rfl
@[simp] theorem State.endRun_pcie (s : State) (code key : Nat) : (s.endRun code key).pcie = s.pcie := rfl
@[simp] theorem State.endRun_sap (s : State) (code key : Nat) : (s.endRun code key).sap = s.sap := rfl
@[simp] theorem State.endRun_net (s : State) (code key : Nat) : (s.endRun code key).net = s.net := rfl
@[simp] theorem State.endRun_zen (s : State) (code key : Nat) : (s.endRun code key).zen = s.zen := rfl
@[simp] theorem State.endRun_twin (s : State) (code key : Nat) : (s.endRun code key).twin = s.twin := rfl
@[simp] theorem State.endRun_pendReset (s : State) (code key : Nat) : (s.endRun code key).pendReset = s.pendReset := rfl
@[simp] theorem State.endRun_rpc (s : State) (code key : Nat) : (s.endRun code key).rpc = s.rpc := rfl
@[simp] theorem State.endRun_served (s : State) (code key : Nat) : (s.endRun code key).served = s.served := rfl
@[simp] theorem State.endRun_spi (s : State) (code key : Nat) : (s.endRun code key).spi = s.spi := rfl
@[simp] theorem State.endRun_posted (s : State) (code key : Nat) : (s.endRun code key).posted = s.posted := rfl
@[simp] theorem State.endRun_read (s : State) (code key : Nat) : (s.endRun code key).read = s.read := rfl
@[simp] theorem State.endRun_msixEnable (s : State) (code key : Nat) : (s.endRun code key).msixEnable = s.msixEnable := rfl
@[simp] theorem State.endRun_msixMask (s : State) (code key : Nat) : (s.endRun code key).msixMask = s.msixMask := rfl
@[simp] theorem State.endRun_messages (s : State) (code key : Nat) : (s.endRun code key).messages = s.messages := rfl
@[simp] theorem State.endRun_pending (s : State) (code key : Nat) : (s.endRun code key).pending = s.pending := rfl

/-! Ending the runs of violations -/

@[simp] theorem State.noViolation_now (s : State) (ch : Nat) : (s.noViolation ch).now = s.now := rfl
@[simp] theorem State.noViolation_free (s : State) (ch : Nat) : (s.noViolation ch).free = s.free := rfl
@[simp] theorem State.noViolation_run (s : State) (ch : Nat) : (s.noViolation ch).run = s.run := rfl
@[simp] theorem State.noViolation_halt (s : State) (ch : Nat) : (s.noViolation ch).halt = s.halt := rfl
@[simp] theorem State.noViolation_rate (s : State) (ch : Nat) : (s.noViolation ch).rate = s.rate := rfl
@[simp] theorem State.noViolation_logQ (s : State) (ch : Nat) : (s.noViolation ch).logQ = s.logQ := rfl
@[simp] theorem State.noViolation_tu (s : State) (ch : Nat) : (s.noViolation ch).tu = s.tu := rfl
@[simp] theorem State.noViolation_regs (s : State) (ch : Nat) : (s.noViolation ch).regs = s.regs := rfl
@[simp] theorem State.noViolation_chans (s : State) (ch : Nat) : (s.noViolation ch).chans = s.chans := rfl
@[simp] theorem State.noViolation_log (s : State) (ch : Nat) : (s.noViolation ch).log = s.log := rfl
@[simp] theorem State.noViolation_counters (s : State) (ch : Nat) : (s.noViolation ch).counters = s.counters := rfl
@[simp] theorem State.noViolation_changes (s : State) (ch : Nat) : (s.noViolation ch).changes = s.changes := rfl
@[simp] theorem State.noViolation_nextOrder (s : State) (ch : Nat) : (s.noViolation ch).nextOrder = s.nextOrder := rfl
@[simp] theorem State.noViolation_subs (s : State) (ch : Nat) : (s.noViolation ch).subs = s.subs := rfl
@[simp] theorem State.noViolation_fw (s : State) (ch : Nat) : (s.noViolation ch).fw = s.fw := rfl
@[simp] theorem State.noViolation_board (s : State) (ch : Nat) : (s.noViolation ch).board = s.board := rfl
@[simp] theorem State.noViolation_handles (s : State) (ch : Nat) : (s.noViolation ch).handles = s.handles := rfl
@[simp] theorem State.noViolation_keep (s : State) (ch : Nat) : (s.noViolation ch).keep = s.keep := rfl
@[simp] theorem State.noViolation_keepCrc (s : State) (ch : Nat) : (s.noViolation ch).keepCrc = s.keepCrc := rfl
@[simp] theorem State.noViolation_keepOk (s : State) (ch : Nat) : (s.noViolation ch).keepOk = s.keepOk := rfl
@[simp] theorem State.noViolation_keepDue (s : State) (ch : Nat) : (s.noViolation ch).keepDue = s.keepDue := rfl
@[simp] theorem State.noViolation_pd (s : State) (ch : Nat) : (s.noViolation ch).pd = s.pd := rfl
@[simp] theorem State.noViolation_load (s : State) (ch : Nat) : (s.noViolation ch).load = s.load := rfl
@[simp] theorem State.noViolation_dramOn (s : State) (ch : Nat) : (s.noViolation ch).dramOn = s.dramOn := rfl
@[simp] theorem State.noViolation_dram (s : State) (ch : Nat) : (s.noViolation ch).dram = s.dram := rfl
@[simp] theorem State.noViolation_mem (s : State) (ch : Nat) : (s.noViolation ch).mem = s.mem := rfl
@[simp] theorem State.noViolation_build (s : State) (ch : Nat) : (s.noViolation ch).build = s.build := rfl
@[simp] theorem State.noViolation_cfg (s : State) (ch : Nat) : (s.noViolation ch).cfg = s.cfg := rfl
@[simp] theorem State.noViolation_audio (s : State) (ch : Nat) : (s.noViolation ch).audio = s.audio := rfl
@[simp] theorem State.noViolation_pcie (s : State) (ch : Nat) : (s.noViolation ch).pcie = s.pcie := rfl
@[simp] theorem State.noViolation_sap (s : State) (ch : Nat) : (s.noViolation ch).sap = s.sap := rfl
@[simp] theorem State.noViolation_net (s : State) (ch : Nat) : (s.noViolation ch).net = s.net := rfl
@[simp] theorem State.noViolation_zen (s : State) (ch : Nat) : (s.noViolation ch).zen = s.zen := rfl
@[simp] theorem State.noViolation_twin (s : State) (ch : Nat) : (s.noViolation ch).twin = s.twin := rfl
@[simp] theorem State.noViolation_pendReset (s : State) (ch : Nat) : (s.noViolation ch).pendReset = s.pendReset := rfl
@[simp] theorem State.noViolation_rpc (s : State) (ch : Nat) : (s.noViolation ch).rpc = s.rpc := rfl
@[simp] theorem State.noViolation_served (s : State) (ch : Nat) : (s.noViolation ch).served = s.served := rfl
@[simp] theorem State.noViolation_spi (s : State) (ch : Nat) : (s.noViolation ch).spi = s.spi := rfl
@[simp] theorem State.noViolation_posted (s : State) (ch : Nat) : (s.noViolation ch).posted = s.posted := rfl
@[simp] theorem State.noViolation_read (s : State) (ch : Nat) : (s.noViolation ch).read = s.read := rfl
@[simp] theorem State.noViolation_msixEnable (s : State) (ch : Nat) : (s.noViolation ch).msixEnable = s.msixEnable := rfl
@[simp] theorem State.noViolation_msixMask (s : State) (ch : Nat) : (s.noViolation ch).msixMask = s.msixMask := rfl
@[simp] theorem State.noViolation_messages (s : State) (ch : Nat) : (s.noViolation ch).messages = s.messages := rfl
@[simp] theorem State.noViolation_pending (s : State) (ch : Nat) : (s.noViolation ch).pending = s.pending := rfl

/-! Counting -/

@[simp] theorem State.count_now (s : State) (c i n : Nat) : (s.count c i n).now = s.now := by unfold State.count; split <;> rfl
@[simp] theorem State.count_free (s : State) (c i n : Nat) : (s.count c i n).free = s.free := by unfold State.count; split <;> rfl
@[simp] theorem State.count_run (s : State) (c i n : Nat) : (s.count c i n).run = s.run := by unfold State.count; split <;> rfl
@[simp] theorem State.count_halt (s : State) (c i n : Nat) : (s.count c i n).halt = s.halt := by unfold State.count; split <;> rfl
@[simp] theorem State.count_rate (s : State) (c i n : Nat) : (s.count c i n).rate = s.rate := by unfold State.count; split <;> rfl
@[simp] theorem State.count_logQ (s : State) (c i n : Nat) : (s.count c i n).logQ = s.logQ := by unfold State.count; split <;> rfl
@[simp] theorem State.count_tu (s : State) (c i n : Nat) : (s.count c i n).tu = s.tu := by unfold State.count; split <;> rfl
@[simp] theorem State.count_regs (s : State) (c i n : Nat) : (s.count c i n).regs = s.regs := by unfold State.count; split <;> rfl
@[simp] theorem State.count_chans (s : State) (c i n : Nat) : (s.count c i n).chans = s.chans := by unfold State.count; split <;> rfl
@[simp] theorem State.count_log (s : State) (c i n : Nat) : (s.count c i n).log = s.log := by unfold State.count; split <;> rfl
@[simp] theorem State.count_runs (s : State) (c i n : Nat) : (s.count c i n).runs = s.runs := by unfold State.count; split <;> rfl
@[simp] theorem State.count_changes (s : State) (c i n : Nat) : (s.count c i n).changes = s.changes := by unfold State.count; split <;> rfl
@[simp] theorem State.count_nextOrder (s : State) (c i n : Nat) : (s.count c i n).nextOrder = s.nextOrder := by unfold State.count; split <;> rfl
@[simp] theorem State.count_subs (s : State) (c i n : Nat) : (s.count c i n).subs = s.subs := by unfold State.count; split <;> rfl
@[simp] theorem State.count_fw (s : State) (c i n : Nat) : (s.count c i n).fw = s.fw := by unfold State.count; split <;> rfl
@[simp] theorem State.count_board (s : State) (c i n : Nat) : (s.count c i n).board = s.board := by unfold State.count; split <;> rfl
@[simp] theorem State.count_handles (s : State) (c i n : Nat) : (s.count c i n).handles = s.handles := by unfold State.count; split <;> rfl
@[simp] theorem State.count_keep (s : State) (c i n : Nat) : (s.count c i n).keep = s.keep := by unfold State.count; split <;> rfl
@[simp] theorem State.count_keepCrc (s : State) (c i n : Nat) : (s.count c i n).keepCrc = s.keepCrc := by unfold State.count; split <;> rfl
@[simp] theorem State.count_keepOk (s : State) (c i n : Nat) : (s.count c i n).keepOk = s.keepOk := by unfold State.count; split <;> rfl
@[simp] theorem State.count_keepDue (s : State) (c i n : Nat) : (s.count c i n).keepDue = s.keepDue := by unfold State.count; split <;> rfl
@[simp] theorem State.count_pd (s : State) (c i n : Nat) : (s.count c i n).pd = s.pd := by unfold State.count; split <;> rfl
@[simp] theorem State.count_load (s : State) (c i n : Nat) : (s.count c i n).load = s.load := by unfold State.count; split <;> rfl
@[simp] theorem State.count_dramOn (s : State) (c i n : Nat) : (s.count c i n).dramOn = s.dramOn := by unfold State.count; split <;> rfl
@[simp] theorem State.count_dram (s : State) (c i n : Nat) : (s.count c i n).dram = s.dram := by unfold State.count; split <;> rfl
@[simp] theorem State.count_mem (s : State) (c i n : Nat) : (s.count c i n).mem = s.mem := by unfold State.count; split <;> rfl
@[simp] theorem State.count_build (s : State) (c i n : Nat) : (s.count c i n).build = s.build := by unfold State.count; split <;> rfl
@[simp] theorem State.count_cfg (s : State) (c i n : Nat) : (s.count c i n).cfg = s.cfg := by unfold State.count; split <;> rfl
@[simp] theorem State.count_audio (s : State) (c i n : Nat) : (s.count c i n).audio = s.audio := by unfold State.count; split <;> rfl
@[simp] theorem State.count_pcie (s : State) (c i n : Nat) : (s.count c i n).pcie = s.pcie := by unfold State.count; split <;> rfl
@[simp] theorem State.count_sap (s : State) (c i n : Nat) : (s.count c i n).sap = s.sap := by unfold State.count; split <;> rfl
@[simp] theorem State.count_net (s : State) (c i n : Nat) : (s.count c i n).net = s.net := by unfold State.count; split <;> rfl
@[simp] theorem State.count_zen (s : State) (c i n : Nat) : (s.count c i n).zen = s.zen := by unfold State.count; split <;> rfl
@[simp] theorem State.count_twin (s : State) (c i n : Nat) : (s.count c i n).twin = s.twin := by unfold State.count; split <;> rfl
@[simp] theorem State.count_pendReset (s : State) (c i n : Nat) : (s.count c i n).pendReset = s.pendReset := by unfold State.count; split <;> rfl
@[simp] theorem State.count_rpc (s : State) (c i n : Nat) : (s.count c i n).rpc = s.rpc := by unfold State.count; split <;> rfl
@[simp] theorem State.count_served (s : State) (c i n : Nat) : (s.count c i n).served = s.served := by unfold State.count; split <;> rfl
@[simp] theorem State.count_spi (s : State) (c i n : Nat) : (s.count c i n).spi = s.spi := by unfold State.count; split <;> rfl
@[simp] theorem State.count_posted (s : State) (c i n : Nat) : (s.count c i n).posted = s.posted := by unfold State.count; split <;> rfl
@[simp] theorem State.count_read (s : State) (c i n : Nat) : (s.count c i n).read = s.read := by unfold State.count; split <;> rfl
@[simp] theorem State.count_msixEnable (s : State) (c i n : Nat) : (s.count c i n).msixEnable = s.msixEnable := by unfold State.count; split <;> rfl
@[simp] theorem State.count_msixMask (s : State) (c i n : Nat) : (s.count c i n).msixMask = s.msixMask := by unfold State.count; split <;> rfl
@[simp] theorem State.count_messages (s : State) (c i n : Nat) : (s.count c i n).messages = s.messages := by unfold State.count; split <;> rfl
@[simp] theorem State.count_pending (s : State) (c i n : Nat) : (s.count c i n).pending = s.pending := by unfold State.count; split <;> rfl

/-! Logging -/

@[simp] theorem State.logAt_now (s : State) (code : Nat) (i : Int) (vs : List Int) : (s.logAt code i vs).now = s.now := by unfold State.logAt; dsimp only; split <;> split <;> rfl
@[simp] theorem State.logAt_free (s : State) (code : Nat) (i : Int) (vs : List Int) : (s.logAt code i vs).free = s.free := by unfold State.logAt; dsimp only; split <;> split <;> rfl
@[simp] theorem State.logAt_run (s : State) (code : Nat) (i : Int) (vs : List Int) : (s.logAt code i vs).run = s.run := by unfold State.logAt; dsimp only; split <;> split <;> rfl
@[simp] theorem State.logAt_halt (s : State) (code : Nat) (i : Int) (vs : List Int) : (s.logAt code i vs).halt = s.halt := by unfold State.logAt; dsimp only; split <;> split <;> rfl
@[simp] theorem State.logAt_rate (s : State) (code : Nat) (i : Int) (vs : List Int) : (s.logAt code i vs).rate = s.rate := by unfold State.logAt; dsimp only; split <;> split <;> rfl
@[simp] theorem State.logAt_logQ (s : State) (code : Nat) (i : Int) (vs : List Int) : (s.logAt code i vs).logQ = s.logQ := by unfold State.logAt; dsimp only; split <;> split <;> rfl
@[simp] theorem State.logAt_tu (s : State) (code : Nat) (i : Int) (vs : List Int) : (s.logAt code i vs).tu = s.tu := by unfold State.logAt; dsimp only; split <;> split <;> rfl
@[simp] theorem State.logAt_chans (s : State) (code : Nat) (i : Int) (vs : List Int) : (s.logAt code i vs).chans = s.chans := by unfold State.logAt; dsimp only; split <;> split <;> rfl
@[simp] theorem State.logAt_runs (s : State) (code : Nat) (i : Int) (vs : List Int) : (s.logAt code i vs).runs = s.runs := by unfold State.logAt; dsimp only; split <;> split <;> rfl
@[simp] theorem State.logAt_counters (s : State) (code : Nat) (i : Int) (vs : List Int) : (s.logAt code i vs).counters = s.counters := by unfold State.logAt; dsimp only; split <;> split <;> rfl
@[simp] theorem State.logAt_changes (s : State) (code : Nat) (i : Int) (vs : List Int) : (s.logAt code i vs).changes = s.changes := by unfold State.logAt; dsimp only; split <;> split <;> rfl
@[simp] theorem State.logAt_nextOrder (s : State) (code : Nat) (i : Int) (vs : List Int) : (s.logAt code i vs).nextOrder = s.nextOrder := by unfold State.logAt; dsimp only; split <;> split <;> rfl
@[simp] theorem State.logAt_subs (s : State) (code : Nat) (i : Int) (vs : List Int) : (s.logAt code i vs).subs = s.subs := by unfold State.logAt; dsimp only; split <;> split <;> rfl
@[simp] theorem State.logAt_fw (s : State) (code : Nat) (i : Int) (vs : List Int) : (s.logAt code i vs).fw = s.fw := by unfold State.logAt; dsimp only; split <;> split <;> rfl
@[simp] theorem State.logAt_board (s : State) (code : Nat) (i : Int) (vs : List Int) : (s.logAt code i vs).board = s.board := by unfold State.logAt; dsimp only; split <;> split <;> rfl
@[simp] theorem State.logAt_handles (s : State) (code : Nat) (i : Int) (vs : List Int) : (s.logAt code i vs).handles = s.handles := by unfold State.logAt; dsimp only; split <;> split <;> rfl
@[simp] theorem State.logAt_keep (s : State) (code : Nat) (i : Int) (vs : List Int) : (s.logAt code i vs).keep = s.keep := by unfold State.logAt; dsimp only; split <;> split <;> rfl
@[simp] theorem State.logAt_keepCrc (s : State) (code : Nat) (i : Int) (vs : List Int) : (s.logAt code i vs).keepCrc = s.keepCrc := by unfold State.logAt; dsimp only; split <;> split <;> rfl
@[simp] theorem State.logAt_keepOk (s : State) (code : Nat) (i : Int) (vs : List Int) : (s.logAt code i vs).keepOk = s.keepOk := by unfold State.logAt; dsimp only; split <;> split <;> rfl
@[simp] theorem State.logAt_keepDue (s : State) (code : Nat) (i : Int) (vs : List Int) : (s.logAt code i vs).keepDue = s.keepDue := by unfold State.logAt; dsimp only; split <;> split <;> rfl
@[simp] theorem State.logAt_pd (s : State) (code : Nat) (i : Int) (vs : List Int) : (s.logAt code i vs).pd = s.pd := by unfold State.logAt; dsimp only; split <;> split <;> rfl
@[simp] theorem State.logAt_load (s : State) (code : Nat) (i : Int) (vs : List Int) : (s.logAt code i vs).load = s.load := by unfold State.logAt; dsimp only; split <;> split <;> rfl
@[simp] theorem State.logAt_dramOn (s : State) (code : Nat) (i : Int) (vs : List Int) : (s.logAt code i vs).dramOn = s.dramOn := by unfold State.logAt; dsimp only; split <;> split <;> rfl
@[simp] theorem State.logAt_dram (s : State) (code : Nat) (i : Int) (vs : List Int) : (s.logAt code i vs).dram = s.dram := by unfold State.logAt; dsimp only; split <;> split <;> rfl
@[simp] theorem State.logAt_mem (s : State) (code : Nat) (i : Int) (vs : List Int) : (s.logAt code i vs).mem = s.mem := by unfold State.logAt; dsimp only; split <;> split <;> rfl
@[simp] theorem State.logAt_build (s : State) (code : Nat) (i : Int) (vs : List Int) : (s.logAt code i vs).build = s.build := by unfold State.logAt; dsimp only; split <;> split <;> rfl
@[simp] theorem State.logAt_cfg (s : State) (code : Nat) (i : Int) (vs : List Int) : (s.logAt code i vs).cfg = s.cfg := by unfold State.logAt; dsimp only; split <;> split <;> rfl
@[simp] theorem State.logAt_audio (s : State) (code : Nat) (i : Int) (vs : List Int) : (s.logAt code i vs).audio = s.audio := by unfold State.logAt; dsimp only; split <;> split <;> rfl
@[simp] theorem State.logAt_pcie (s : State) (code : Nat) (i : Int) (vs : List Int) : (s.logAt code i vs).pcie = s.pcie := by unfold State.logAt; dsimp only; split <;> split <;> rfl
@[simp] theorem State.logAt_sap (s : State) (code : Nat) (i : Int) (vs : List Int) : (s.logAt code i vs).sap = s.sap := by unfold State.logAt; dsimp only; split <;> split <;> rfl
@[simp] theorem State.logAt_net (s : State) (code : Nat) (i : Int) (vs : List Int) : (s.logAt code i vs).net = s.net := by unfold State.logAt; dsimp only; split <;> split <;> rfl
@[simp] theorem State.logAt_zen (s : State) (code : Nat) (i : Int) (vs : List Int) : (s.logAt code i vs).zen = s.zen := by unfold State.logAt; dsimp only; split <;> split <;> rfl
@[simp] theorem State.logAt_twin (s : State) (code : Nat) (i : Int) (vs : List Int) : (s.logAt code i vs).twin = s.twin := by unfold State.logAt; dsimp only; split <;> split <;> rfl
@[simp] theorem State.logAt_pendReset (s : State) (code : Nat) (i : Int) (vs : List Int) : (s.logAt code i vs).pendReset = s.pendReset := by unfold State.logAt; dsimp only; split <;> split <;> rfl
@[simp] theorem State.logAt_rpc (s : State) (code : Nat) (i : Int) (vs : List Int) : (s.logAt code i vs).rpc = s.rpc := by unfold State.logAt; dsimp only; split <;> split <;> rfl
@[simp] theorem State.logAt_served (s : State) (code : Nat) (i : Int) (vs : List Int) : (s.logAt code i vs).served = s.served := by unfold State.logAt; dsimp only; split <;> split <;> rfl
@[simp] theorem State.logAt_spi (s : State) (code : Nat) (i : Int) (vs : List Int) : (s.logAt code i vs).spi = s.spi := by unfold State.logAt; dsimp only; split <;> split <;> rfl
@[simp] theorem State.logAt_posted (s : State) (code : Nat) (i : Int) (vs : List Int) : (s.logAt code i vs).posted = s.posted := by unfold State.logAt; dsimp only; split <;> split <;> rfl
@[simp] theorem State.logAt_read (s : State) (code : Nat) (i : Int) (vs : List Int) : (s.logAt code i vs).read = s.read := by unfold State.logAt; dsimp only; split <;> split <;> rfl
@[simp] theorem State.logAt_msixEnable (s : State) (code : Nat) (i : Int) (vs : List Int) : (s.logAt code i vs).msixEnable = s.msixEnable := by unfold State.logAt; dsimp only; split <;> split <;> rfl
@[simp] theorem State.logAt_msixMask (s : State) (code : Nat) (i : Int) (vs : List Int) : (s.logAt code i vs).msixMask = s.msixMask := by unfold State.logAt; dsimp only; split <;> split <;> rfl
@[simp] theorem State.logAt_messages (s : State) (code : Nat) (i : Int) (vs : List Int) : (s.logAt code i vs).messages = s.messages := by unfold State.logAt; dsimp only; split <;> split <;> rfl
@[simp] theorem State.logAt_pending (s : State) (code : Nat) (i : Int) (vs : List Int) : (s.logAt code i vs).pending = s.pending := by unfold State.logAt; dsimp only; split <;> split <;> rfl

/-! Logging at the quantum in progress -/

@[simp] theorem State.logNow_now (s : State) (code : Nat) (vs : List Int) : (s.logNow code vs).now = s.now := s.logAt_now code s.curFirst vs
@[simp] theorem State.logNow_free (s : State) (code : Nat) (vs : List Int) : (s.logNow code vs).free = s.free := s.logAt_free code s.curFirst vs
@[simp] theorem State.logNow_run (s : State) (code : Nat) (vs : List Int) : (s.logNow code vs).run = s.run := s.logAt_run code s.curFirst vs
@[simp] theorem State.logNow_halt (s : State) (code : Nat) (vs : List Int) : (s.logNow code vs).halt = s.halt := s.logAt_halt code s.curFirst vs
@[simp] theorem State.logNow_rate (s : State) (code : Nat) (vs : List Int) : (s.logNow code vs).rate = s.rate := s.logAt_rate code s.curFirst vs
@[simp] theorem State.logNow_logQ (s : State) (code : Nat) (vs : List Int) : (s.logNow code vs).logQ = s.logQ := s.logAt_logQ code s.curFirst vs
@[simp] theorem State.logNow_tu (s : State) (code : Nat) (vs : List Int) : (s.logNow code vs).tu = s.tu := s.logAt_tu code s.curFirst vs
@[simp] theorem State.logNow_chans (s : State) (code : Nat) (vs : List Int) : (s.logNow code vs).chans = s.chans := s.logAt_chans code s.curFirst vs
@[simp] theorem State.logNow_runs (s : State) (code : Nat) (vs : List Int) : (s.logNow code vs).runs = s.runs := s.logAt_runs code s.curFirst vs
@[simp] theorem State.logNow_counters (s : State) (code : Nat) (vs : List Int) : (s.logNow code vs).counters = s.counters := s.logAt_counters code s.curFirst vs
@[simp] theorem State.logNow_changes (s : State) (code : Nat) (vs : List Int) : (s.logNow code vs).changes = s.changes := s.logAt_changes code s.curFirst vs
@[simp] theorem State.logNow_nextOrder (s : State) (code : Nat) (vs : List Int) : (s.logNow code vs).nextOrder = s.nextOrder := s.logAt_nextOrder code s.curFirst vs
@[simp] theorem State.logNow_subs (s : State) (code : Nat) (vs : List Int) : (s.logNow code vs).subs = s.subs := s.logAt_subs code s.curFirst vs
@[simp] theorem State.logNow_fw (s : State) (code : Nat) (vs : List Int) : (s.logNow code vs).fw = s.fw := s.logAt_fw code s.curFirst vs
@[simp] theorem State.logNow_board (s : State) (code : Nat) (vs : List Int) : (s.logNow code vs).board = s.board := s.logAt_board code s.curFirst vs
@[simp] theorem State.logNow_handles (s : State) (code : Nat) (vs : List Int) : (s.logNow code vs).handles = s.handles := s.logAt_handles code s.curFirst vs
@[simp] theorem State.logNow_keep (s : State) (code : Nat) (vs : List Int) : (s.logNow code vs).keep = s.keep := s.logAt_keep code s.curFirst vs
@[simp] theorem State.logNow_keepCrc (s : State) (code : Nat) (vs : List Int) : (s.logNow code vs).keepCrc = s.keepCrc := s.logAt_keepCrc code s.curFirst vs
@[simp] theorem State.logNow_keepOk (s : State) (code : Nat) (vs : List Int) : (s.logNow code vs).keepOk = s.keepOk := s.logAt_keepOk code s.curFirst vs
@[simp] theorem State.logNow_keepDue (s : State) (code : Nat) (vs : List Int) : (s.logNow code vs).keepDue = s.keepDue := s.logAt_keepDue code s.curFirst vs
@[simp] theorem State.logNow_pd (s : State) (code : Nat) (vs : List Int) : (s.logNow code vs).pd = s.pd := s.logAt_pd code s.curFirst vs
@[simp] theorem State.logNow_load (s : State) (code : Nat) (vs : List Int) : (s.logNow code vs).load = s.load := s.logAt_load code s.curFirst vs
@[simp] theorem State.logNow_dramOn (s : State) (code : Nat) (vs : List Int) : (s.logNow code vs).dramOn = s.dramOn := s.logAt_dramOn code s.curFirst vs
@[simp] theorem State.logNow_dram (s : State) (code : Nat) (vs : List Int) : (s.logNow code vs).dram = s.dram := s.logAt_dram code s.curFirst vs
@[simp] theorem State.logNow_mem (s : State) (code : Nat) (vs : List Int) : (s.logNow code vs).mem = s.mem := s.logAt_mem code s.curFirst vs
@[simp] theorem State.logNow_build (s : State) (code : Nat) (vs : List Int) : (s.logNow code vs).build = s.build := s.logAt_build code s.curFirst vs
@[simp] theorem State.logNow_cfg (s : State) (code : Nat) (vs : List Int) : (s.logNow code vs).cfg = s.cfg := s.logAt_cfg code s.curFirst vs
@[simp] theorem State.logNow_audio (s : State) (code : Nat) (vs : List Int) : (s.logNow code vs).audio = s.audio := s.logAt_audio code s.curFirst vs
@[simp] theorem State.logNow_pcie (s : State) (code : Nat) (vs : List Int) : (s.logNow code vs).pcie = s.pcie := s.logAt_pcie code s.curFirst vs
@[simp] theorem State.logNow_sap (s : State) (code : Nat) (vs : List Int) : (s.logNow code vs).sap = s.sap := s.logAt_sap code s.curFirst vs
@[simp] theorem State.logNow_net (s : State) (code : Nat) (vs : List Int) : (s.logNow code vs).net = s.net := s.logAt_net code s.curFirst vs
@[simp] theorem State.logNow_zen (s : State) (code : Nat) (vs : List Int) : (s.logNow code vs).zen = s.zen := s.logAt_zen code s.curFirst vs
@[simp] theorem State.logNow_twin (s : State) (code : Nat) (vs : List Int) : (s.logNow code vs).twin = s.twin := s.logAt_twin code s.curFirst vs
@[simp] theorem State.logNow_pendReset (s : State) (code : Nat) (vs : List Int) : (s.logNow code vs).pendReset = s.pendReset := s.logAt_pendReset code s.curFirst vs
@[simp] theorem State.logNow_rpc (s : State) (code : Nat) (vs : List Int) : (s.logNow code vs).rpc = s.rpc := s.logAt_rpc code s.curFirst vs
@[simp] theorem State.logNow_served (s : State) (code : Nat) (vs : List Int) : (s.logNow code vs).served = s.served := s.logAt_served code s.curFirst vs
@[simp] theorem State.logNow_spi (s : State) (code : Nat) (vs : List Int) : (s.logNow code vs).spi = s.spi := s.logAt_spi code s.curFirst vs
@[simp] theorem State.logNow_posted (s : State) (code : Nat) (vs : List Int) : (s.logNow code vs).posted = s.posted := s.logAt_posted code s.curFirst vs
@[simp] theorem State.logNow_read (s : State) (code : Nat) (vs : List Int) : (s.logNow code vs).read = s.read := s.logAt_read code s.curFirst vs
@[simp] theorem State.logNow_msixEnable (s : State) (code : Nat) (vs : List Int) : (s.logNow code vs).msixEnable = s.msixEnable := s.logAt_msixEnable code s.curFirst vs
@[simp] theorem State.logNow_msixMask (s : State) (code : Nat) (vs : List Int) : (s.logNow code vs).msixMask = s.msixMask := s.logAt_msixMask code s.curFirst vs
@[simp] theorem State.logNow_messages (s : State) (code : Nat) (vs : List Int) : (s.logNow code vs).messages = s.messages := s.logAt_messages code s.curFirst vs
@[simp] theorem State.logNow_pending (s : State) (code : Nat) (vs : List Int) : (s.logNow code vs).pending = s.pending := s.logAt_pending code s.curFirst vs

/-! Answering a packet -/

@[simp] theorem State.answer_now (s : State) (op : Nat) (p : Packet) (st : Status) (d : Nat) (i : Int) (ws : List Word) : (s.answer op p st d i ws).now = s.now := by unfold State.answer; dsimp only; split <;> rfl
@[simp] theorem State.answer_free (s : State) (op : Nat) (p : Packet) (st : Status) (d : Nat) (i : Int) (ws : List Word) : (s.answer op p st d i ws).free = s.free := by unfold State.answer; dsimp only; split <;> rfl
@[simp] theorem State.answer_run (s : State) (op : Nat) (p : Packet) (st : Status) (d : Nat) (i : Int) (ws : List Word) : (s.answer op p st d i ws).run = s.run := by unfold State.answer; dsimp only; split <;> rfl
@[simp] theorem State.answer_halt (s : State) (op : Nat) (p : Packet) (st : Status) (d : Nat) (i : Int) (ws : List Word) : (s.answer op p st d i ws).halt = s.halt := by unfold State.answer; dsimp only; split <;> rfl
@[simp] theorem State.answer_rate (s : State) (op : Nat) (p : Packet) (st : Status) (d : Nat) (i : Int) (ws : List Word) : (s.answer op p st d i ws).rate = s.rate := by unfold State.answer; dsimp only; split <;> rfl
@[simp] theorem State.answer_logQ (s : State) (op : Nat) (p : Packet) (st : Status) (d : Nat) (i : Int) (ws : List Word) : (s.answer op p st d i ws).logQ = s.logQ := by unfold State.answer; dsimp only; split <;> rfl
@[simp] theorem State.answer_tu (s : State) (op : Nat) (p : Packet) (st : Status) (d : Nat) (i : Int) (ws : List Word) : (s.answer op p st d i ws).tu = s.tu := by unfold State.answer; dsimp only; split <;> rfl
@[simp] theorem State.answer_regs (s : State) (op : Nat) (p : Packet) (st : Status) (d : Nat) (i : Int) (ws : List Word) : (s.answer op p st d i ws).regs = s.regs := by unfold State.answer; dsimp only; split <;> rfl
@[simp] theorem State.answer_log (s : State) (op : Nat) (p : Packet) (st : Status) (d : Nat) (i : Int) (ws : List Word) : (s.answer op p st d i ws).log = s.log := by unfold State.answer; dsimp only; split <;> rfl
@[simp] theorem State.answer_runs (s : State) (op : Nat) (p : Packet) (st : Status) (d : Nat) (i : Int) (ws : List Word) : (s.answer op p st d i ws).runs = s.runs := by unfold State.answer; dsimp only; split <;> rfl
@[simp] theorem State.answer_counters (s : State) (op : Nat) (p : Packet) (st : Status) (d : Nat) (i : Int) (ws : List Word) : (s.answer op p st d i ws).counters = s.counters := by unfold State.answer; dsimp only; split <;> rfl
@[simp] theorem State.answer_changes (s : State) (op : Nat) (p : Packet) (st : Status) (d : Nat) (i : Int) (ws : List Word) : (s.answer op p st d i ws).changes = s.changes := by unfold State.answer; dsimp only; split <;> rfl
@[simp] theorem State.answer_nextOrder (s : State) (op : Nat) (p : Packet) (st : Status) (d : Nat) (i : Int) (ws : List Word) : (s.answer op p st d i ws).nextOrder = s.nextOrder := by unfold State.answer; dsimp only; split <;> rfl
@[simp] theorem State.answer_subs (s : State) (op : Nat) (p : Packet) (st : Status) (d : Nat) (i : Int) (ws : List Word) : (s.answer op p st d i ws).subs = s.subs := by unfold State.answer; dsimp only; split <;> rfl
@[simp] theorem State.answer_fw (s : State) (op : Nat) (p : Packet) (st : Status) (d : Nat) (i : Int) (ws : List Word) : (s.answer op p st d i ws).fw = s.fw := by unfold State.answer; dsimp only; split <;> rfl
@[simp] theorem State.answer_board (s : State) (op : Nat) (p : Packet) (st : Status) (d : Nat) (i : Int) (ws : List Word) : (s.answer op p st d i ws).board = s.board := by unfold State.answer; dsimp only; split <;> rfl
@[simp] theorem State.answer_handles (s : State) (op : Nat) (p : Packet) (st : Status) (d : Nat) (i : Int) (ws : List Word) : (s.answer op p st d i ws).handles = s.handles := by unfold State.answer; dsimp only; split <;> rfl
@[simp] theorem State.answer_keep (s : State) (op : Nat) (p : Packet) (st : Status) (d : Nat) (i : Int) (ws : List Word) : (s.answer op p st d i ws).keep = s.keep := by unfold State.answer; dsimp only; split <;> rfl
@[simp] theorem State.answer_keepCrc (s : State) (op : Nat) (p : Packet) (st : Status) (d : Nat) (i : Int) (ws : List Word) : (s.answer op p st d i ws).keepCrc = s.keepCrc := by unfold State.answer; dsimp only; split <;> rfl
@[simp] theorem State.answer_keepOk (s : State) (op : Nat) (p : Packet) (st : Status) (d : Nat) (i : Int) (ws : List Word) : (s.answer op p st d i ws).keepOk = s.keepOk := by unfold State.answer; dsimp only; split <;> rfl
@[simp] theorem State.answer_keepDue (s : State) (op : Nat) (p : Packet) (st : Status) (d : Nat) (i : Int) (ws : List Word) : (s.answer op p st d i ws).keepDue = s.keepDue := by unfold State.answer; dsimp only; split <;> rfl
@[simp] theorem State.answer_pd (s : State) (op : Nat) (p : Packet) (st : Status) (d : Nat) (i : Int) (ws : List Word) : (s.answer op p st d i ws).pd = s.pd := by unfold State.answer; dsimp only; split <;> rfl
@[simp] theorem State.answer_load (s : State) (op : Nat) (p : Packet) (st : Status) (d : Nat) (i : Int) (ws : List Word) : (s.answer op p st d i ws).load = s.load := by unfold State.answer; dsimp only; split <;> rfl
@[simp] theorem State.answer_dramOn (s : State) (op : Nat) (p : Packet) (st : Status) (d : Nat) (i : Int) (ws : List Word) : (s.answer op p st d i ws).dramOn = s.dramOn := by unfold State.answer; dsimp only; split <;> rfl
@[simp] theorem State.answer_dram (s : State) (op : Nat) (p : Packet) (st : Status) (d : Nat) (i : Int) (ws : List Word) : (s.answer op p st d i ws).dram = s.dram := by unfold State.answer; dsimp only; split <;> rfl
@[simp] theorem State.answer_mem (s : State) (op : Nat) (p : Packet) (st : Status) (d : Nat) (i : Int) (ws : List Word) : (s.answer op p st d i ws).mem = s.mem := by unfold State.answer; dsimp only; split <;> rfl
@[simp] theorem State.answer_build (s : State) (op : Nat) (p : Packet) (st : Status) (d : Nat) (i : Int) (ws : List Word) : (s.answer op p st d i ws).build = s.build := by unfold State.answer; dsimp only; split <;> rfl
@[simp] theorem State.answer_cfg (s : State) (op : Nat) (p : Packet) (st : Status) (d : Nat) (i : Int) (ws : List Word) : (s.answer op p st d i ws).cfg = s.cfg := by unfold State.answer; dsimp only; split <;> rfl
@[simp] theorem State.answer_audio (s : State) (op : Nat) (p : Packet) (st : Status) (d : Nat) (i : Int) (ws : List Word) : (s.answer op p st d i ws).audio = s.audio := by unfold State.answer; dsimp only; split <;> rfl
@[simp] theorem State.answer_pcie (s : State) (op : Nat) (p : Packet) (st : Status) (d : Nat) (i : Int) (ws : List Word) : (s.answer op p st d i ws).pcie = s.pcie := by unfold State.answer; dsimp only; split <;> rfl
@[simp] theorem State.answer_sap (s : State) (op : Nat) (p : Packet) (st : Status) (d : Nat) (i : Int) (ws : List Word) : (s.answer op p st d i ws).sap = s.sap := by unfold State.answer; dsimp only; split <;> rfl
@[simp] theorem State.answer_net (s : State) (op : Nat) (p : Packet) (st : Status) (d : Nat) (i : Int) (ws : List Word) : (s.answer op p st d i ws).net = s.net := by unfold State.answer; dsimp only; split <;> rfl
@[simp] theorem State.answer_zen (s : State) (op : Nat) (p : Packet) (st : Status) (d : Nat) (i : Int) (ws : List Word) : (s.answer op p st d i ws).zen = s.zen := by unfold State.answer; dsimp only; split <;> rfl
@[simp] theorem State.answer_twin (s : State) (op : Nat) (p : Packet) (st : Status) (d : Nat) (i : Int) (ws : List Word) : (s.answer op p st d i ws).twin = s.twin := by unfold State.answer; dsimp only; split <;> rfl
@[simp] theorem State.answer_pendReset (s : State) (op : Nat) (p : Packet) (st : Status) (d : Nat) (i : Int) (ws : List Word) : (s.answer op p st d i ws).pendReset = s.pendReset := by unfold State.answer; dsimp only; split <;> rfl
@[simp] theorem State.answer_rpc (s : State) (op : Nat) (p : Packet) (st : Status) (d : Nat) (i : Int) (ws : List Word) : (s.answer op p st d i ws).rpc = s.rpc := by unfold State.answer; dsimp only; split <;> rfl
@[simp] theorem State.answer_served (s : State) (op : Nat) (p : Packet) (st : Status) (d : Nat) (i : Int) (ws : List Word) : (s.answer op p st d i ws).served = s.served := by unfold State.answer; dsimp only; split <;> rfl
@[simp] theorem State.answer_spi (s : State) (op : Nat) (p : Packet) (st : Status) (d : Nat) (i : Int) (ws : List Word) : (s.answer op p st d i ws).spi = s.spi := by unfold State.answer; dsimp only; split <;> rfl
@[simp] theorem State.answer_posted (s : State) (op : Nat) (p : Packet) (st : Status) (d : Nat) (i : Int) (ws : List Word) : (s.answer op p st d i ws).posted = s.posted := by unfold State.answer; dsimp only; split <;> rfl
@[simp] theorem State.answer_read (s : State) (op : Nat) (p : Packet) (st : Status) (d : Nat) (i : Int) (ws : List Word) : (s.answer op p st d i ws).read = s.read := by unfold State.answer; dsimp only; split <;> rfl
@[simp] theorem State.answer_msixEnable (s : State) (op : Nat) (p : Packet) (st : Status) (d : Nat) (i : Int) (ws : List Word) : (s.answer op p st d i ws).msixEnable = s.msixEnable := by unfold State.answer; dsimp only; split <;> rfl
@[simp] theorem State.answer_msixMask (s : State) (op : Nat) (p : Packet) (st : Status) (d : Nat) (i : Int) (ws : List Word) : (s.answer op p st d i ws).msixMask = s.msixMask := by unfold State.answer; dsimp only; split <;> rfl
@[simp] theorem State.answer_messages (s : State) (op : Nat) (p : Packet) (st : Status) (d : Nat) (i : Int) (ws : List Word) : (s.answer op p st d i ws).messages = s.messages := by unfold State.answer; dsimp only; split <;> rfl
@[simp] theorem State.answer_pending (s : State) (op : Nat) (p : Packet) (st : Status) (d : Nat) (i : Int) (ws : List Word) : (s.answer op p st d i ws).pending = s.pending := by unfold State.answer; dsimp only; split <;> rfl

end Sys2Proof.Machine
end

