-- ==== Sys2Proof/Laws/Rows.lean ====
section
/-! SUPPORT. What each command of the table runs: one lemma for each constructor. -/
namespace Sys2Proof.Machine

theorem exec_ping (t : Nat) (p : Packet) (s : State) : exec (.ping t p) s = runRow pingSpec t p s := rfl
theorem exec_getInfo (t : Nat) (p : Packet) (s : State) : exec (.getInfo t p) s = runRow getInfoSpec t p s := rfl
theorem exec_getStatus (t : Nat) (p : Packet) (s : State) : exec (.getStatus t p) s = runRow getStatusSpec t p s := rfl
theorem exec_setRate (t : Nat) (p : Packet) (s : State) : exec (.setRate t p) s = runRow setRateSpec t p s := rfl
theorem exec_startProcessing (t : Nat) (p : Packet) (s : State) : exec (.startProcessing t p) s = runRow startProcessingSpec t p s := rfl
theorem exec_stopProcessing (t : Nat) (p : Packet) (s : State) : exec (.stopProcessing t p) s = runRow stopProcessingSpec t p s := rfl
theorem exec_fwUpdateBegin (t : Nat) (p : Packet) (s : State) : exec (.fwUpdateBegin t p) s = runRow fwUpdateBeginSpec t p s := rfl
theorem exec_fwUpdateData (t : Nat) (p : Packet) (s : State) : exec (.fwUpdateData t p) s = runRow fwUpdateDataSpec t p s := rfl
theorem exec_fwUpdateCommit (t : Nat) (p : Packet) (s : State) : exec (.fwUpdateCommit t p) s = runRow fwUpdateCommitSpec t p s := rfl
theorem exec_resetScope (t : Nat) (p : Packet) (s : State) : exec (.resetScope t p) s = runRow resetScopeSpec t p s := rfl
theorem exec_boardTableLoad (t : Nat) (p : Packet) (s : State) : exec (.boardTableLoad t p) s = runRow boardTableLoadSpec t p s := rfl
theorem exec_channelConfig (t : Nat) (p : Packet) (s : State) : exec (.channelConfig t p) s = runRow channelConfigSpec t p s := rfl
theorem exec_graphBegin (t : Nat) (p : Packet) (s : State) : exec (.graphBegin t p) s = runRow graphBeginSpec t p s := rfl
theorem exec_graphAddOp (t : Nat) (p : Packet) (s : State) : exec (.graphAddOp t p) s = runRow graphAddOpSpec t p s := rfl
theorem exec_graphConnect (t : Nat) (p : Packet) (s : State) : exec (.graphConnect t p) s = runRow graphConnectSpec t p s := rfl
theorem exec_graphCommit (t : Nat) (p : Packet) (s : State) : exec (.graphCommit t p) s = runRow graphCommitSpec t p s := rfl
theorem exec_graphQueryCost (t : Nat) (p : Packet) (s : State) : exec (.graphQueryCost t p) s = runRow graphQueryCostSpec t p s := rfl
theorem exec_pathLatency (t : Nat) (p : Packet) (s : State) : exec (.pathLatency t p) s = runRow pathLatencySpec t p s := rfl
theorem exec_opCancel (t : Nat) (p : Packet) (s : State) : exec (.opCancel t p) s = runRow opCancelSpec t p s := rfl
theorem exec_safeSetBegin (t : Nat) (p : Packet) (s : State) : exec (.safeSetBegin t p) s = runRow safeSetBeginSpec t p s := rfl
theorem exec_safeSetCommit (t : Nat) (p : Packet) (s : State) : exec (.safeSetCommit t p) s = runRow safeSetCommitSpec t p s := rfl
theorem exec_layoutLoad (t : Nat) (p : Packet) (s : State) : exec (.layoutLoad t p) s = runRow layoutLoadSpec t p s := rfl
theorem exec_meshLoad (t : Nat) (p : Packet) (s : State) : exec (.meshLoad t p) s = runRow meshLoadSpec t p s := rfl
theorem exec_objectCreate (t : Nat) (p : Packet) (s : State) : exec (.objectCreate t p) s = runRow objectCreateSpec t p s := rfl
theorem exec_trajAppend (t : Nat) (p : Packet) (s : State) : exec (.trajAppend t p) s = runRow trajAppendSpec t p s := rfl
theorem exec_trajFlush (t : Nat) (p : Packet) (s : State) : exec (.trajFlush t p) s = runRow trajFlushSpec t p s := rfl
theorem exec_objectParams (t : Nat) (p : Packet) (s : State) : exec (.objectParams t p) s = runRow objectParamsSpec t p s := rfl
theorem exec_zoneMask (t : Nat) (p : Packet) (s : State) : exec (.zoneMask t p) s = runRow zoneMaskSpec t p s := rfl
theorem exec_soundSpeed (t : Nat) (p : Packet) (s : State) : exec (.soundSpeed t p) s = runRow soundSpeedSpec t p s := rfl
theorem exec_objectQuery (t : Nat) (p : Packet) (s : State) : exec (.objectQuery t p) s = runRow objectQuerySpec t p s := rfl
theorem exec_routeSet (t : Nat) (p : Packet) (s : State) : exec (.routeSet t p) s = runRow routeSetSpec t p s := rfl
theorem exec_routeClear (t : Nat) (p : Packet) (s : State) : exec (.routeClear t p) s = runRow routeClearSpec t p s := rfl
theorem exec_xpointSet (t : Nat) (p : Packet) (s : State) : exec (.xpointSet t p) s = runRow xpointSetSpec t p s := rfl
theorem exec_xpointBlock (t : Nat) (p : Packet) (s : State) : exec (.xpointBlock t p) s = runRow xpointBlockSpec t p s := rfl
theorem exec_busCreate (t : Nat) (p : Packet) (s : State) : exec (.busCreate t p) s = runRow busCreateSpec t p s := rfl
theorem exec_gainSet (t : Nat) (p : Packet) (s : State) : exec (.gainSet t p) s = runRow gainSetSpec t p s := rfl
theorem exec_fadeParams (t : Nat) (p : Packet) (s : State) : exec (.fadeParams t p) s = runRow fadeParamsSpec t p s := rfl
theorem exec_filterLoadBegin (t : Nat) (p : Packet) (s : State) : exec (.filterLoadBegin t p) s = runRow filterLoadBeginSpec t p s := rfl
theorem exec_filterLoadData (t : Nat) (p : Packet) (s : State) : exec (.filterLoadData t p) s = runRow filterLoadDataSpec t p s := rfl
theorem exec_filterLoadEnd (t : Nat) (p : Packet) (s : State) : exec (.filterLoadEnd t p) s = runRow filterLoadEndSpec t p s := rfl
theorem exec_filterSwap (t : Nat) (p : Packet) (s : State) : exec (.filterSwap t p) s = runRow filterSwapSpec t p s := rfl
theorem exec_convQuery (t : Nat) (p : Packet) (s : State) : exec (.convQuery t p) s = runRow convQuerySpec t p s := rfl
theorem exec_dikeConfig (t : Nat) (p : Packet) (s : State) : exec (.dikeConfig t p) s = runRow dikeConfigSpec t p s := rfl
theorem exec_outputMute (t : Nat) (p : Packet) (s : State) : exec (.outputMute t p) s = runRow outputMuteSpec t p s := rfl
theorem exec_ditherConfig (t : Nat) (p : Packet) (s : State) : exec (.ditherConfig t p) s = runRow ditherConfigSpec t p s := rfl
theorem exec_outputDelay (t : Nat) (p : Packet) (s : State) : exec (.outputDelay t p) s = runRow outputDelaySpec t p s := rfl
theorem exec_sapConfig (t : Nat) (p : Packet) (s : State) : exec (.sapConfig t p) s = runRow sapConfigSpec t p s := rfl
theorem exec_sapArm (t : Nat) (p : Packet) (s : State) : exec (.sapArm t p) s = runRow sapArmSpec t p s := rfl
theorem exec_sapStop (t : Nat) (p : Packet) (s : State) : exec (.sapStop t p) s = runRow sapStopSpec t p s := rfl
theorem exec_tapConfig (t : Nat) (p : Packet) (s : State) : exec (.tapConfig t p) s = runRow tapConfigSpec t p s := rfl
theorem exec_timeConfig (t : Nat) (p : Packet) (s : State) : exec (.timeConfig t p) s = runRow timeConfigSpec t p s := rfl
theorem exec_ptpConfig (t : Nat) (p : Packet) (s : State) : exec (.ptpConfig t p) s = runRow ptpConfigSpec t p s := rfl
theorem exec_timeQuery (t : Nat) (p : Packet) (s : State) : exec (.timeQuery t p) s = runRow timeQuerySpec t p s := rfl
theorem exec_mediaClock (t : Nat) (p : Packet) (s : State) : exec (.mediaClock t p) s = runRow mediaClockSpec t p s := rfl
theorem exec_macConfig (t : Nat) (p : Packet) (s : State) : exec (.macConfig t p) s = runRow macConfigSpec t p s := rfl
theorem exec_streamRxAdd (t : Nat) (p : Packet) (s : State) : exec (.streamRxAdd t p) s = runRow streamRxAddSpec t p s := rfl
theorem exec_streamTxAdd (t : Nat) (p : Packet) (s : State) : exec (.streamTxAdd t p) s = runRow streamTxAddSpec t p s := rfl
theorem exec_streamRemove (t : Nat) (p : Packet) (s : State) : exec (.streamRemove t p) s = runRow streamRemoveSpec t p s := rfl
theorem exec_shaperSet (t : Nat) (p : Packet) (s : State) : exec (.shaperSet t p) s = runRow shaperSetSpec t p s := rfl
theorem exec_pauseConfig (t : Nat) (p : Packet) (s : State) : exec (.pauseConfig t p) s = runRow pauseConfigSpec t p s := rfl
theorem exec_zenConfig (t : Nat) (p : Packet) (s : State) : exec (.zenConfig t p) s = runRow zenConfigSpec t p s := rfl
theorem exec_zenMap (t : Nat) (p : Packet) (s : State) : exec (.zenMap t p) s = runRow zenMapSpec t p s := rfl
theorem exec_zenDrop (t : Nat) (p : Packet) (s : State) : exec (.zenDrop t p) s = runRow zenDropSpec t p s := rfl
theorem exec_zenInsert (t : Nat) (p : Packet) (s : State) : exec (.zenInsert t p) s = runRow zenInsertSpec t p s := rfl
theorem exec_zenTopology (t : Nat) (p : Packet) (s : State) : exec (.zenTopology t p) s = runRow zenTopologySpec t p s := rfl
theorem exec_twinConfig (t : Nat) (p : Packet) (s : State) : exec (.twinConfig t p) s = runRow twinConfigSpec t p s := rfl
theorem exec_twinJoin (t : Nat) (p : Packet) (s : State) : exec (.twinJoin t p) s = runRow twinJoinSpec t p s := rfl
theorem exec_twinHandover (t : Nat) (p : Packet) (s : State) : exec (.twinHandover t p) s = runRow twinHandoverSpec t p s := rfl
theorem exec_twinStatus (t : Nat) (p : Packet) (s : State) : exec (.twinStatus t p) s = runRow twinStatusSpec t p s := rfl
theorem exec_twinFence (t : Nat) (p : Packet) (s : State) : exec (.twinFence t p) s = runRow twinFenceSpec t p s := rfl
theorem exec_dramStart (t : Nat) (p : Packet) (s : State) : exec (.dramStart t p) s = runRow dramStartSpec t p s := rfl
theorem exec_dramOppoint (t : Nat) (p : Packet) (s : State) : exec (.dramOppoint t p) s = runRow dramOppointSpec t p s := rfl
theorem exec_stateSave (t : Nat) (p : Packet) (s : State) : exec (.stateSave t p) s = runRow stateSaveSpec t p s := rfl
theorem exec_stateRestore (t : Nat) (p : Packet) (s : State) : exec (.stateRestore t p) s = runRow stateRestoreSpec t p s := rfl
theorem exec_keepWrite (t : Nat) (p : Packet) (s : State) : exec (.keepWrite t p) s = runRow keepWriteSpec t p s := rfl
theorem exec_keepRead (t : Nat) (p : Packet) (s : State) : exec (.keepRead t p) s = runRow keepReadSpec t p s := rfl
theorem exec_meterSubscribe (t : Nat) (p : Packet) (s : State) : exec (.meterSubscribe t p) s = runRow meterSubscribeSpec t p s := rfl
theorem exec_eventRead (t : Nat) (p : Packet) (s : State) : exec (.eventRead t p) s = runRow eventReadSpec t p s := rfl
theorem exec_counterRead (t : Nat) (p : Packet) (s : State) : exec (.counterRead t p) s = runRow counterReadSpec t p s := rfl
theorem exec_pcieCommandFetch (t : Nat) (n : Nat) (words : List Word) (s : State) : exec (.pcieCommandFetch t n words) s = eventRow (pcieCommandFetch n words) t s := rfl
theorem exec_spiPktWrite (t : Nat) (octets : Nat) (words : List Word) (s : State) : exec (.spiPktWrite t octets words) s = eventRow (spiPktWrite octets words) t s := rfl
theorem exec_spiPktRead (t : Nat) (whole : Bool) (s : State) : exec (.spiPktRead t whole) s = eventRow (spiPktRead whole) t s := rfl
theorem exec_spiRegRead (t : Nat) (off : Nat) (s : State) : exec (.spiRegRead t off) s = eventRow (spiRegRead off) t s := rfl
theorem exec_spiRegReadTimeout (t : Nat) (s : State) : exec (.spiRegReadTimeout t) s = eventRow spiRegReadTimeout t s := rfl
theorem exec_spiRegWrite (t : Nat) (off : Nat) (v : Word) (s : State) : exec (.spiRegWrite t off v) s = eventRow (spiRegWrite off v) t s := rfl
theorem exec_spiStatus (t : Nat) (s : State) : exec (.spiStatus t) s = eventRow spiStatusRead t s := rfl
theorem exec_udpDatagramReceived (t : Nat) (m : Nat) (src : Nat) (port : Nat) (octets : Nat) (words : List Word) (s : State) : exec (.udpDatagramReceived t m src port octets words) s = eventRow (udpDatagramReceived m src port octets words) t s := rfl
theorem exec_inbandFragmentReceived (t : Nat) (area : Nat) (f : Fragment) (s : State) : exec (.inbandFragmentReceived t area f) s = eventRow (inbandFragmentReceived area f) t s := rfl
theorem exec_inbandMessageTimeout (t : Nat) (area : Nat) (src : Nat) (s : State) : exec (.inbandMessageTimeout t area src) s = eventRow (inbandMessageTimeout area src) t s := rfl
theorem exec_relayForwardTimeout (t : Nat) (n : Nat) (s : State) : exec (.relayForwardTimeout t n) s = eventRow (relayForwardTimeout n) t s := rfl
theorem exec_timedCommandApply (t : Nat) (s : State) : exec (.timedCommandApply t) s = eventRow timedCommandApply t s := rfl
theorem exec_quantumReadiness (t : Nat) (k : Int) (s : State) : exec (.quantumReadiness t k) s = eventRow (quantumReadiness k) t s := rfl
theorem exec_instanceDispatch (t : Nat) (l : Nat) (s : State) : exec (.instanceDispatch t l) s = eventRow (instanceDispatch l) t s := rfl
theorem exec_instanceComplete (t : Nat) (k : Int) (i : Inst) (s : State) : exec (.instanceComplete t k i) s = eventRow (instanceCompleted k i) t s := rfl
theorem exec_schedulerTick (t : Nat) (s : State) : exec (.schedulerTick t) s = eventRow schedulerTick t s := rfl
theorem exec_waitTimeout (t : Nat) (k : Int) (i : Inst) (s : State) : exec (.waitTimeout t k i) s = eventRow (waitTimedOut k i) t s := rfl
theorem exec_sinkDeadline (t : Nat) (k : Int) (s : State) : exec (.sinkDeadline t k) s = eventRow (sinkDeadline k) t s := rfl
theorem exec_filterSwapCopyDone (t : Nat) (i : Nat) (s : State) : exec (.filterSwapCopyDone t i) s = eventRow (filterSwapCopyDone i) t s := rfl
theorem exec_sapClockStart (t : Nat) (g : Nat) (s : State) : exec (.sapClockStart t g) s = eventRow (sapClockStart g) t s := rfl
theorem exec_sapDataEnable (t : Nat) (n : Nat) (s : State) : exec (.sapDataEnable t n) s = eventRow (sapDataEnable n) t s := rfl
theorem exec_startInEdge (t : Nat) (s : State) : exec (.startInEdge t) s = eventRow startInEdge t s := rfl
theorem exec_sapCloseDone (t : Nat) (g : Nat) (s : State) : exec (.sapCloseDone t g) s = eventRow (sapCloseDone g) t s := rfl
theorem exec_sapReceiveFrame (t : Nat) (g : Nat) (f : SapFrame) (bits : List (List Bool)) (full : Nat) (s : State) : exec (.sapReceiveFrame t g f bits full) s = eventRow (sapReceiveFrame g f bits full) t s := rfl
theorem exec_sapTransmitFrame (t : Nat) (g : Nat) (f : SapFrame) (starved : Nat) (s : State) : exec (.sapTransmitFrame t g f starved) s = eventRow (sapTransmitFrame g f starved) t s := rfl
theorem exec_sapClockStopped (t : Nat) (g : Nat) (s : State) : exec (.sapClockStopped t g) s = eventRow (sapClockStopped g) t s := rfl
theorem exec_sapRateCheck (t : Nat) (g : Nat) (sum : Nat) (s : State) : exec (.sapRateCheck t g sum) s = eventRow (sapRateCheck g sum) t s := rfl
theorem exec_sapRejoinStart (t : Nat) (g : Nat) (s : State) : exec (.sapRejoinStart t g) s = eventRow (sapRejoinStart g) t s := rfl
theorem exec_sapRejoinDone (t : Nat) (g : Nat) (s : State) : exec (.sapRejoinDone t g) s = eventRow (sapRejoinDone g) t s := rfl
theorem exec_tapBlockRead (t : Nat) (first : Nat) (k : Int) (block : List Word) (s : State) : exec (.tapBlockRead t first k block) s = eventRow (tapBlockRead first k block) t s := rfl
theorem exec_tapBlockWrite (t : Nat) (first : Nat) (k : Int) (s : State) : exec (.tapBlockWrite t first k) s = eventRow (tapBlockWrite first k) t s := rfl
theorem exec_ptpSyncReceived (t : Nat) (h : PtpHeader) (twoStep : Bool) (t1 : Int) (s : State) : exec (.ptpSyncReceived t h twoStep t1) s = eventRow (ptpSyncReceived h twoStep t1) t s := rfl
theorem exec_ptpFollowUpReceived (t : Nat) (h : PtpHeader) (t1 : Int) (s : State) : exec (.ptpFollowUpReceived t h t1) s = eventRow (ptpFollowUpReceived h t1) t s := rfl
theorem exec_ptpDelayRespReceived (t : Nat) (h : PtpHeader) (clock : Nat) (t4 : Int) (s : State) : exec (.ptpDelayRespReceived t h clock t4) s = eventRow (ptpDelayRespReceived h clock t4) t s := rfl
theorem exec_ptpDelayReqReceived (t : Nat) (h : PtpHeader) (s : State) : exec (.ptpDelayReqReceived t h) s = eventRow (ptpDelayReqReceived h) t s := rfl
theorem exec_ptpAnnounceReceived (t : Nat) (h : PtpHeader) (a : PtpAnnounce) (s : State) : exec (.ptpAnnounceReceived t h a) s = eventRow (ptpAnnounceReceived h a) t s := rfl
theorem exec_ptpSyncSend (t : Nat) (s : State) : exec (.ptpSyncSend t) s = eventRow ptpSyncSend t s := rfl
theorem exec_ptpAnnounceSend (t : Nat) (s : State) : exec (.ptpAnnounceSend t) s = eventRow ptpAnnounceSend t s := rfl
theorem exec_ptpDelayReqSend (t : Nat) (s : State) : exec (.ptpDelayReqSend t) s = eventRow ptpDelayReqSend t s := rfl
theorem exec_ptpFollowUpTimeout (t : Nat) (s : State) : exec (.ptpFollowUpTimeout t) s = eventRow ptpFollowUpTimeout t s := rfl
theorem exec_ptpMasterLost (t : Nat) (s : State) : exec (.ptpMasterLost t) s = eventRow ptpMasterLost t s := rfl
theorem exec_ppsInEdge (t : Nat) (s : State) : exec (.ppsInEdge t) s = eventRow ppsInEdge t s := rfl
theorem exec_clockBlockMeasure (t : Nat) (key : Nat) (s : State) : exec (.clockBlockMeasure t key) s = eventRow (clockBlock key) t s := rfl
theorem exec_timeSourceLost (t : Nat) (s : State) : exec (.timeSourceLost t) s = eventRow timeSourceLost t s := rfl
theorem exec_timeStepApply (t : Nat) (s : State) : exec (.timeStepApply t) s = eventRow timeStepRow t s := rfl
theorem exec_refclkLost (t : Nat) (s : State) : exec (.refclkLost t) s = eventRow refclkLost t s := rfl
theorem exec_refclkReturn (t : Nat) (s : State) : exec (.refclkReturn t) s = eventRow refclkReturn t s := rfl
theorem exec_pllLockLoss (t : Nat) (pll : Nat) (s : State) : exec (.pllLockLoss t pll) s = eventRow (pllLockLoss pll) t s := rfl
theorem exec_wclkOutModeSwitch (t : Nat) (s : State) : exec (.wclkOutModeSwitch t) s = eventRow wclkOutModeSwitch t s := rfl
theorem exec_ppsOutSecond (t : Nat) (s : State) : exec (.ppsOutSecond t) s = eventRow ppsOutSecond t s := rfl
theorem exec_macFrameReceived (t : Nat) (m : Nat) (f : RxFrame) (fill : Nat) (s : State) : exec (.macFrameReceived t m f fill) s = eventRow (macFrameReceived m f fill) t s := rfl
theorem exec_pauseFrameReceived (t : Nat) (m : Nat) (n : Nat) (s : State) : exec (.pauseFrameReceived t m n) s = eventRow (pauseFrameReceived m n) t s := rfl
theorem exec_pauseHoldExpiry (t : Nat) (m : Nat) (s : State) : exec (.pauseHoldExpiry t m) s = eventRow (pauseHoldExpiry m) t s := rfl
theorem exec_pauseRepeat (t : Nat) (m : Nat) (fill : Nat) (s : State) : exec (.pauseRepeat t m fill) s = eventRow (pauseRepeat m fill) t s := rfl
theorem exec_macFrameTransmit (t : Nat) (m : Nat) (s : State) : exec (.macFrameTransmit t m) s = eventRow (macFrameTransmit m) t s := rfl
theorem exec_macFrameSent (t : Nat) (m : Nat) (aborted : Bool) (s : State) : exec (.macFrameSent t m aborted) s = eventRow (macFrameSent m aborted) t s := rfl
theorem exec_mediaPacketLateDrop (t : Nat) (m : Nat) (s : State) : exec (.mediaPacketLateDrop t m) s = eventRow (mediaPacketLateDrop m) t s := rfl
theorem exec_macLinkChange (t : Nat) (m : Nat) (up hiber : Bool) (s : State) : exec (.macLinkChange t m up hiber) s = eventRow (macLinkChange m up hiber) t s := rfl
theorem exec_streamPacketReceived (t : Nat) (m : Nat) (r : RtpPacket) (s : State) : exec (.streamPacketReceived t m r) s = eventRow (streamPacketReceived m r) t s := rfl
theorem exec_streamDownTimeout (t : Nat) (i : Nat) (s : State) : exec (.streamDownTimeout t i) s = eventRow (streamDownTimeout i) t s := rfl
theorem exec_zenFrameReceived (t : Nat) (p : Nat) (f : ZenFrame) (fifoOk hiber : Bool) (s : State) :
    exec (.zenFrameReceived t p f fifoOk hiber) s = eventRow (zenFrameReceived p f fifoOk hiber) t s := rfl
theorem exec_zenFrameLaunch (t : Nat) (s : State) : exec (.zenFrameLaunch t) s = eventRow zenFrameLaunch t s := rfl
theorem exec_zenLockLoss (t : Nat) (p : Nat) (inFrame : Option ZenFrame) (s : State) : exec (.zenLockLoss t p inFrame) s = eventRow (zenLockLoss p inFrame) t s := rfl
theorem exec_zenMissingFrames (t : Nat) (p : Nat) (s : State) : exec (.zenMissingFrames t p) s = eventRow (zenMissingFrames p) t s := rfl
theorem exec_zenRootChange (t : Nat) (s : State) : exec (.zenRootChange t) s = eventRow zenRootChange t s := rfl
theorem exec_zenLinkWord (t p node peer q : Nat) (x : LinkStamps) (s : State) :
    exec (.zenLinkWord t p node peer q x) s = eventRow (zenLinkWord p { node := node, port := peer, q := q, stamps := x }) t s := rfl
theorem exec_twinLinkFrameLaunch (t : Nat) (s : State) : exec (.twinLinkFrameLaunch t) s = eventRow twinLinkFrameLaunch t s := rfl
theorem exec_twinLinkFrameReceived (t : Nat) (f : TwlFrame) (s : State) : exec (.twinLinkFrameReceived t f) s = eventRow (twinLinkFrameReceived f) t s := rfl
theorem exec_relaySectionReceived (t : Nat) (x : RelaySection) (s : State) : exec (.relaySectionReceived t x) s = eventRow (relaySectionReceived x) t s := rfl
theorem exec_relayGapTimeout (t : Nat) (s : State) : exec (.relayGapTimeout t) s = eventRow relayGapTimeout t s := rfl
theorem exec_twlLockLoss (t : Nat) (s : State) : exec (.twlLockLoss t) s = eventRow twlLockLoss t s := rfl
theorem exec_leaseRenewalTimer (t : Nat) (s : State) : exec (.leaseRenewalTimer t) s = eventRow leaseRenewalTimer t s := rfl
theorem exec_leasePulseReceived (t : Nat) (width : Nat) (s : State) : exec (.leasePulseReceived t width) s = eventRow (leasePulseReceived width) t s := rfl
theorem exec_leaseSelfFenceTimeout (t : Nat) (s : State) : exec (.leaseSelfFenceTimeout t) s = eventRow leaseSelfFenceTimeout t s := rfl
theorem exec_leaseSilence (t : Nat) (s : State) : exec (.leaseSilence t) s = eventRow leaseSilence t s := rfl
theorem exec_twinRoleDelayExpiry (t : Nat) (s : State) : exec (.twinRoleDelayExpiry t) s = eventRow twinRoleDelayExpiry t s := rfl
theorem exec_aliveInStopped (t : Nat) (s : State) : exec (.aliveInStopped t) s = eventRow aliveInStopped t s := rfl
theorem exec_twinFenceSwitch (t : Nat) (s : State) : exec (.twinFenceSwitch t) s = eventRow twinFenceSwitch t s := rfl
theorem exec_handoverReceived (t : Nat) (h : Word) (epoch : Nat) (urgent : Bool) (s : State) : exec (.handoverReceived t h epoch urgent) s = eventRow (handoverReceived h epoch urgent) t s := rfl
theorem exec_hackReceived (t : Nat) (h : Word) (s : State) : exec (.hackReceived t h) s = eventRow (hackReceived h) t s := rfl
theorem exec_commitReceived (t : Nat) (h : Word) (s : State) : exec (.commitReceived t h) s = eventRow (commitReceived h) t s := rfl
theorem exec_cancelReceived (t : Nat) (h : Word) (s : State) : exec (.cancelReceived t h) s = eventRow (cancelReceived h) t s := rfl
theorem exec_hackDeadline (t : Nat) (s : State) : exec (.hackDeadline t) s = eventRow hackDeadline t s := rfl
theorem exec_takebackHoldoffExpiry (t : Nat) (s : State) : exec (.takebackHoldoffExpiry t) s = eventRow takebackHoldoffExpiry t s := rfl
theorem exec_fencereqReceived (t : Nat) (force : Bool) (s : State) : exec (.fencereqReceived t force) s = eventRow (fenceRequested force) t s := rfl
theorem exec_detachReceived (t : Nat) (s : State) : exec (.detachReceived t) s = eventRow detachReceived t s := rfl
theorem exec_mirrorReady (t : Nat) (k : Int) (s : State) : exec (.mirrorReady t k) s = eventRow (mirrorReady k) t s := rfl
theorem exec_mirrorFallback (t : Nat) (k : Int) (s : State) : exec (.mirrorFallback t k) s = eventRow (mirrorFallback k) t s := rfl
theorem exec_signatureMiss (t : Nat) (k : Int) (s : State) : exec (.signatureMiss t k) s = eventRow (signatureMiss k) t s := rfl
theorem exec_twinAutojoinStart (t : Nat) (s : State) : exec (.twinAutojoinStart t) s = eventRow twinAutojoinStart t s := rfl
theorem exec_joinCopyBlock (t : Nat) (x : CopyBlock) (crcOk : Bool) (image : Copied) (s : State) : exec (.joinCopyBlock t x crcOk image) s = eventRow (joinCopyBlock x crcOk image) t s := rfl
theorem exec_joinCatchupDone (t : Nat) (s : State) : exec (.joinCatchupDone t) s = eventRow joinCatchupDone t s := rfl
theorem exec_joinHealDone (t : Nat) (s : State) : exec (.joinHealDone t) s = eventRow joinHealDone t s := rfl
theorem exec_joinRetry (t : Nat) (s : State) : exec (.joinRetry t) s = eventRow joinRetry t s := rfl
theorem exec_resetSourceAssert (t : Nat) (cause : Nat) (s : State) : exec (.resetSourceAssert t cause) s = eventRow (resetSourceAssert cause) t s := rfl
theorem exec_resetSourceRelease (t : Nat) (cause : Nat) (s : State) : exec (.resetSourceRelease t cause) s = eventRow (resetSourceRelease cause) t s := rfl
theorem exec_powerOnTimer (t : Nat) (s : State) : exec (.powerOnTimer t) s = eventRow powerOnTimer t s := rfl
theorem exec_firmwareWatchdog (t : Nat) (s : State) : exec (.firmwareWatchdog t) s = eventRow firmwareWatchdog t s := rfl
theorem exec_resetScopeApply (t : Nat) (s : State) : exec (.resetScopeApply t) s = eventRow resetScopeApply t s := rfl
theorem exec_clockGoodAssert (t : Nat) (c : Nat) (s : State) : exec (.clockGoodAssert t c) s = eventRow (clockGoodAssert c) t s := rfl
theorem exec_clockGoodTimeout (t : Nat) (c : Nat) (s : State) : exec (.clockGoodTimeout t c) s = eventRow (clockGoodTimeout c) t s := rfl
theorem exec_readyEntry (t : Nat) (s : State) : exec (.readyEntry t) s = eventRow readyEntry t s := rfl
theorem exec_idleTimeout (t : Nat) (i : Nat) (s : State) : exec (.idleTimeout t i) s = eventRow (idleTimeout i) t s := rfl
theorem exec_domainPowerDone (t : Nat) (d : Nat) (s : State) : exec (.domainPowerDone t d) s = eventRow (domainPowerDone d) t s := rfl
theorem exec_supplyWarning (t : Nat) (rail : Nat) (mv : Nat) (s : State) : exec (.supplyWarning t rail mv) s = eventRow (supplyWarning rail mv) t s := rfl
theorem exec_supplyRecovery (t : Nat) (rail : Nat) (low : Nat) (s : State) : exec (.supplyRecovery t rail low) s = eventRow (supplyRecovery rail low) t s := rfl
theorem exec_thermAlertChange (t : Nat) (temp : Int) (s : State) : exec (.thermAlertChange t temp) s = eventRow (thermAlertChange temp) t s := rfl
theorem exec_polderReady (t : Nat) (p : Nat) (s : State) : exec (.polderReady t p) s = eventRow (polderReady p) t s := rfl
theorem exec_polderScrub (t : Nat) (off : Nat) (err : Option Bool) (master : Option Nat) (s : State) : exec (.polderScrub t off err master) s = eventRow (polderScrub off err master) t s := rfl
theorem exec_busTransactionTimeout (t : Nat) (m : Nat) (id : Nat) (addr : Nat) (s : State) : exec (.busTransactionTimeout t m id addr) s = eventRow (busTransactionTimeout m id addr) t s := rfl
theorem exec_busLateResponse (t : Nat) (m : Nat) (id : Nat) (s : State) : exec (.busLateResponse t m id) s = eventRow (busLateResponse m id) t s := rfl
theorem exec_dramRefresh (t : Nat) (c : Nat) (neighbours : Nat) (s : State) : exec (.dramRefresh t c neighbours) s = eventRow (dramRefresh c neighbours) t s := rfl
theorem exec_dramMr4Poll (t : Nat) (rates : List Nat) (fault : Bool) (s : State) : exec (.dramMr4Poll t rates fault) s = eventRow (dramMr4Poll rates fault) t s := rfl
theorem exec_dramSelfRefreshEntry (t : Nat) (c : Nat) (request : Bool) (s : State) : exec (.dramSelfRefreshEntry t c request) s = eventRow (dramSelfRefreshEntry c request) t s := rfl
theorem exec_dramSelfRefreshExit (t : Nat) (c : Nat) (s : State) : exec (.dramSelfRefreshExit t c) s = eventRow (dramSelfRefreshExit c) t s := rfl
theorem exec_dramOppointSwitch (t : Nat) (s : State) : exec (.dramOppointSwitch t) s = eventRow dramOppointSwitch t s := rfl
theorem exec_dramOppointDone (t : Nat) (s : State) : exec (.dramOppointDone t) s = eventRow dramOppointDone t s := rfl
theorem exec_stateSaveComplete (t : Nat) (s : State) : exec (.stateSaveComplete t) s = eventRow stateSaveComplete t s := rfl
theorem exec_registerWrite (t : Nat) (win : Nat) (off : Nat) (be : Nat) (v : Word) (s : State) : exec (.registerWrite t win off be v) s = eventRow (registerWrite win off be v) t s := rfl
theorem exec_registerReadClear (t : Nat) (win : Nat) (off : Nat) (s : State) : exec (.registerReadClear t win off) s = eventRow (registerReadClear win off) t s := rfl
theorem exec_bitAliasWrite (t : Nat) (off : Nat) (v : Word) (s : State) : exec (.bitAliasWrite t off v) s = eventRow (bitAliasWrite off v) t s := rfl
theorem exec_postedWriteComplete (t : Nat) (b : Nat) (s : State) : exec (.postedWriteComplete t b) s = eventRow (postedWriteComplete b) t s := rfl
theorem exec_postedWriteTimeout (t : Nat) (b : Nat) (s : State) : exec (.postedWriteTimeout t b) s = eventRow (postedWriteTimeout b) t s := rfl
theorem exec_timSnap (t : Nat) (s : State) : exec (.timSnap t) s = eventRow (fun s => s.rowWrite rTimCtl timSnap) t s := rfl
theorem exec_sapgWtpop (t : Nat) (v : Word) (s : State) : exec (.sapgWtpop t v) s = eventRow (fun s => s.rowWrite rSapgWtpop (sapgWtpop v)) t s := rfl
theorem exec_irqEoi (t : Nat) (v : Word) (s : State) : exec (.irqEoi t v) s = eventRow (fun s => s.rowWrite rIrqEoi (irqEoi v)) t s := rfl
theorem exec_irqMsixUnmask (t : Nat) (i : Option Nat) (s : State) : exec (.irqMsixUnmask t i) s = eventRow (fun s => s.rowWrite rIrqMsixctl (irqMsixUnmask i)) t s := rfl
theorem exec_cmdCtailWrite (t : Nat) (n : Nat) (v : BitVec 16) (s : State) : exec (.cmdCtailWrite t n v) s = eventRow (fun s => s.rowWrite rCmdCtail (cmdCtailWrite n v)) t s := rfl
theorem exec_cmdRconsWrite (t : Nat) (n : Nat) (v : BitVec 16) (s : State) : exec (.cmdRconsWrite t n v) s = eventRow (fun s => s.rowWrite rCmdRcons (cmdRconsWrite n v)) t s := rfl
theorem exec_cmdChannelEnable (t : Nat) (n : Nat) (ien : Bool) (log2k : Nat) (s : State) : exec (.cmdChannelEnable t n ien log2k) s = eventRow (fun s => s.rowWrite rCmdCfg (cmdChannelEnable n ien log2k)) t s := rfl
theorem exec_cmdChannelDisable (t : Nat) (n : Nat) (ien : Bool) (s : State) : exec (.cmdChannelDisable t n ien) s = eventRow (fun s => s.rowWrite rCmdCfg (cmdChannelDisable n ien)) t s := rfl
theorem exec_macRxtailWrite (t : Nat) (m : Nat) (r : Nat) (tail : Nat) (ds : List GivenDesc) (s : State) : exec (.macRxtailWrite t m r tail ds) s = eventRow (fun s => if m < 4 ∧ r < 2 then s.rowWrite (rMacRxtail + 0x400 * m + 4 * r) (macRxtailWrite m r tail ds) else s) t s := rfl
theorem exec_macTxtailWrite (t : Nat) (m : Nat) (r : Nat) (tail : Nat) (ds : List GivenDesc) (s : State) : exec (.macTxtailWrite t m r tail ds) s = eventRow (fun s => if m < 4 ∧ r < 2 then s.rowWrite (rMacTxtail + 0x400 * m + 4 * r) (macTxtailWrite m r tail ds) else s) t s := rfl
theorem exec_rpcPdreqWrite (t : Nat) (v : Word) (s : State) : exec (.rpcPdreqWrite t v) s = eventRow (fun s => s.rowWrite rRpcPdreq (rpcPdreqWrite v)) t s := rfl
theorem exec_pcieLinkChange (t : Nat) (up : Bool) (enable : Bool) (mask : Bool) (s : State) : exec (.pcieLinkChange t up enable mask) s = eventRow (pcieLinkChange up enable mask) t s := rfl
theorem exec_zenBlockLockGain (t : Nat) (p : Nat) (s : State) : exec (.zenBlockLockGain t p) s = eventRow (zenBlockLockGain p) t s := rfl
theorem exec_twlBlockLockGain (t : Nat) (delay : Nat) (s : State) : exec (.twlBlockLockGain t delay) s = eventRow (twlBlockLockGain delay) t s := rfl
theorem exec_aliveInEdge (t : Nat) (s : State) : exec (.aliveInEdge t) s = eventRow aliveInEdge t s := rfl
theorem exec_aliveOutToggle (t : Nat) (s : State) : exec (.aliveOutToggle t) s = eventRow aliveOutToggle t s := rfl
theorem exec_blockIdleReported (t : Nat) (i : Nat) (s : State) : exec (.blockIdleReported t i) s = eventRow (blockIdleReported i) t s := rfl
theorem exec_ptpQualificationTimeout (t : Nat) (s : State) : exec (.ptpQualificationTimeout t) s = eventRow ptpQualificationTimeout t s := rfl

theorem eventRow_settles (f : State → State) (t : Nat) (s : State) : ∃ u : State, eventRow f t s = .next u.settle := ⟨f (s.atTime t), rfl⟩

theorem runRow_settles (c : CmdSpec) (t : Nat) (p : Packet) (s : State) : ∃ u : State, runRow c t p s = .next u.settle :=
  ⟨c.interpret p (s.atTime t), rfl⟩

/-- Every command ends in a settled state. -/
theorem exec_settles (i : Instr) (s : State) : ∃ u : State, exec i s = .next u.settle :=
  match i with
  | .ping t p => runRow_settles pingSpec t p s
  | .getInfo t p => runRow_settles getInfoSpec t p s
  | .getStatus t p => runRow_settles getStatusSpec t p s
  | .setRate t p => runRow_settles setRateSpec t p s
  | .startProcessing t p => runRow_settles startProcessingSpec t p s
  | .stopProcessing t p => runRow_settles stopProcessingSpec t p s
  | .fwUpdateBegin t p => runRow_settles fwUpdateBeginSpec t p s
  | .fwUpdateData t p => runRow_settles fwUpdateDataSpec t p s
  | .fwUpdateCommit t p => runRow_settles fwUpdateCommitSpec t p s
  | .resetScope t p => runRow_settles resetScopeSpec t p s
  | .boardTableLoad t p => runRow_settles boardTableLoadSpec t p s
  | .channelConfig t p => runRow_settles channelConfigSpec t p s
  | .graphBegin t p => runRow_settles graphBeginSpec t p s
  | .graphAddOp t p => runRow_settles graphAddOpSpec t p s
  | .graphConnect t p => runRow_settles graphConnectSpec t p s
  | .graphCommit t p => runRow_settles graphCommitSpec t p s
  | .graphQueryCost t p => runRow_settles graphQueryCostSpec t p s
  | .pathLatency t p => runRow_settles pathLatencySpec t p s
  | .opCancel t p => runRow_settles opCancelSpec t p s
  | .safeSetBegin t p => runRow_settles safeSetBeginSpec t p s
  | .safeSetCommit t p => runRow_settles safeSetCommitSpec t p s
  | .layoutLoad t p => runRow_settles layoutLoadSpec t p s
  | .meshLoad t p => runRow_settles meshLoadSpec t p s
  | .objectCreate t p => runRow_settles objectCreateSpec t p s
  | .trajAppend t p => runRow_settles trajAppendSpec t p s
  | .trajFlush t p => runRow_settles trajFlushSpec t p s
  | .objectParams t p => runRow_settles objectParamsSpec t p s
  | .zoneMask t p => runRow_settles zoneMaskSpec t p s
  | .soundSpeed t p => runRow_settles soundSpeedSpec t p s
  | .objectQuery t p => runRow_settles objectQuerySpec t p s
  | .routeSet t p => runRow_settles routeSetSpec t p s
  | .routeClear t p => runRow_settles routeClearSpec t p s
  | .xpointSet t p => runRow_settles xpointSetSpec t p s
  | .xpointBlock t p => runRow_settles xpointBlockSpec t p s
  | .busCreate t p => runRow_settles busCreateSpec t p s
  | .gainSet t p => runRow_settles gainSetSpec t p s
  | .fadeParams t p => runRow_settles fadeParamsSpec t p s
  | .filterLoadBegin t p => runRow_settles filterLoadBeginSpec t p s
  | .filterLoadData t p => runRow_settles filterLoadDataSpec t p s
  | .filterLoadEnd t p => runRow_settles filterLoadEndSpec t p s
  | .filterSwap t p => runRow_settles filterSwapSpec t p s
  | .convQuery t p => runRow_settles convQuerySpec t p s
  | .dikeConfig t p => runRow_settles dikeConfigSpec t p s
  | .outputMute t p => runRow_settles outputMuteSpec t p s
  | .ditherConfig t p => runRow_settles ditherConfigSpec t p s
  | .outputDelay t p => runRow_settles outputDelaySpec t p s
  | .sapConfig t p => runRow_settles sapConfigSpec t p s
  | .sapArm t p => runRow_settles sapArmSpec t p s
  | .sapStop t p => runRow_settles sapStopSpec t p s
  | .tapConfig t p => runRow_settles tapConfigSpec t p s
  | .timeConfig t p => runRow_settles timeConfigSpec t p s
  | .ptpConfig t p => runRow_settles ptpConfigSpec t p s
  | .timeQuery t p => runRow_settles timeQuerySpec t p s
  | .mediaClock t p => runRow_settles mediaClockSpec t p s
  | .macConfig t p => runRow_settles macConfigSpec t p s
  | .streamRxAdd t p => runRow_settles streamRxAddSpec t p s
  | .streamTxAdd t p => runRow_settles streamTxAddSpec t p s
  | .streamRemove t p => runRow_settles streamRemoveSpec t p s
  | .shaperSet t p => runRow_settles shaperSetSpec t p s
  | .pauseConfig t p => runRow_settles pauseConfigSpec t p s
  | .zenConfig t p => runRow_settles zenConfigSpec t p s
  | .zenMap t p => runRow_settles zenMapSpec t p s
  | .zenDrop t p => runRow_settles zenDropSpec t p s
  | .zenInsert t p => runRow_settles zenInsertSpec t p s
  | .zenTopology t p => runRow_settles zenTopologySpec t p s
  | .twinConfig t p => runRow_settles twinConfigSpec t p s
  | .twinJoin t p => runRow_settles twinJoinSpec t p s
  | .twinHandover t p => runRow_settles twinHandoverSpec t p s
  | .twinStatus t p => runRow_settles twinStatusSpec t p s
  | .twinFence t p => runRow_settles twinFenceSpec t p s
  | .dramStart t p => runRow_settles dramStartSpec t p s
  | .dramOppoint t p => runRow_settles dramOppointSpec t p s
  | .stateSave t p => runRow_settles stateSaveSpec t p s
  | .stateRestore t p => runRow_settles stateRestoreSpec t p s
  | .keepWrite t p => runRow_settles keepWriteSpec t p s
  | .keepRead t p => runRow_settles keepReadSpec t p s
  | .meterSubscribe t p => runRow_settles meterSubscribeSpec t p s
  | .eventRead t p => runRow_settles eventReadSpec t p s
  | .counterRead t p => runRow_settles counterReadSpec t p s
  | .pcieCommandFetch t n words => eventRow_settles (pcieCommandFetch n words) t s
  | .spiPktWrite t octets words => eventRow_settles (spiPktWrite octets words) t s
  | .spiPktRead t whole => eventRow_settles (spiPktRead whole) t s
  | .spiRegRead t off => eventRow_settles (spiRegRead off) t s
  | .spiRegReadTimeout t => eventRow_settles spiRegReadTimeout t s
  | .spiRegWrite t off v => eventRow_settles (spiRegWrite off v) t s
  | .spiStatus t => eventRow_settles spiStatusRead t s
  | .udpDatagramReceived t m src port octets words => eventRow_settles (udpDatagramReceived m src port octets words) t s
  | .inbandFragmentReceived t area f => eventRow_settles (inbandFragmentReceived area f) t s
  | .inbandMessageTimeout t area src => eventRow_settles (inbandMessageTimeout area src) t s
  | .relayForwardTimeout t n => eventRow_settles (relayForwardTimeout n) t s
  | .timedCommandApply t => eventRow_settles timedCommandApply t s
  | .quantumReadiness t k => eventRow_settles (quantumReadiness k) t s
  | .instanceDispatch t l => eventRow_settles (instanceDispatch l) t s
  | .instanceComplete t k i => eventRow_settles (instanceCompleted k i) t s
  | .schedulerTick t => eventRow_settles schedulerTick t s
  | .waitTimeout t k i => eventRow_settles (waitTimedOut k i) t s
  | .sinkDeadline t k => eventRow_settles (sinkDeadline k) t s
  | .filterSwapCopyDone t i => eventRow_settles (filterSwapCopyDone i) t s
  | .sapClockStart t g => eventRow_settles (sapClockStart g) t s
  | .sapDataEnable t n => eventRow_settles (sapDataEnable n) t s
  | .startInEdge t => eventRow_settles startInEdge t s
  | .sapCloseDone t g => eventRow_settles (sapCloseDone g) t s
  | .sapReceiveFrame t g f bits full => eventRow_settles (sapReceiveFrame g f bits full) t s
  | .sapTransmitFrame t g f starved => eventRow_settles (sapTransmitFrame g f starved) t s
  | .sapClockStopped t g => eventRow_settles (sapClockStopped g) t s
  | .sapRateCheck t g sum => eventRow_settles (sapRateCheck g sum) t s
  | .sapRejoinStart t g => eventRow_settles (sapRejoinStart g) t s
  | .sapRejoinDone t g => eventRow_settles (sapRejoinDone g) t s
  | .tapBlockRead t first k block => eventRow_settles (tapBlockRead first k block) t s
  | .tapBlockWrite t first k => eventRow_settles (tapBlockWrite first k) t s
  | .ptpSyncReceived t h twoStep t1 => eventRow_settles (ptpSyncReceived h twoStep t1) t s
  | .ptpFollowUpReceived t h t1 => eventRow_settles (ptpFollowUpReceived h t1) t s
  | .ptpDelayRespReceived t h clock t4 => eventRow_settles (ptpDelayRespReceived h clock t4) t s
  | .ptpDelayReqReceived t h => eventRow_settles (ptpDelayReqReceived h) t s
  | .ptpAnnounceReceived t h a => eventRow_settles (ptpAnnounceReceived h a) t s
  | .ptpSyncSend t => eventRow_settles ptpSyncSend t s
  | .ptpAnnounceSend t => eventRow_settles ptpAnnounceSend t s
  | .ptpDelayReqSend t => eventRow_settles ptpDelayReqSend t s
  | .ptpFollowUpTimeout t => eventRow_settles ptpFollowUpTimeout t s
  | .ptpMasterLost t => eventRow_settles ptpMasterLost t s
  | .ppsInEdge t => eventRow_settles ppsInEdge t s
  | .clockBlockMeasure t key => eventRow_settles (clockBlock key) t s
  | .timeSourceLost t => eventRow_settles timeSourceLost t s
  | .timeStepApply t => eventRow_settles timeStepRow t s
  | .refclkLost t => eventRow_settles refclkLost t s
  | .refclkReturn t => eventRow_settles refclkReturn t s
  | .pllLockLoss t pll => eventRow_settles (pllLockLoss pll) t s
  | .wclkOutModeSwitch t => eventRow_settles wclkOutModeSwitch t s
  | .ppsOutSecond t => eventRow_settles ppsOutSecond t s
  | .macFrameReceived t m f fill => eventRow_settles (macFrameReceived m f fill) t s
  | .pauseFrameReceived t m n => eventRow_settles (pauseFrameReceived m n) t s
  | .pauseHoldExpiry t m => eventRow_settles (pauseHoldExpiry m) t s
  | .pauseRepeat t m fill => eventRow_settles (pauseRepeat m fill) t s
  | .macFrameTransmit t m => eventRow_settles (macFrameTransmit m) t s
  | .macFrameSent t m aborted => eventRow_settles (macFrameSent m aborted) t s
  | .mediaPacketLateDrop t m => eventRow_settles (mediaPacketLateDrop m) t s
  | .macLinkChange t m up hiber => eventRow_settles (macLinkChange m up hiber) t s
  | .streamPacketReceived t m r => eventRow_settles (streamPacketReceived m r) t s
  | .streamDownTimeout t i => eventRow_settles (streamDownTimeout i) t s
  | .zenFrameReceived t p f fifoOk hiber => eventRow_settles (zenFrameReceived p f fifoOk hiber) t s
  | .zenFrameLaunch t => eventRow_settles zenFrameLaunch t s
  | .zenLockLoss t p inFrame => eventRow_settles (zenLockLoss p inFrame) t s
  | .zenMissingFrames t p => eventRow_settles (zenMissingFrames p) t s
  | .zenRootChange t => eventRow_settles zenRootChange t s
  | .zenLinkWord t p node peer q x => eventRow_settles (zenLinkWord p { node := node, port := peer, q := q, stamps := x }) t s
  | .twinLinkFrameLaunch t => eventRow_settles twinLinkFrameLaunch t s
  | .twinLinkFrameReceived t f => eventRow_settles (twinLinkFrameReceived f) t s
  | .relaySectionReceived t x => eventRow_settles (relaySectionReceived x) t s
  | .relayGapTimeout t => eventRow_settles relayGapTimeout t s
  | .twlLockLoss t => eventRow_settles twlLockLoss t s
  | .leaseRenewalTimer t => eventRow_settles leaseRenewalTimer t s
  | .leasePulseReceived t width => eventRow_settles (leasePulseReceived width) t s
  | .leaseSelfFenceTimeout t => eventRow_settles leaseSelfFenceTimeout t s
  | .leaseSilence t => eventRow_settles leaseSilence t s
  | .twinRoleDelayExpiry t => eventRow_settles twinRoleDelayExpiry t s
  | .aliveInStopped t => eventRow_settles aliveInStopped t s
  | .twinFenceSwitch t => eventRow_settles twinFenceSwitch t s
  | .handoverReceived t h epoch urgent => eventRow_settles (handoverReceived h epoch urgent) t s
  | .hackReceived t h => eventRow_settles (hackReceived h) t s
  | .commitReceived t h => eventRow_settles (commitReceived h) t s
  | .cancelReceived t h => eventRow_settles (cancelReceived h) t s
  | .hackDeadline t => eventRow_settles hackDeadline t s
  | .takebackHoldoffExpiry t => eventRow_settles takebackHoldoffExpiry t s
  | .fencereqReceived t force => eventRow_settles (fenceRequested force) t s
  | .detachReceived t => eventRow_settles detachReceived t s
  | .mirrorReady t k => eventRow_settles (mirrorReady k) t s
  | .mirrorFallback t k => eventRow_settles (mirrorFallback k) t s
  | .signatureMiss t k => eventRow_settles (signatureMiss k) t s
  | .twinAutojoinStart t => eventRow_settles twinAutojoinStart t s
  | .joinCopyBlock t x crcOk image => eventRow_settles (joinCopyBlock x crcOk image) t s
  | .joinCatchupDone t => eventRow_settles joinCatchupDone t s
  | .joinHealDone t => eventRow_settles joinHealDone t s
  | .joinRetry t => eventRow_settles joinRetry t s
  | .resetSourceAssert t cause => eventRow_settles (resetSourceAssert cause) t s
  | .resetSourceRelease t cause => eventRow_settles (resetSourceRelease cause) t s
  | .powerOnTimer t => eventRow_settles powerOnTimer t s
  | .firmwareWatchdog t => eventRow_settles firmwareWatchdog t s
  | .resetScopeApply t => eventRow_settles resetScopeApply t s
  | .clockGoodAssert t c => eventRow_settles (clockGoodAssert c) t s
  | .clockGoodTimeout t c => eventRow_settles (clockGoodTimeout c) t s
  | .readyEntry t => eventRow_settles readyEntry t s
  | .idleTimeout t i => eventRow_settles (idleTimeout i) t s
  | .domainPowerDone t d => eventRow_settles (domainPowerDone d) t s
  | .supplyWarning t rail mv => eventRow_settles (supplyWarning rail mv) t s
  | .supplyRecovery t rail low => eventRow_settles (supplyRecovery rail low) t s
  | .thermAlertChange t temp => eventRow_settles (thermAlertChange temp) t s
  | .polderReady t p => eventRow_settles (polderReady p) t s
  | .polderScrub t off err master => eventRow_settles (polderScrub off err master) t s
  | .busTransactionTimeout t m id addr => eventRow_settles (busTransactionTimeout m id addr) t s
  | .busLateResponse t m id => eventRow_settles (busLateResponse m id) t s
  | .dramRefresh t c neighbours => eventRow_settles (dramRefresh c neighbours) t s
  | .dramMr4Poll t rates fault => eventRow_settles (dramMr4Poll rates fault) t s
  | .dramSelfRefreshEntry t c request => eventRow_settles (dramSelfRefreshEntry c request) t s
  | .dramSelfRefreshExit t c => eventRow_settles (dramSelfRefreshExit c) t s
  | .dramOppointSwitch t => eventRow_settles dramOppointSwitch t s
  | .dramOppointDone t => eventRow_settles dramOppointDone t s
  | .stateSaveComplete t => eventRow_settles stateSaveComplete t s
  | .registerWrite t win off be v => eventRow_settles (registerWrite win off be v) t s
  | .registerReadClear t win off => eventRow_settles (registerReadClear win off) t s
  | .bitAliasWrite t off v => eventRow_settles (bitAliasWrite off v) t s
  | .postedWriteComplete t b => eventRow_settles (postedWriteComplete b) t s
  | .postedWriteTimeout t b => eventRow_settles (postedWriteTimeout b) t s
  | .timSnap t => eventRow_settles (fun s => s.rowWrite rTimCtl timSnap) t s
  | .sapgWtpop t v => eventRow_settles (fun s => s.rowWrite rSapgWtpop (sapgWtpop v)) t s
  | .irqEoi t v => eventRow_settles (fun s => s.rowWrite rIrqEoi (irqEoi v)) t s
  | .irqMsixUnmask t i => eventRow_settles (fun s => s.rowWrite rIrqMsixctl (irqMsixUnmask i)) t s
  | .cmdCtailWrite t n v => eventRow_settles (fun s => s.rowWrite rCmdCtail (cmdCtailWrite n v)) t s
  | .cmdRconsWrite t n v => eventRow_settles (fun s => s.rowWrite rCmdRcons (cmdRconsWrite n v)) t s
  | .cmdChannelEnable t n ien log2k => eventRow_settles (fun s => s.rowWrite rCmdCfg (cmdChannelEnable n ien log2k)) t s
  | .cmdChannelDisable t n ien => eventRow_settles (fun s => s.rowWrite rCmdCfg (cmdChannelDisable n ien)) t s
  | .macRxtailWrite t m r tail ds => eventRow_settles (fun s => if m < 4 ∧ r < 2 then s.rowWrite (rMacRxtail + 0x400 * m + 4 * r) (macRxtailWrite m r tail ds) else s) t s
  | .macTxtailWrite t m r tail ds => eventRow_settles (fun s => if m < 4 ∧ r < 2 then s.rowWrite (rMacTxtail + 0x400 * m + 4 * r) (macTxtailWrite m r tail ds) else s) t s
  | .rpcPdreqWrite t v => eventRow_settles (fun s => s.rowWrite rRpcPdreq (rpcPdreqWrite v)) t s
  | .pcieLinkChange t up enable mask => eventRow_settles (pcieLinkChange up enable mask) t s
  | .zenBlockLockGain t p => eventRow_settles (zenBlockLockGain p) t s
  | .twlBlockLockGain t delay => eventRow_settles (twlBlockLockGain delay) t s
  | .aliveInEdge t => eventRow_settles aliveInEdge t s
  | .aliveOutToggle t => eventRow_settles aliveOutToggle t s
  | .blockIdleReported t i => eventRow_settles (blockIdleReported i) t s
  | .ptpQualificationTimeout t => eventRow_settles ptpQualificationTimeout t s

end Sys2Proof.Machine
end

