-- ==== Sys2Proof/Laws/Settle.lean ====
section
/-! SUPPORT. Registers, and what follows an effect: interrupt messages, and nothing else while all is quiet. -/
namespace Sys2Proof.Machine
open Sys2Proof.Safety

@[simp] theorem State.reg_setReg_same (s : State) (a : Nat) (v : Word) : (s.setReg a v).reg a = v := by simp [State.reg, State.setReg]

theorem State.reg_setReg_other (s : State) {a b : Nat} (v : Word) (h : b ≠ a) : (s.setReg a v).reg b = s.reg b := by
  simp [State.reg, State.setReg, AMap.find_put_other s.regs v h]

theorem State.reg_congr {s t : State} (h : s.regs = t.regs) (a : Nat) : s.reg a = t.reg a := by simp [State.reg, h]

theorem foldl_unchanged {α β : Type} (f : β → α → β) (l : List α) (s : β) (h : ∀ x ∈ l, f s x = s) : l.foldl f s = s := by
  induction l with
  | nil => rfl
  | cons x l ih =>
    rw [List.foldl_cons, h x (by simp)]
    exact ih fun y hy => h y (by simp [hy])

theorem same_refl (s : State) : SameButMessages s s := ⟨rfl, fun _ _ _ _ => rfl⟩

theorem same_trans {s t u : State} (h : SameButMessages s t) (k : SameButMessages t u) : SameButMessages s u := by
  refine ⟨?_, fun a h1 h2 h3 => (h.2 a h1 h2 h3).trans (k.2 a h1 h2 h3)⟩
  have e := h.1
  have e' := k.1
  rw [← e'] at *
  rw [← e]

/-! What two states that are the same but for messages share. -/

theorem same_now {t u : State} (h : SameButMessages t u) : t.now = u.now := by
  have e := congrArg State.now h.1; exact e
theorem same_free {t u : State} (h : SameButMessages t u) : t.free = u.free := by
  have e := congrArg State.free h.1; exact e
theorem same_run {t u : State} (h : SameButMessages t u) : t.run = u.run := by
  have e := congrArg State.run h.1; exact e
theorem same_halt {t u : State} (h : SameButMessages t u) : t.halt = u.halt := by
  have e := congrArg State.halt h.1; exact e
theorem same_rate {t u : State} (h : SameButMessages t u) : t.rate = u.rate := by
  have e := congrArg State.rate h.1; exact e
theorem same_logQ {t u : State} (h : SameButMessages t u) : t.logQ = u.logQ := by
  have e := congrArg State.logQ h.1; exact e
theorem same_tu {t u : State} (h : SameButMessages t u) : t.tu = u.tu := by
  have e := congrArg State.tu h.1; exact e
theorem same_chans {t u : State} (h : SameButMessages t u) : t.chans = u.chans := by
  have e := congrArg State.chans h.1; exact e
theorem same_log {t u : State} (h : SameButMessages t u) : t.log = u.log := by
  have e := congrArg State.log h.1; exact e
theorem same_runs {t u : State} (h : SameButMessages t u) : t.runs = u.runs := by
  have e := congrArg State.runs h.1; exact e
theorem same_counters {t u : State} (h : SameButMessages t u) : t.counters = u.counters := by
  have e := congrArg State.counters h.1; exact e
theorem same_changes {t u : State} (h : SameButMessages t u) : t.changes = u.changes := by
  have e := congrArg State.changes h.1; exact e
theorem same_nextOrder {t u : State} (h : SameButMessages t u) : t.nextOrder = u.nextOrder := by
  have e := congrArg State.nextOrder h.1; exact e
theorem same_subs {t u : State} (h : SameButMessages t u) : t.subs = u.subs := by
  have e := congrArg State.subs h.1; exact e
theorem same_fw {t u : State} (h : SameButMessages t u) : t.fw = u.fw := by
  have e := congrArg State.fw h.1; exact e
theorem same_board {t u : State} (h : SameButMessages t u) : t.board = u.board := by
  have e := congrArg State.board h.1; exact e
theorem same_handles {t u : State} (h : SameButMessages t u) : t.handles = u.handles := by
  have e := congrArg State.handles h.1; exact e
theorem same_keep {t u : State} (h : SameButMessages t u) : t.keep = u.keep := by
  have e := congrArg State.keep h.1; exact e
theorem same_keepCrc {t u : State} (h : SameButMessages t u) : t.keepCrc = u.keepCrc := by
  have e := congrArg State.keepCrc h.1; exact e
theorem same_keepOk {t u : State} (h : SameButMessages t u) : t.keepOk = u.keepOk := by
  have e := congrArg State.keepOk h.1; exact e
theorem same_keepDue {t u : State} (h : SameButMessages t u) : t.keepDue = u.keepDue := by
  have e := congrArg State.keepDue h.1; exact e
theorem same_pd {t u : State} (h : SameButMessages t u) : t.pd = u.pd := by
  have e := congrArg State.pd h.1; exact e
theorem same_load {t u : State} (h : SameButMessages t u) : t.load = u.load := by
  have e := congrArg State.load h.1; exact e
theorem same_dramOn {t u : State} (h : SameButMessages t u) : t.dramOn = u.dramOn := by
  have e := congrArg State.dramOn h.1; exact e
theorem same_dram {t u : State} (h : SameButMessages t u) : t.dram = u.dram := by
  have e := congrArg State.dram h.1; exact e
theorem same_mem {t u : State} (h : SameButMessages t u) : t.mem = u.mem := by
  have e := congrArg State.mem h.1; exact e
theorem same_build {t u : State} (h : SameButMessages t u) : t.build = u.build := by
  have e := congrArg State.build h.1; exact e
theorem same_cfg {t u : State} (h : SameButMessages t u) : t.cfg = u.cfg := by
  have e := congrArg State.cfg h.1; exact e
theorem same_audio {t u : State} (h : SameButMessages t u) : t.audio = u.audio := by
  have e := congrArg State.audio h.1; exact e
theorem same_pcie {t u : State} (h : SameButMessages t u) : t.pcie = u.pcie := by
  have e := congrArg State.pcie h.1; exact e
theorem same_sap {t u : State} (h : SameButMessages t u) : t.sap = u.sap := by
  have e := congrArg State.sap h.1; exact e
theorem same_net {t u : State} (h : SameButMessages t u) : t.net = u.net := by
  have e := congrArg State.net h.1; exact e
theorem same_zen {t u : State} (h : SameButMessages t u) : t.zen = u.zen := by
  have e := congrArg State.zen h.1; exact e
theorem same_twin {t u : State} (h : SameButMessages t u) : t.twin = u.twin := by
  have e := congrArg State.twin h.1; exact e
theorem same_pendReset {t u : State} (h : SameButMessages t u) : t.pendReset = u.pendReset := by
  have e := congrArg State.pendReset h.1; exact e
theorem same_rpc {t u : State} (h : SameButMessages t u) : t.rpc = u.rpc := by
  have e := congrArg State.rpc h.1; exact e
theorem same_served {t u : State} (h : SameButMessages t u) : t.served = u.served := by
  have e := congrArg State.served h.1; exact e
theorem same_spi {t u : State} (h : SameButMessages t u) : t.spi = u.spi := by
  have e := congrArg State.spi h.1; exact e
theorem same_posted {t u : State} (h : SameButMessages t u) : t.posted = u.posted := by
  have e := congrArg State.posted h.1; exact e
theorem same_read {t u : State} (h : SameButMessages t u) : t.read = u.read := by
  have e := congrArg State.read h.1; exact e
theorem same_msixEnable {t u : State} (h : SameButMessages t u) : t.msixEnable = u.msixEnable := by
  have e := congrArg State.msixEnable h.1; exact e
theorem same_msixMask {t u : State} (h : SameButMessages t u) : t.msixMask = u.msixMask := by
  have e := congrArg State.msixMask h.1; exact e
theorem same_pending {t u : State} (h : SameButMessages t u) : t.pending = u.pending := by
  have e := congrArg State.pending h.1; exact e

/-- A vector that sends, or sets its pending bit, changes only the interrupt registers and the messages. -/
theorem State.sendVector_same (s : State) (i : Nat) : SameButMessages (s.sendVector i) s := by
  unfold State.sendVector
  split
  · split
    · refine ⟨rfl, fun a _ h _ => ?_⟩
      exact State.reg_setReg_other s _ h
    · refine ⟨rfl, fun a h1 h2 h3 => ?_⟩
      show (((s.clrReg rIrqArmed (2 ^ i)).clrReg rIrqPba0 (2 ^ i)).bump rIrqMsicnt).reg a = s.reg a
      rw [State.bump, State.reg_setReg_other _ _ h3, State.clrReg, State.reg_setReg_other _ _ h2, State.clrReg, State.reg_setReg_other _ _ h1]
  · exact same_refl s

/-- Sending interrupt messages changes nothing else. -/
theorem State.sendVectors_same (s : State) : SameButMessages s.sendVectors s := by
  unfold State.sendVectors
  generalize List.range 29 = l
  induction l generalizing s with
  | nil => exact same_refl s
  | cons i l ih => exact same_trans (ih (s.sendVector i)) (s.sendVector_same i)

theorem State.flushNotes_nil (s : State) (n k : Nat) (h : (s.chan n).notes = []) : s.flushNotes n k = s := by
  cases k with
  | zero => rfl
  | succ k => simp [State.flushNotes, h]

/-- In a quiet state only interrupt messages follow. -/
theorem State.settle_quiet {s : State} (h : Quiet s) : s.settle = s.sendVectors := by
  obtain ⟨h1, h2, h3, h4, h5⟩ := h
  have e1 : (List.range 15).map (fun n => (s.chan n).waiting.length) = (List.range 15).map (fun _ => 0) := by
    apply List.map_congr_left
    intro n hn
    simp [(h1 n (List.mem_range.mp hn)).1]
  have e2 : nsum ((List.range 15).map fun n => (s.chan n).waiting.length) = 0 := by rw [e1]; rfl
  have f1 : (List.range 15).foldl (fun (s : State) n => s.flushNotes n 256) s = s :=
    foldl_unchanged _ _ _ fun n hn => s.flushNotes_nil n 256 (h1 n (List.mem_range.mp hn)).2
  have f2 : (span 9 4).foldl (fun (s : State) n => if (s.chan n).out.isEmpty && (s.chan n).gather.isNone then s else s.flushUdp n) s = s := by
    apply foldl_unchanged
    intro n hn
    have : 9 ≤ n ∧ n < 15 := by simp [span, List.range_succ] at hn; omega
    simp [h3 n this.1 this.2]
  have f3 : [13, 14].foldl (fun (s : State) n => if (s.chan n).out.isEmpty then s else s.flushInband n) s = s := by
    apply foldl_unchanged
    intro n hn
    have : 9 ≤ n ∧ n < 15 := by simp at hn; omega
    simp [h3 n this.1 this.2]
  have f4 : s.ptpFlush = s := by
    unfold State.ptpFlush
    simp only [h4, List.foldl_nil]
    have : ({ s.tu with ptpOut := [] } : TimeUnit) = s.tu := by rw [← h4]
    rw [this]
  have f5 : s.closeChannels = s := by
    unfold State.closeChannels
    exact foldl_unchanged _ _ _ fun n hn => by simp [h2 n (List.mem_range.mp hn)]
  have f6 : s.judgeRefclk = s := by simp [State.judgeRefclk, h5]
  unfold State.settle
  rw [e2]
  simp only [State.serve, State.flushOut]
  rw [f1, f2, f3, f4, f5, f6]

/-- After a quiet effect only interrupt messages follow. -/
theorem settle_same {u : State} (h : Quiet u) : SameButMessages u.settle u := by
  rw [State.settle_quiet h]
  exact u.sendVectors_same

/-- An event whose effect is a quiet state ends in it. -/
theorem eventRow_ends {i : Instr} {s u : State} {t : Nat} {f : State → State} (he : exec i s = eventRow f t s) (hf : f (s.atTime t) = u)
    (hq : Quiet u) : EndsIn i s u := ⟨u.settle, by rw [he, eventRow, hf], settle_same hq⟩

/-- Quiet depends on the channels, the PTP messages and the board table alone. -/
theorem quiet_of_eq {s u : State} (h : Quiet s) (hc : u.chans = s.chans) (ht : u.tu.ptpOut = s.tu.ptpOut) (hb : u.board = s.board) : Quiet u := by
  have e : ∀ n, u.chan n = s.chan n := fun n => by simp [State.chan, hc]
  refine ⟨fun n hn => ?_, fun n hn => ?_, fun n a b => ?_, ?_, ?_⟩
  · rw [e]; exact h.1 n hn
  · rw [e]; exact h.2.1 n hn
  · rw [e]; exact h.2.2.1 n a b
  · rw [ht]; exact h.2.2.2.1
  · rw [hb]; exact h.2.2.2.2

/-- The passing of time leaves a quiet state quiet. -/
theorem quiet_atTime {s : State} (h : Quiet s) (t : Nat) : Quiet (s.atTime t) := quiet_of_eq h rfl rfl rfl

/-- A change of one channel that leaves its waiting packets, notifications and reset as they are, on a channel whose transport takes
replies when asked, leaves a quiet state quiet. -/
theorem quiet_updChan {s : State} (h : Quiet s) {n : Nat} (hn : n ≤ 8) (f : Channel → Channel)
    (hw : ∀ c, (f c).waiting = c.waiting ∧ (f c).notes = c.notes ∧ (f c).closing = c.closing) : Quiet (s.updChan n f) := by
  have same : (s.updChan n f).chan n = f (s.chan n) := by simp [State.chan, State.updChan, State.setChan]
  have other : ∀ m, m ≠ n → (s.updChan n f).chan m = s.chan m := fun m hm => by
    simp [State.chan, State.updChan, State.setChan, AMap.getD_put_other _ _ _ hm]
  refine ⟨fun m hm => ?_, fun m hm => ?_, fun m a b => ?_, h.2.2.2⟩
  · by_cases e : m = n
    · subst e; rw [same, (hw _).1, (hw _).2.1]; exact h.1 _ hm
    · rw [other m e]; exact h.1 m hm
  · by_cases e : m = n
    · subst e; rw [same, (hw _).2.2]; exact h.2.1 _ hm
    · rw [other m e]; exact h.2.1 m hm
  · rw [other m (by omega)]; exact h.2.2.1 m a b

end Sys2Proof.Machine
end

