-- ==== Sys2Proof/Laws/Protocol.lean ====
section
/-! SUPPORT. What the shared operations of the packet protocol do: channels, notes of what happened, acceptance and answers. -/
namespace Sys2Proof.Machine
open Sys2Proof.Safety

/-! ### Channels -/

@[simp] theorem State.chan_updChan_same (s : State) (n : Nat) (f : Channel → Channel) : (s.updChan n f).chan n = f (s.chan n) := by
  simp [State.updChan, State.setChan, State.chan]

theorem State.chan_updChan_other (s : State) {n m : Nat} (f : Channel → Channel) (h : m ≠ n) : (s.updChan n f).chan m = s.chan m := by
  simp [State.updChan, State.setChan, State.chan, AMap.getD_put_other _ _ _ h]

@[simp] theorem State.chan_emit_same (s : State) (n : Nat) (r : Reply) : (s.emit n r).chan n =
    if n < 8 then (s.chan n).produce r else { s.chan n with out := (s.chan n).out ++ [r] } := by
  simp [State.emit]

theorem State.chan_emit_other (s : State) {n m : Nat} (r : Reply) (h : m ≠ n) : (s.emit n r).chan m = s.chan m := by
  simp [State.emit, State.chan_updChan_other _ _ h]

/-! ### Notes: what counts, logs and answers, and nothing else -/

/-- The states agree on everything but channels, the event log, runs, counters and registers. -/
def OnlyNotes (t s : State) : Prop :=
  ({ t with chans := s.chans, log := s.log, runs := s.runs, counters := s.counters, regs := s.regs } : State) = s

theorem OnlyNotes.refl (s : State) : OnlyNotes s s := rfl

theorem OnlyNotes.trans {a b c : State} (h : OnlyNotes a b) (k : OnlyNotes b c) : OnlyNotes a c := by
  unfold OnlyNotes at *; rw [← k]; rw [← h]

theorem OnlyNotes.index {t s : State} (h : OnlyNotes t s) : t.index = s.index := by
  have e : t.index = ({ t with chans := s.chans, log := s.log, runs := s.runs, counters := s.counters, regs := s.regs } : State).index := rfl
  rw [e, h]

theorem State.updChan_onlyNotes (s : State) (n : Nat) (f : Channel → Channel) : OnlyNotes (s.updChan n f) s := rfl

theorem State.setReg_onlyNotes (s : State) (a : Nat) (v : Word) : OnlyNotes (s.setReg a v) s := rfl

theorem State.logAt_onlyNotes (s : State) (c : Nat) (i : Int) (v : List Int) : OnlyNotes (s.logAt c i v) s := by
  simp only [State.logAt, State.setEvt, State.orReg, State.bump, State.setReg, OnlyNotes]
  repeat' split
  all_goals rfl

theorem State.logOnceAt_onlyNotes (s : State) (c k : Nat) (i : Int) (v : List Int) : OnlyNotes (s.logOnceAt c k i v) s := by
  simp only [State.logOnceAt]
  split
  · rfl
  · have := State.logAt_onlyNotes s c i v
    unfold OnlyNotes at this ⊢
    simp only [State.openRun]; split <;> exact this

theorem State.count_onlyNotes (s : State) (c i n : Nat) : OnlyNotes (s.count c i n) s := by
  simp only [State.count]; split <;> rfl

theorem State.violation_onlyNotes (s : State) (ch k : Nat) (t : BitVec 16) : OnlyNotes (s.violation ch k t) s := by
  simp only [State.violation, State.logOnce]
  exact (State.logOnceAt_onlyNotes _ _ _ _ _).trans ((State.count_onlyNotes _ _ _ _).trans rfl)

theorem State.emit_onlyNotes (s : State) (n : Nat) (r : Reply) : OnlyNotes (s.emit n r) s := rfl

theorem State.noViolation_onlyNotes (s : State) (n : Nat) : OnlyNotes (s.noViolation n) s := rfl

theorem State.chans_logAt (s : State) (c : Nat) (i : Int) (v : List Int) : (s.logAt c i v).chans = s.chans := by
  simp only [State.logAt, State.setEvt, State.orReg, State.bump, State.setReg]
  repeat' split
  all_goals rfl

theorem State.chans_logOnceAt (s : State) (c k : Nat) (i : Int) (v : List Int) : (s.logOnceAt c k i v).chans = s.chans := by
  simp only [State.logOnceAt]; split
  · rfl
  · simp only [State.openRun]; split <;> simp

@[simp] theorem State.chans_count (s : State) (c i n : Nat) : (s.count c i n).chans = s.chans := by
  simp only [State.count]; split <;> rfl

@[simp] theorem State.chans_violation (s : State) (ch k : Nat) (t : BitVec 16) : (s.violation ch k t).chans = s.chans := by
  simp [State.violation, State.logOnce, State.chans_logOnceAt]

@[simp] theorem State.chan_violation (s : State) (ch k : Nat) (t : BitVec 16) (n : Nat) : (s.violation ch k t).chan n = s.chan n := by
  simp [State.chan]

@[simp] theorem State.chan_noViolation (s : State) (ch n : Nat) : (s.noViolation ch).chan n = s.chan n := rfl

theorem State.reg_logAt (s : State) (c : Nat) (i : Int) (v : List Int) {a : Nat} (h1 : a ≠ rEvtEvt) (h2 : a ≠ rEvtLostcnt) :
    (s.logAt c i v).reg a = s.reg a := by
  simp only [State.logAt, State.setEvt, State.orReg, State.bump]
  repeat' split
  all_goals simp [State.reg_setReg_other _ _ h1, State.reg_setReg_other _ _ h2]
  all_goals rfl

theorem State.reg_logOnceAt (s : State) (c k : Nat) (i : Int) (v : List Int) {a : Nat} (h1 : a ≠ rEvtEvt) (h2 : a ≠ rEvtLostcnt) :
    (s.logOnceAt c k i v).reg a = s.reg a := by
  simp only [State.logOnceAt]; split
  · rfl
  · simp only [State.openRun]; split <;> exact State.reg_logAt _ _ _ _ h1 h2

theorem State.reg_violation (s : State) (ch k : Nat) (t : BitVec 16) {a : Nat} (h1 : a ≠ rEvtEvt) (h2 : a ≠ rEvtLostcnt) :
    (s.violation ch k t).reg a = s.reg a := by
  simp only [State.violation, State.logOnce]
  rw [State.reg_logOnceAt _ _ _ _ _ h1 h2]
  simp only [State.count]; split <;> rfl

/-! ### Acceptance -/

/-- Everything that the interpreter can do with a packet on a device that takes commands. -/
theorem CmdSpec.interpret_takes (c : CmdSpec) (p : Packet) (s : State) (h : s.takes = true) :
    c.interpret p s = match c.verdict p (breakChain c.op p s) with
      | .deny d => c.denied p d (breakChain c.op p s)
      | .denyLate d => c.denied p d (c.onDeny p d (breakChain c.op p s))
      | .forward => c.forwarded p (breakChain c.op p s)
      | .take i => c.taken p i (breakChain c.op p s) := by
  unfold CmdSpec.interpret; exact if_pos h

/-- A packet that is taken, outside sets and chains, has its command's own effect, and is answered. -/
theorem CmdSpec.interpret_take (c : CmdSpec) (p : Packet) (s : State) (i : Int) (h : s.takes = true)
    (hv : c.verdict p (breakChain c.op p s) = .take i) (hg : p.group = false) (hm : p.more = false) :
    c.interpret p s = c.finish p i (breakChain c.op p s) (c.act p (breakChain c.op p s) i none) := by
  simp only [CmdSpec.interpret, if_pos h, hv, CmdSpec.taken, CmdSpec.accept, hg, hm, Bool.false_eq_true, if_false]

/-- A device that takes no commands leaves a packet alone. -/
theorem CmdSpec.interpret_off (c : CmdSpec) (p : Packet) (s : State) (h : s.takes = false) : c.interpret p s = s := by
  simp [CmdSpec.interpret, h]

/-- The acceptance of a command whose row is a row of the catalogue, from its effect alone. -/
theorem Command.holds_of_act (c : Command) (hr : ∀ t p s, exec (c.row t p) s = runRow c.spec t p s)
    (ha : ∀ p u i, c.spec.act p u i none = c.effect p u i) : c.Holds := by
  intro t p s i h hg hm
  rw [hr, runRow, CmdSpec.interpret_take c.spec p (s.atTime t) i h.1 h.2 hg hm, ha]
  rfl

/-- A row of events does what its effect does, and what follows from it at once. -/
theorem eventRow_eq (f : State → State) (t : Nat) (s : State) : eventRow f t s = .next (f (s.atTime t)).settle := rfl

/-! ### Changes that wait -/

@[simp] theorem State.changes_enqueue (s : State) (c : Change) : (s.enqueue c).changes = s.changes ++ [{ c with order := s.nextOrder }] := rfl
@[simp] theorem State.nextOrder_enqueue (s : State) (c : Change) : (s.enqueue c).nextOrder = s.nextOrder + 1 := rfl

/-- Entering a change touches the waiting changes and the order of acceptance, and nothing else. -/
theorem State.enqueue_frame (s : State) (c : Change) : ({ s.enqueue c with changes := s.changes, nextOrder := s.nextOrder } : State) = s := rfl

end Sys2Proof.Machine
end

