-- ==== Sys2Proof/Tests/Slice0.lean ====
section
/-! SUPPORT. Tests: for every statement with hypotheses a state that meets them, an ill-formed term for each check of WellFormed, and the spec's
worked examples. -/
namespace Sys2Proof.Tests
open Sys2Proof.Machine Sys2Proof.Safety
set_option Elab.async false
set_option maxRecDepth 8000

/-- READY, with every power domain on and the PCIe link up. -/
def ready : State := { State.reset with run := .ready, pd := 65535, pcie := true, tu := { State.reset.tu with counting := true } }
def running : State := { ready with run := .running }
theorem met (r : Rule) (s : State) (h : r.guard (s.atTime 0)) : r.Met := ⟨0, s, h⟩
theorem cmet (r : Course) (s : State) (h : r.guard (s.atTime 0)) : r.Met := ⟨0, s, h⟩
theorem met_of (c : Command) (p : Packet) (s : State) (i : Int)
   (h : (s.atTime 0).takes = true ∧ c.spec.verdict p (judgedIn c.spec 0 p s) = .take i ∧ p.group = false ∧ p.more = false) : c.Met :=
  ⟨0, p, s, i, ⟨h.1, h.2.1⟩, h.2.2⟩

/-! ### The events' rules -/

def onChan (n : Nat) (c : Channel) : State := { ready with chans := [(n, c)] }
def r0 : Reply := mkReply 1 { ch := 8 } .ok 0 0 []
def zenOn : State := { ready with zen := { ready.zen with enabled := true, node := 1 } }
def frag : Fragment := { dest := 1, src := 2, seq := 0, frag := 0, last := false, octets := 16, words := [0,0,0,0] }
theorem witness_packetsArrive :
    (fetchQueues 0 []).Met ∧ (fetchGoesOn 0 [] 5 13).Met ∧ (spiWriteQueues 16 [4]).Met ∧ (spiWriteShort 15 []).Met ∧ (spiWriteBusy 16 []).Met ∧
    (spiWriteBad 16 [0, 1]).Met ∧ (spiReadsNothing true).Met ∧ (spiReadsOldest false r0 []).Met ∧ spiStatusOpens.Met ∧
    (datagramQueues 0 1 2 16 []).Met ∧ (datagramForeign 0 1 2 16 []).Met ∧ (fragmentKept 0 frag).Met ∧
    (fragmentCompletes 1 { frag with last := true } 16 [0, 0, 0, 0]).Met ∧ (messageGivenUp 0 2 { area := 0, src := 2, seq := 0, since := -64 }).Met ∧
    (forwardGivenUp 0 0x104 { ch := 0 } 0).Met :=
  ⟨met _ { (onChan 0 { ctail := 1 }) with regs := [(rCmdCfg, 0x41)] } (by decide +kernel),
   met _ { (onChan 0 { ctail := 1, remote := some (5, 13) }) with regs := [(rCmdCfg, 0x41)] } (by decide +kernel),
   met _ ready (by decide +kernel), met _ ready (by decide +kernel), met _ State.reset (by decide +kernel), met _ ready (by decide +kernel),
   met _ ready (by decide +kernel), met _ (onChan 8 { out := [r0] }) (by decide +kernel), met _ ready trivial,
   met _ { ready with net := { ready.net with macs := [(0, { enabled := true, cfg := [0, 0, 0, 0, 5] })] } } (by decide +kernel),
   met _ { (onChan 9 { filter := 7 }) with net := { ready.net with macs := [(0, { enabled := true, cfg := [0, 0, 0, 0, 5] })] } } (by decide +kernel),
   met _ zenOn (by decide +kernel), met _ zenOn (by decide +kernel),
   met _ { ready with zen := { ready.zen with inbox := [{ area := 0, src := 2, seq := 0, since := -64 }] } } (by decide +kernel),
   ⟨4000000, onChan 0 { hold := some (.relay 0x104 { ch := 0 } 0) }, by decide +kernel⟩⟩
def reg0 (a : Nat) (v : Word) (s : State) : State := { s with regs := AMap.put s.regs a v }
def off : State := { ready with pd := 7 }
theorem witness_registerAccessesAct :
    (writeLands 0 15 0).Met ∧ (writePosts 0x804 15 0).Met ∧ (writeLost 0x804 15 0).Met ∧ (writeAliased 0 15 0).Met ∧ (writeBad 0 0 14 0).Met ∧
    (writeBad 2 0 15 0).Met ∧ (writeOff 0x5000 15 0).Met ∧ (readReturns 0).Met ∧ (readOff 0x5000).Met ∧ (readAliased 0).Met ∧ (readEngine 0).Met ∧
    (aliasLands 0 1).Met ∧ (postedLands 2 ⟨0x804, 1, 0⟩).Met ∧ (postedDiscarded 2 ⟨0x804, 1, 0⟩).Met ∧ (spiReadsRegister 0).Met ∧
    spiReadFails.Met ∧ (spiWritesRegister 0 0).Met :=
  have waits : State := ready
  ⟨met _ ready (by decide +kernel), met _ ready (by decide +kernel), met _ { ready with posted := [(2, ⟨0x804, 1, 0⟩)] } (by decide +kernel),
   met _ ready (by decide +kernel), met _ ready (by decide +kernel), met _ ready (by decide +kernel), met _ off (by decide +kernel),
   met _ ready (by decide +kernel), met _ off (by decide +kernel), met _ ready (by decide +kernel), met _ ready (by decide +kernel),
   met _ ready (by decide +kernel), met _ { ready with posted := [(2, ⟨0x804, 1, 0⟩)] } (by decide +kernel),
   ⟨4000, { ready with posted := [(2, ⟨0x804, 1, 0⟩)] }, by decide +kernel⟩, met _ ready (by decide +kernel), met _ ready (by decide +kernel),
   met _ ready (by decide +kernel)⟩
theorem witness_singleRegistersAct :
    snapTaken.Met ∧ (witnessPopped 1).Met ∧ (vectorsArmed 1).Met ∧ (vectorUnmasked 31).Met ∧ functionUnmasked.Met ∧ (tailTaken 0 16).Met ∧
    (tailRefused 0 17).Met ∧ (consumed 7 0).Met ∧ (consumedRefused 7 1).Met ∧ (channelEnabled 7 true 4).Met ∧ (channelDisabled 0 true).Met ∧
    (channelCloses 0 true).Met ∧ (rxDescsGiven 3 1 0 []).Met ∧ (txDescsGiven 3 1 0 []).Met ∧ (domainsRefused 0x3FE0 15 false).Met ∧
    (domainsRequested 0).Met ∧ (linkChanges false true false).Met ∧ (linkChanges true true false).Met :=
  ⟨met _ ready (by decide +kernel), met _ ready (by decide +kernel), met _ ready (by decide +kernel), met _ ready (by decide +kernel),
   met _ ready (by decide +kernel), met _ (reg0 rCmdCfg 0x40 ready) (by decide +kernel), met _ (reg0 rCmdCfg 0x40 ready) (by decide +kernel), met _ ready (by decide +kernel),
   met _ ready (by decide +kernel), met _ ready (by decide +kernel), met _ (reg0 rCmdCfg 1 ready) (by decide +kernel),
   met _ (reg0 rCmdCfg 1 (onChan 0 { hold := some .reply })) (by decide +kernel), met _ ready (by decide +kernel), met _ ready (by decide +kernel),
   met _ (reg0 rCmdCfg 1 ready) (by decide +kernel), met _ ready (by decide +kernel), met _ ready (by decide +kernel), met _ ready (by decide +kernel)⟩
def fadeChange (i : Int) : Change := { index := i, quantum := false, order := 0, timed := true, op := 0x307, packets := [{ ch := 0, params := [0, 0] }] }
def entryOf (l : Nat) (i : Inst) : ReadyEntry := { list := l, due := 100, rank := 0, opId := 3, k := 0, inst := i }
def slotOf (l : Nat) (i : Inst) : Dispatched := { entry := entryOf l i }
def run0 (o : List Inst) : QRun := { k := 0, ord := 0, cfg := {}, open_ := o }
def busy (l : Nat) (i : Inst) (o : List Inst) : State := { running with audio := { running.audio with slots := [slotOf l i], runs := [run0 o] } }
theorem witness_schedulerRuns :
    (changeTaken (fadeChange 0)).Met ∧ (changeWaits (fadeChange 1)).Met ∧ (quantumStarts 0).Met ∧ (instanceTakesSlot 8 0 true (entryOf 8 (.pass 0))).Met ∧
    (operationCompletes 0 3 (slotOf 7 (.op 3)) (run0 [])).Met ∧ (passCompletes 0 0 (slotOf 8 (.pass 0)) (run0 [])).Met ∧
    (tierCompletes 0 3 0 0 (slotOf 6 (.tier 3 0 0))).Met ∧ tickReleases.Met ∧ (operationStopped 0 3 (slotOf 7 (.op 3)) (run0 [.op 3])).Met ∧
    (tierStopped 0 3 0 0 (slotOf 6 (.tier 3 0 0))).Met ∧ (waitGoesOn 0 (.op 3) (slotOf 7 (.op 3))).Met ∧ (deadlinePasses 0 (run0 [])).Met ∧
    (deadlineRetires 1 { run0 [] with k := 1, ord := 1 } (run0 [.op 3])).Met ∧ (copyDone 3 9 [] (0, { handle := 9, op := 3, count := 1 })).Met :=
  ⟨⟨4000000, { ready with changes := [fadeChange 0] }, by decide +kernel⟩, met _ { ready with changes := [fadeChange 1] } (by decide +kernel),
   ⟨80000, { running with audio := { running.audio with next := some 0 } }, by decide +kernel⟩,
   met _ { running with audio := { running.audio with ready := [entryOf 8 (.pass 0)] } } (by decide +kernel),
   met _ (busy 7 (.op 3) []) (by decide +kernel), met _ (busy 8 (.pass 0) []) (by decide +kernel),
   met _ { busy 6 (.tier 3 0 0) [] with audio := { (busy 6 (.tier 3 0 0) []).audio with mem := [(3, { last := 0, op := ⟨0x20, 1, 1, []⟩, st := .conv 0 [] [{ spectra := [(0, ([], 0))] }] })] } } (by decide +kernel),
   ⟨400, running, by decide +kernel⟩,
   ⟨4000000, busy 7 (.op 3) [.op 3], by decide +kernel⟩, ⟨4000000, busy 6 (.tier 3 0 0) [], by decide +kernel⟩,
   met _ (busy 7 (.op 3) []) (by decide +kernel), ⟨4000000, { running with audio := { running.audio with runs := [run0 []] } }, by decide +kernel⟩,
   ⟨4000000, { running with audio := { running.audio with runs := [run0 [.op 3], { run0 [] with k := 1, ord := 1 }] } }, by decide +kernel⟩,
   met _ { running with cfg := { running.cfg with conv := [(3, { copying := [9] })] },
                        audio := { running.audio with slotsConv := [(0, { handle := 9, op := 3, count := 1 })] } } (by decide +kernel)⟩
def grp (x : SapGroup) : State := { running with sap := { running.sap with groups := [(0, x)] } }
def setOf (x : SapSet) (g : SapGroup) : State := { running with sap := { running.sap with groups := [(0, g)], sets := [(0, x)] } }
def fr : SapFrame := { edge := 0, cycles := 128, period := 166667 }
def live (st : SapState) : State := grp { cfg0 := 8, cfg1 := 1, state := st, label := some 100 }
theorem witness_sapGroupsStartAndStop :
    (groupQuiet 0 0 {}).Met ∧ (setRuns 0 {}).Met ∧ startInStarts.Met ∧ startInIgnored.Met ∧ (groupOff 0).Met ∧ (clockStops 0 100).Met ∧
    (rateHolds 0 0 255).Met ∧ (rateGood 0 42666667 255).Met ∧ (rejoinStarts 0).Met ∧ (rejoinEnds 0 0).Met :=
  ⟨met _ (setOf {} { state := .armed, set := some 0 }) (by decide +kernel), met _ (setOf {} { state := .quiet, set := some 0 }) (by decide +kernel),
   met _ running (by decide +kernel), met _ { running with twin := { running.twin with enabled := true } } (by decide +kernel),
   met _ (grp { state := .closing, closeAt := -5000 }) (by decide +kernel), met _ (live .run) (by decide +kernel),
   met _ (grp { state := .run, label := some 255 }) (by decide +kernel), met _ (grp { state := .run, label := some 255 }) (by decide +kernel),
   met _ (grp { state := .stopped, cfg0 := 0x00400000, cfg1 := 0xFFFFFFFF }) (by decide +kernel),
   met _ (grp { state := .rejoin, enableAt := some 0 }) (by decide +kernel)⟩
theorem witness_sapFramesAndTapsMove :
    (frameTaken 0 fr [] 0).Met ∧ (frameMisframed 0 { fr with cycles := 200 } [] 0).Met ∧ (frameGlitched 0 { fr with glitches := 2 } [] 0).Met ∧
    (frameQuiet 0 fr [] 0).Met ∧ (frameRejoins 0 fr [] 0).Met ∧ (frameSent 0 fr 0).Met ∧
    (blockRead 0 0 [0, 0] ⟨2, 0, 0, 2⟩).Met ∧ (blockMissing 0 0 [1, 0] ⟨2, 0, 0, 2⟩).Met ∧ (blockWritten 0 1 ⟨2, 0, 0, 2⟩).Met ∧ (blockLost 0 1 ⟨2, 0, 0, 2⟩).Met :=
  ⟨met _ (live .run) (by decide +kernel), met _ (live .run) (by decide +kernel), met _ (live .run) (by decide +kernel), met _ (live .quiet) (by decide +kernel),
   met _ (live .rejoin) (by decide +kernel), met _ (live .run) (by decide +kernel),
   ⟨4000000, { running with sap := { running.sap with taps := [(0, ⟨2, 0, 0, 2⟩)] } }, by decide +kernel⟩,
   ⟨4000000, { running with sap := { running.sap with taps := [(0, ⟨2, 0, 0, 2⟩)] } }, by decide +kernel⟩,
   ⟨4000000, { running with sap := { running.sap with taps := [(256, ⟨2, 0, 0, 2⟩)] } }, by decide +kernel⟩,
   ⟨4000000, { running with pcie := false, sap := { running.sap with taps := [(256, ⟨2, 0, 0, 2⟩)] } }, by decide +kernel⟩⟩
def ptpOn (p : PtpPort) : State := { ready with tu := { ready.tu with ptp := { p with enabled := true } } }
def slave : PtpPort := { state := .slave, parent := some (5, 1), lastOffset := some 0, delayReq := some (3, some 0) }
def hdr : PtpHeader := { clock := 5, seq := 3 }
def syncThere : PtpPending := ⟨5, 1, 3, 0, 0, 0⟩
theorem witness_ptpMessagesCount :
    (syncMeasures hdr 0).Met ∧ (syncWaits hdr 0).Met ∧ (syncOutOfSequence hdr true 0).Met ∧ (syncForeign { hdr with domain := 1 } true 0).Met ∧
    (followUpMeasures hdr 0 syncThere).Met ∧ (followUpAlone hdr 0).Met ∧ (followUpMissed syncThere).Met ∧
    (delayMeasured hdr 0xFFFE000000 0 0 0).Met ∧ (delayNegative hdr 0xFFFE000000 (-1) 0 0).Met ∧ (delayAnswered hdr).Met ∧ (delayUnanswered hdr).Met ∧
    (announceHeard hdr {}).Met ∧ (announceSelects hdr {}).Met ∧ (announceOutOfSequence hdr {}).Met ∧ syncSent.Met ∧ announceSent.Met ∧ delayAsked.Met ∧
    masterLost.Met ∧ masterLostAside.Met ∧ masterNone.Met ∧ portLeads.Met :=
  ⟨met _ (ptpOn slave) (by decide +kernel), met _ (ptpOn slave) (by decide +kernel), met _ (ptpOn { slave with lastSyncSeq := some 3 }) (by decide +kernel),
   met _ (ptpOn slave) (by decide +kernel), met _ (ptpOn { slave with pending := some syncThere }) (by decide +kernel), met _ (ptpOn slave) (by decide +kernel),
   ⟨50000000, ptpOn { slave with pending := some syncThere }, by decide +kernel⟩,
   met _ (ptpOn slave) (by decide +kernel), met _ (ptpOn slave) (by decide +kernel),
   met _ (ptpOn { state := .master, answered := 511 }) (by decide +kernel), met _ (ptpOn { state := .master, answered := 512 }) (by decide +kernel),
   met _ (ptpOn { state := .listening }) (by decide +kernel),
   met _ (ptpOn { state := .listening, slaveOnly := true, foreign := [⟨5, 1, {}, [0]⟩] }) (by decide +kernel),
   met _ (ptpOn { slave with lastAnnSeq := some 3 }) (by decide +kernel), met _ (ptpOn { state := .master }) (by decide +kernel),
   met _ (ptpOn { state := .master }) (by decide +kernel), met _ (ptpOn slave) (by decide +kernel),
   ⟨10 ^ 10, { ptpOn slave with tu := { (ptpOn slave).tu with source := .ptp } }, by decide +kernel⟩, ⟨10 ^ 10, ptpOn slave, by decide +kernel⟩,
   ⟨10 ^ 10, { ready with tu := { ready.tu with source := .ptp } }, by decide +kernel⟩, met _ (ptpOn { state := .preMaster }) (by decide +kernel)⟩
def timed (u : TimeUnit) : State := { running with tu := { u with counting := true } }
def locked : List Bool := [true, true, true, true, true]
theorem witness_timeAndClocksMove :
    pulseMeasures.Met ∧ pulseStamped.Met ∧ (blockMeasures 5).Met ∧ (blockMeasures 1).Met ∧ sourceLost.Met ∧ sourceLossWaits.Met ∧ (stepTaken ⟨1, 0⟩).Met ∧ referenceLost.Met ∧ referenceBack.Met ∧
    (counterPllLost 3).Met ∧ (pllLost 0 2).Met ∧ (pllLost 4 14).Met ∧ (wordClockSwitches 1 0).Met ∧ (secondPulses true 10).Met ∧ (secondSilent false 100000).Met :=
  ⟨met _ (timed { source := .pps }) (by decide +kernel), met _ running (by decide +kernel), met _ (timed { source := .mclk, mclkIn := 3 }) (by decide +kernel),
   met _ (timed { source := .wclk }) (by decide +kernel),
   met _ (timed { source := .wclk }) (by decide +kernel), met _ (timed { source := .wclk, servo := { step := some ⟨1, 0⟩ } }) (by decide +kernel), met _ (timed { servo := { step := some ⟨1, 0⟩ } }) (by decide +kernel), met _ running (by decide +kernel),
   met _ (timed { refLost := true }) (by decide +kernel), met _ (timed { locks := locked }) (by decide +kernel), met _ (timed { locks := locked }) (by decide +kernel),
   met _ (timed { locks := locked }) (by decide +kernel),
   met _ (timed { wclkNext := some (1, 0) }) (by decide +kernel), ⟨400000000, timed { ppsNext := some (true, 10), servo := { everAccepted := true } }, by decide +kernel⟩,
   ⟨400000000, running, by decide +kernel⟩⟩
def macOf (x : Mac) : State := { ready with net := { ready.net with macs := [(0, { x with enabled := true, link := true, cfg := [0x100, 0, 0, 0, 0x05DC0000] })] } }
def rxf : RxFrame := { start := 0, octets := 64, dest := 2 ^ 48 - 1, etherType := 0x0800 }
def nf : NetFrame := { body := .control 9 0 0 [], octets := 64, queued := 0 }
def rx1 : RxStream := { mac := 0, mac2 := 0, dual := false, l24 := false, chans := 1, ptCheck := true, pt := 96, dst := 7, port := 8, filter := 0, p := 1, l := 20,
                         ortp := 0, from_ := 0, seqs := [4] }
def streaming : State := { ready with net := { (macOf {}).net with rx := [(255, rx1)] } }
def rtp (n : Nat) : RtpPacket := { src := 1, dst := 7, port := 8, pt := 96, seq := n, ts := 0, octets := 2, samples := [1] }
theorem witness_networkFramesMove :
    (frameDefective 0 { rxf with octets := 63, crcOk := false } 0 2 [3]).Met ∧ (frameOtherVlan 0 { rxf with tag := some (0, 5, 0) } 0).Met ∧ (frameToRing 0 0 rxf 0).Met ∧
    (frameToConsumer 0 { rxf with dest := 0x0000DEADBEEF } 262144 .dropped 11).Met ∧ (pauseTaken 0 1).Met ∧ (pauseIgnored 0 1).Met ∧ (holdEnds 0 0).Met ∧
    (pauseAgain 0 200000).Met ∧ (frameStarts 0 3 nf []).Met ∧ (pauseStarts 0 9).Met ∧ (frameLeaves 0 3 0 nf).Met ∧ (ringFrameLeaves 0 2 0 1 64 0 none []).Met ∧
    (lateDropped 3).Met ∧ (linkRises 1 true).Met ∧ (linkFalls 0 true).Met ∧ (mediaFrameLeaves 0 7 0 ⟨255, 1, 6, 0, 0, 0, 0, 0, 0, 0, 0, 0, 0, 0, false, []⟩ 64 0 none).Met ∧ (frameAborted 0 3 0 nf).Met ∧ (packetTaken 0 255 (rtp 5) rx1).Met ∧ (packetRepeated 0 255 (rtp 4) rx1).Met ∧
    (packetBad 0 255 { rtp 5 with pt := 95 } rx1).Met ∧ (streamFalls 255 rx1).Met ∧ (streamStays 255 rx1).Met :=
  ⟨met _ (macOf {}) (by decide +kernel), met _ (macOf {}) (by decide +kernel), met _ (macOf {}) (by decide +kernel), met _ (macOf {}) (by decide +kernel),
   met _ (macOf { honor := true }) (by decide +kernel), met _ (macOf {}) (by decide +kernel), met _ (macOf { heldUntil := some 0 }) (by decide +kernel),
   ⟨4000000, macOf { gen := true, tp := 1, high := 100000, low := 50000, pausing := true }, by decide +kernel⟩,
   met _ (macOf { queues := [(3, [nf])] }) (by decide +kernel), met _ (macOf { pauseDue := some 9 }) (by decide +kernel),
   met _ (macOf { sending := some (3, nf, 0) }) (by decide +kernel), met _ (macOf { sending := some (2, ⟨.aux 1 [], 64, 0, none⟩, 0) }) (by decide +kernel),
   met _ ready trivial, met _ ready (by decide +kernel), met _ (macOf {}) (by decide +kernel),
   met _ (macOf { sending := some (7, ⟨.media ⟨255, 1, 6, 0, 0, 0, 0, 0, 0, 0, 0, 0, 0, 0, false, []⟩, 64, 0, none⟩, 0) }) (by decide +kernel), met _ (macOf { sending := some (3, nf, 0) }) (by decide +kernel),
   met _ streaming (by decide +kernel), met _ streaming (by decide +kernel), met _ streaming (by decide +kernel), ⟨10 ^ 9, streaming, by decide +kernel⟩,
   met _ streaming (by decide +kernel)⟩
def zn (z : Zen) : State := { ready with zen := { z with enabled := true, node := 5, portEn := 15, ports := [{ lock := true }, { lock := true }, {}, { lock := true }] } }
def zf : ZenFrame := { label := 0, launcher := 3, root := 3, mapCheck := 0, rate := 1 }
theorem witness_zenPortsAct :
    (zenFrameRefused 1 { zf with hops := 4095 } true false).Met ∧ (zenFrameRefused 1 { zf with label := 3 } true true).Met ∧ (zenFrameEnds 1 0 { zf with label := 2 } true true).Met ∧
    (zenFrameForwarded 1 0 { zf with label := 1 } true false).Met ∧ (zenFrameHeaded 1 0 zf true true).Met ∧ zenRootLaunches.Met ∧ zenBranchLaunches.Met ∧
    (zenLockLost 1 0).Met ∧ (zenBranchLost 3 none).Met ∧ (zenFramesMissing 1 0).Met ∧ zenBecomesRoot.Met ∧ zenStopsRoot.Met ∧
    (zenNeighbour 1 ⟨7, 0, 8, 20, none⟩).Met ∧ (zenMiscabled 1 ⟨7, 1, 8, 20, none⟩).Met ∧ (zenLockGained 2).Met :=
  ⟨met _ (zn {}) (by decide +kernel), met _ (zn {}) (by decide +kernel), met _ (zn { isRoot := true }) (by decide +kernel),
   met _ (zn { rings := [{ head := false }, {}] }) (by decide +kernel), met _ (zn {}) (by decide +kernel),
   ⟨4000000, zn { mode := 1, isRoot := true }, by decide +kernel⟩, ⟨4000000, zn { mode := 2, rings := [{ head := false }, {}] }, by decide +kernel⟩,
   met _ (zn {}) (by decide +kernel), met _ (zn {}) (by decide +kernel), ⟨4000000, zn { rings := [{ head := false }, {}] }, by decide +kernel⟩,
   met _ (zn { root := 5 }) (by decide +kernel), met _ (zn { root := 4, isRoot := true }) (by decide +kernel), met _ (zn {}) (by decide +kernel),
   met _ (zn {}) (by decide +kernel), met _ (zn {}) (by decide +kernel)⟩
def tw (t : Twin) : State := { running with twin := { t with enabled := true } }
def twr (v : Word) (t : Twin) : State := { tw t with regs := [(rTwnCfg, v)] }
theorem witness_leaseIsKept :
    renewalSent.Met ∧ (pulseRenews 1500).Met ∧ (pulseRenews 3000).Met ∧ (pulseAcknowledges 500).Met ∧ (pulseAcknowledges 1499).Met ∧ (pulseStale 499).Met ∧
    (pulseStale 3001).Met ∧ selfFenced.Met ∧ partnerLost.Met ∧ silenceClaims.Met ∧ silenceAlarms.Met ∧ silenceFirstClaim.Met ∧ silenceDelays.Met ∧
    (roleClaims 5).Met ∧ aliveStops.Met ∧ aliveRuns.Met ∧ aliveToggles.Met :=
  ⟨⟨100000, tw { state := .active }, by decide +kernel⟩, met _ (tw { state := .fenced }) (by decide +kernel), met _ (tw { state := .inStep }) (by decide +kernel),
   met _ (tw { state := .active }) (by decide +kernel), met _ (tw { state := .active }) (by decide +kernel), met _ (tw {}) (by decide +kernel), met _ (tw {}) (by decide +kernel),
   ⟨360000, tw { state := .active, aliveIn := true }, by decide +kernel⟩, ⟨360000, tw { state := .active }, by decide +kernel⟩,
   ⟨440000, tw { state := .inStep }, by decide +kernel⟩, ⟨440000, tw { state := .suspect }, by decide +kernel⟩, ⟨440000, tw { state := .fenced }, by decide +kernel⟩,
   ⟨440000, twr 2 { state := .fenced }, by decide +kernel⟩, ⟨5, tw { state := .fenced, claimAt := some 5 }, by decide +kernel⟩,
   ⟨20000, tw { aliveIn := true, aliveAt := some 0 }, by decide +kernel⟩, met _ ready trivial, ⟨4000, tw {}, by decide +kernel⟩⟩
def hov : Handover := { h := 4800, urgent := false }
theorem witness_handoversRun :
    (fenceSwitches 0).Met ∧ (handoverGiven 0 { hov with committed := true }).Met ∧ (handoverTaken 0 0 2).Met ∧ (handoverAnswered 8 1 false).Met ∧
    (handoverStale 0 1 false).Met ∧ (handoverStale 8 0 false).Met ∧ (hackCommits hov).Met ∧ (commitTaken 0 2).Met ∧ (cancelTaken 0 2).Met ∧ (handoverFails { hov with h := 0 }).Met ∧
    (takebackStarts 0).Met ∧ (fencedOnRequest true).Met ∧ fenceRefused.Met ∧ detachHolds.Met ∧ (mirrorRuns 0).Met ∧ (mirrorFalls 0).Met ∧
    (signatureMissed 0 ⟨0, 7, false⟩).Met :=
  ⟨met _ (tw { fenceFrom := some 0 }) (by decide +kernel), met _ (tw { fenceFrom := some 0, hand := some { hov with committed := true } }) (by decide +kernel),
   met _ (tw { fenceFrom := some 0, offered := some (0, 2, true) }) (by decide +kernel), met _ (tw { state := .inStep }) (by decide +kernel),
   met _ (tw { state := .inStep }) (by decide +kernel), met _ (tw { state := .inStep }) (by decide +kernel), met _ (tw { hand := some hov }) (by decide +kernel),
   met _ (tw { state := .inStep, offered := some (0, 2, false) }) (by decide +kernel), met _ (tw { offered := some (0, 2, false) }) (by decide +kernel),
   met _ (tw { hand := some { hov with h := 0 } }) (by decide +kernel),
   ⟨10 ^ 13, twr 0x22 { state := .active, partner := .inStep, pstate := 2, stepSince := some 0 }, by decide +kernel⟩,
   met _ (tw { state := .fenced }) (by decide +kernel), met _ (tw { state := .active }) (by decide +kernel), met _ (tw { state := .inStep }) (by decide +kernel),
   met _ { tw { state := .inStep, mirrorIn := (List.range 8).map fun (j : Nat) => ((j : Int), []), closes := [⟨0, false, []⟩] } with audio := { running.audio with next := some 0 } } (by decide +kernel),
   ⟨100000, { tw { state := .inStep } with audio := { running.audio with next := some 0 } }, by decide +kernel⟩,
   ⟨4000000, tw { state := .inStep, sigs := [⟨0, 7, false⟩] }, by decide +kernel⟩⟩
def tf : TwlFrame := { label := 0 }
def linked (t : Twin) : State := tw { t with lock := true }
/-- A frame sealed passes its check. -/
theorem sealed_intact (f : TwlFrame) (h : f.framed = true) : f.sealed.intact = true := by
  show (f.framed && decide (f.crc = f.crc)) = true
  rw [h, decide_eq_true rfl]; rfl
theorem witness_twinLinkAndJoinsRun :
    twinLaunches.Met ∧ (twinFrameHeard { tf with label := 2 }.sealed).Met ∧ (twinFrameSigned { tf with sig := some (0, 7, false) }.sealed (0, 7, false)).Met ∧
    (twinFrameBad { tf with framed := false }).Met ∧ (twinFrameBad { tf with label := 3 }).Met ∧ (sectionTaken ⟨4, []⟩).Met ∧ (sectionRepeated ⟨3, []⟩ 4).Met ∧
    (sectionGap ⟨5, []⟩ 4).Met ∧ (gapExpires 0).Met ∧ twinLockLost.Met ∧ (twinLockGained 20).Met ∧ joinStarts.Met ∧ (joinAgain 0).Met ∧
    (blockKept ⟨1, 0, 0, 0, 0⟩ true { rate := 1, logQ := 3, cfg := {} }).Met ∧ (copyCommitted ⟨0, 0, 0, 0, 0⟩ { rate := 1, logQ := 3, cfg := {} }).Met ∧
    (copyRejected ⟨0, 0, 0, 0, 0⟩ { rate := 1, logQ := 3, cfg := {} }).Met ∧ catchupEnds.Met ∧ healEnds.Met :=
  ⟨cmet _ (tw {}) (by decide +kernel),
   met _ (linked {}) ⟨by decide +kernel, sealed_intact _ rfl, by decide +kernel, by decide +kernel, rfl, by decide +kernel⟩,
   met _ (linked {}) ⟨by decide +kernel, sealed_intact _ rfl, by decide +kernel, by decide +kernel, rfl, by decide +kernel⟩,
   met _ (linked {}) ⟨by decide +kernel, .inl rfl⟩, met _ (linked {}) ⟨by decide +kernel, .inr (.inr (by decide +kernel))⟩, met _ (linked { relayNext := some 4 }) (by decide +kernel), met _ (linked { relayNext := some 4 }) (by decide +kernel),
   met _ (linked { relayNext := some 4 }) (by decide +kernel), ⟨16667, tw { gapAt := some 0 }, by decide +kernel⟩, met _ (linked {}) (by decide +kernel),
   met _ (tw {}) (by decide +kernel), met _ (twr 4 { state := .fenced, partner := .active, pstate := 2 }) (by decide +kernel),
   met _ (twr 4 { state := .fenced, partner := .active, pstate := 2, retryAt := some 0 }) (by decide +kernel), met _ (tw { phase := .copy }) (by decide +kernel),
   met _ (tw { phase := .copy }) (by decide +kernel), met _ (tw { phase := .copy }) (by decide +kernel), met _ (tw { phase := .catchup }) (by decide +kernel),
   met _ (tw { phase := .heal }) (by decide +kernel)⟩
def rs (r : Rpc) : State := { ready with rpc := r }
theorem witness_resetSourcesAct :
    coldAsserted.Met ∧ warmAsserted.Met ∧ warmJoins.Met ∧ (supplyResets ⟨0, 0, 0⟩).Met ∧ (releaseStarts 4 ⟨4, 1, 0, 0⟩).Met ∧
    (stillReset 4 ⟨4, 1, 0, 0⟩).Met ∧ (powerOnEnds ⟨1, 0, 0, 0⟩).Met ∧ watchdogResets.Met ∧ (scopeWarm ⟨1, 0, 0, 0⟩).Met ∧
    (scopeDomain ⟨2, 15, 0, 0⟩).Met ∧ (idleResets 0 ⟨some ⟨7, 2, 15, 0⟩, [], [15], 0⟩ ⟨7, 2, 15, 0⟩).Met ∧
    (idleResetsShortly 0 ⟨some ⟨5, 2, 15, 0⟩, [], [15], 0⟩ ⟨5, 2, 15, 0⟩).Met ∧ (idleReported 0 ⟨none, [], [15], 0⟩).Met ∧
    (idleExpires 0 ⟨none, [], [15], 0⟩).Met :=
  ⟨met _ ready (by decide +kernel), met _ ready (by decide +kernel), met _ (rs { sources := [⟨1, 0, 0, 0⟩] }) (by decide +kernel),
   met _ (rs { warn := [⟨0, 0, 0⟩] }) (by decide +kernel), met _ (rs { sources := [⟨4, 1, 0, 0⟩] }) (by decide +kernel),
   met _ (rs { sources := [⟨4, 1, 0, 0⟩, ⟨3, 1, 0, 0⟩] }) (by decide +kernel), met _ (rs { sources := [⟨1, 0, 0, 0⟩] }) (by decide +kernel),
   met _ ready (by decide +kernel), ⟨40000, { ready with pendReset := some ⟨1, 0, 0, 0⟩ }, by decide +kernel⟩,
   ⟨40000, { ready with pendReset := some ⟨2, 15, 0, 0⟩ }, by decide +kernel⟩,
   met _ (rs { sources := [⟨7, 2, 15, 0⟩], idle := [⟨some ⟨7, 2, 15, 0⟩, [], [15], 0⟩] }) (by decide +kernel),
   met _ (rs { idle := [⟨some ⟨5, 2, 15, 0⟩, [], [15], 0⟩] }) (by decide +kernel), met _ (rs { idle := [⟨none, [], [15], 0⟩] }) (by decide +kernel),
   ⟨10 ^ 9, rs { idle := [⟨none, [], [15], 0⟩] }, by decide +kernel⟩⟩
theorem thermRisesMet : ∀ g : Bool, (((if g then 105 else 100 : Int) - 5) * 256 ≤ 25600) := by decide
theorem thermFallsMet : ∀ g : Bool, (23039 : Int) < ((if g then 105 else 100 : Int) - 10) * 256 := by decide
theorem witness_releaseAndSuppliesAct :
    (domainOn 15).Met ∧ (domainOff 15).Met ∧ (clockReleases 28).Met ∧ (clockBack 0).Met ∧ (clockLate 0).Met ∧ (clockMissed 0).Met ∧ becomesReady.Met ∧
    (supplyWarns 1 0).Met ∧ (supplyRecovers 1 0 ⟨1, 0, 0⟩).Met ∧ (thermRises 25600).Met ∧ (thermFalls 23039).Met :=
  have low : State := { State.reset with run := .loading }
  ⟨met _ (reg0 rRpcPdreq 0x8000 { rs { busy := 65535 } with tu := { ready.tu with good := 2 ^ 29 - 1 } }) (by decide +kernel), met _ (reg0 rRpcPdreq 0 (rs { busy := 32768 })) (by decide +kernel), met _ { State.reset with run := .loading } (by decide +kernel),
   met _ { ready with tu := { ready.tu with good := 0 } } (by decide +kernel),
   met _ (reg0 rRpcHeld 1 { ready with tu := { ready.tu with good := 0 } }) (by decide +kernel),
   ⟨800000, { State.reset with run := .loading, tu := { State.reset.tu with good := 0 } }, by decide +kernel⟩, met _ State.reset (by decide +kernel),
   met _ ready (by decide +kernel), met _ (rs { warn := [⟨1, 0, 0⟩] }) (by decide +kernel),
   met _ ready (by show (tjMax - 5) * 256 ≤ 25600; unfold tjMax; exact thermRisesMet _), met _ ready (by show 23039 < (tjMax - 10) * 256; unfold tjMax; exact thermFallsMet _)⟩
/-- States that meet the conditions of each clause of ReleaseRowsComplete. -/
theorem witness_releaseRowsComplete :
    (let u := (reg0 rRpcHeld 1 { ready with tu := { ready.tu with good := 0 } }).atTime 0;
      u.clockGood 0 = false ∧ bitOf (u.reg rRpcHeld) 0 = true) ∧
    (let u := ({ ready with tu := { ready.tu with good := 0 } } : State).atTime 0;
      u.clockGood 28 = false ∧ u.run ≠ .loading ∧ u.run ≠ .boot ∧ u.rpc.sources = [] ∧ u.rpc.waits = []) ∧
    (let u := ({ State.reset with run := .loading, tu := { State.reset.tu with good := 0 } } : State).atTime 800000;
      u.clockGood 4 = false ∧ bitOf (u.reg rRpcHeld) 4 = false ∧ u.run = .loading ∧ u.releasing = true ∧ u.rpc.stepAt + ticksOfMs 2 ≤ u.now) ∧
    (let u := State.reset.atTime 0; u.run = .boot ∧ u.releasing = true) ∧
    (let u := (reg0 rRpcPdreq 0 (rs { busy := 32768 })).atTime 0;
      u.rpc.busy.testBit 15 = true ∧ (u.rpc.idle.any fun x => x.domains.contains 15) = false ∧ bitOf (u.reg rRpcPdreq) 15 = false) ∧
    (ready.atTime 0).rpc.warned 1 = false ∧ ((rs { warn := [⟨1, 0, 0⟩] }).atTime 0).rpc.warned 1 = true := by decide +kernel
def dr (d : Dram) : State := { ready with dramOn := true, dram := d }
def opc : OpChange := { packet := { ch := 0 }, target := 3, after := 8 }
def cp : Copied := { rate := 1, logQ := 3, cfg := {} }
def sv : Save := { packet := { ch := 0, params := [0, 0, 0, 0] }, boundary := 0, body := some cp, size := 0, crc := 0 }
theorem witness_busAndDramAct :
    (polderOn 31).Met ∧ (scrubClean 0 none).Met ∧ (scrubCorrects 0 none).Met ∧ (scrubHalts 0 0).Met ∧ (scrubHalts 0 14).Met ∧
    (scrubFinds 0).Met ∧ (scrubReadsOnes 0).Met ∧ (busHangs 15 63 0).Met ∧ (busLate 15 63).Met ∧ (dramRefreshes 3 1).Met ∧
    (dramPolled [1, 0, 0, 0]).Met ∧ (dramFails []).Met ∧ (dramRests 3).Met ∧ (dramStaysUp 3).Met ∧ (dramWakes 3 0).Met ∧
    (oppointHolds opc).Met ∧ (oppointDone { opc with switching := true }).Met ∧ (saveStored sv cp).Met :=
  ⟨met _ ready trivial, met _ ready trivial, met _ ready trivial, met _ ready (by decide), met _ ready (by decide), met _ ready (by decide), met _ ready (by decide),
   met _ ready (by decide +kernel), met _ { ready with mem := { ready.mem with retired := [(15, 63)] } } (by decide +kernel),
   met _ (dr {}) (by decide +kernel), met _ (dr {}) (by decide +kernel), met _ (dr {}) (by decide +kernel),
   met _ (reg0 rDrmCtl 1 (dr {})) (by decide +kernel), met _ (reg0 rDrmCtl 1 (dr {})) (by decide +kernel),
   ⟨6, dr { chans := [.active, .active, .active, .entered 0] }, by decide +kernel⟩,
   met _ { dr { change := some opc } with run := .running, audio := { ready.audio with next := some 8 }, tu := { ready.tu with origin := -(10 ^ 9) } } (by decide +kernel),
   met _ (dr { change := some { opc with switching := true } }) (by decide +kernel),
   ⟨400000, { ready with mem := { ready.mem with save := some sv } }, by decide +kernel⟩⟩
def brd : List Word := [0, 0, 0x1801, 0] ++ List.replicate 23 0 ++ [0x4002] ++ List.replicate 64 0
def booted : State := { ready with board := brd }
theorem witness_dramStart : dramStartDoes.Met := met_of _ { ch := 0, params := [0] } booted 0 (by decide +kernel)

/-! ### The commands -/

def graph1 : Graph :=
  { ops := [(1, ⟨0x10, 1, 1, [0, 0, 0]⟩), (2, ⟨0x11, 0, 0, [1, 0x10000, 16, 8]⟩), (3, ⟨0x12, 1, 1, []⟩), (4, ⟨0x28, 1, 1, [0x10000, 0]⟩),
            (5, ⟨0x20, 1, 1, [0, 128]⟩), (6, ⟨0x04, 1, 0, [0x100]⟩)] }
def bound : State := { ready with dramOn := true, cfg := { ready.cfg with graph := some { graph := graph1 } } }
def withObj : State := { ready with cfg := { ready.cfg with serpent := { ready.cfg.serpent with objs := [(0, { handle := 7, created := 0, base := ⟨0,0,0⟩, set := { speed := 343 * 65536 } })] } } }
def pk (ws : List Word) (h : Word := 0) : Packet := { ch := 0, params := ws, handle := h }

theorem witness_ping : pingDoes.Met := met_of _ (pk [1]) (ready) 0 (by decide +kernel)
theorem witness_getInfo : getInfoDoes.Met := met_of _ (pk []) (ready) 0 (by decide +kernel)
theorem witness_getStatus : getStatusDoes.Met := met_of _ (pk []) (ready) 0 (by decide +kernel)
theorem witness_setRate : setRateDoes.Met := met_of _ (pk [0x21]) (ready) 0 (by decide +kernel)
theorem witness_fwUpdateBegin : fwUpdateBeginDoes.Met := met_of _ (pk [132]) (ready) 0 (by decide +kernel)
theorem witness_fwUpdateData : fwUpdateDataDoes.Met := met_of _ (pk [0, 5]) ({ ready with fw := { session := some { ch := 0, size := 132 } } }) 0 (by decide +kernel)
theorem witness_fwUpdateCommit : fwUpdateCommitDoes.Met := met_of _ (pk [1]) ({ ready with fw := { session := some { ch := 0, size := 132 } } }) 0 (by decide +kernel)
theorem witness_resetScope : resetScopeDoes.Met := met_of _ (pk [0]) (ready) 0 (by decide +kernel)
theorem witness_boardTableLoad : boardTableLoadDoes.Met := met_of _ (pk [4, 0, 1, w32 (crc32Words [0x103, 0x100]), 0x103, 0x100]) (ready) 0 (by decide +kernel)
theorem witness_channelConfig : channelConfigDoes.Met := met_of _ (pk [1, 0, 0, 0]) (ready) 0 (by decide +kernel)
theorem witness_graphBegin : graphBeginDoes.Met := met_of _ (pk []) (ready) 0 (by decide +kernel)
theorem witness_graphAddOp : graphAddOpDoes.Met := met_of _ (pk [0x00010012, 0x0101, 0] 9) ({ ready with build := some { handle := 9, ch := 0 } }) 0 (by decide +kernel)
theorem witness_graphConnect : graphConnectDoes.Met := met_of _ (pk [0x00030000, 0x00030000, 8] 9) ({ ready with build := some { handle := 9, ch := 0, graph := graph1 } }) 0 (by decide +kernel)
theorem witness_graphCommit : graphCommitDoes.Met := met_of _ (pk [] 9) ({ ready with build := some { handle := 9, ch := 0 } }) 0 (by decide +kernel)
theorem witness_graphQueryCost : graphQueryCostDoes.Met := met_of _ (pk [] 9) ({ ready with build := some { handle := 9, ch := 0 } }) 0 (by decide +kernel)
theorem witness_pathLatency : pathLatencyDoes.Met := met_of _ (pk [0, 0]) (ready) 0 (by decide +kernel)
theorem witness_objectQuery : objectQueryDoes.Met := met_of _ (pk [] 7) (withObj) 0 (by decide +kernel)
theorem witness_timeQuery : timeQueryDoes.Met := met_of _ (pk []) (ready) 0 (by decide +kernel)
theorem witness_twinStatus : twinStatusDoes.Met := met_of _ (pk []) (ready) 0 (by decide +kernel)
theorem witness_keepRead : keepReadDoes.Met := met_of _ (pk [0, 1]) (ready) 0 (by decide +kernel)
theorem witness_keepWrite : keepWriteDoes.Met := met_of _ (pk [0, 1, 5]) (ready) 0 (by decide +kernel)
theorem witness_eventRead : eventReadDoes.Met := met_of _ (pk [1, 1]) (ready) 0 (by decide +kernel)
theorem witness_zenTopology : zenTopologyDoes.Met := met_of _ (pk [0]) (ready) 0 (by decide +kernel)
theorem witness_convQuery : convQueryDoes.Met := met_of _ (pk [5]) (bound) 0 (by decide +kernel)
theorem witness_counterRead : counterReadDoes.Met := met_of _ (pk [1, 0, 1]) (ready) 0 (by decide +kernel)
theorem witness_meterSubscribe : meterSubscribeDoes.Met := met_of _ (pk [0, 0x10000, 1]) (bound) 0 (by decide +kernel)
theorem witness_safeSetBegin : safeSetBeginDoes.Met := met_of _ (pk []) (ready) 0 (by decide +kernel)
theorem witness_safeSetCommit : safeSetCommitDoes.Met := met_of _ (pk []) ({ ready with chans := [(0, { set := some {} })] }) 0 (by decide +kernel)
theorem witness_objectParams : (entersChange .objectParams objectParamsSpec 0x206 false).Met := met_of _ (pk [0, 0, 1, 64, 0] 7) (withObj) 0 (by decide +kernel)
theorem witness_zoneMask : (entersChange .zoneMask zoneMaskSpec 0x207 false).Met := met_of _ (pk [0] 7) (withObj) 0 (by decide +kernel)
theorem witness_soundSpeed : (entersChange .soundSpeed soundSpeedSpec 0x208 false).Met := met_of _ (pk [343 * 65536]) (ready) 0 (by decide +kernel)
theorem witness_routeSet : (entersChange .routeSet routeSetSpec 0x301 false).Met := met_of _ (pk [0, 0, 0, 0]) (bound) 0 (by decide +kernel)
theorem witness_routeClear : (entersChange .routeClear routeClearSpec 0x302 false).Met := met_of _ (pk [0, 1, 0]) (bound) 0 (by decide +kernel)
theorem witness_xpointSet : (entersChange .xpointSet xpointSetSpec 0x303 false).Met := met_of _ (pk [0, 0, 0, 0]) ({ bound with cfg := { bound.cfg with sluice := { bound.cfg.sluice with buses := [(0, {shift := 0})] } } }) 0 (by decide +kernel)
theorem witness_xpointBlock : (entersChange .xpointBlock xpointBlockSpec 0x304 false).Met := met_of _ (pk [0, 0, 1, 0, 5]) ({ bound with cfg := { bound.cfg with sluice := { bound.cfg.sluice with buses := [(0, {shift := 0})] } } }) 0 (by decide +kernel)
theorem witness_gainSet : (entersChange .gainSet gainSetSpec 0x306 false).Met := met_of _ (pk [3, 0x10000, 0, 0]) (bound) 0 (by decide +kernel)
theorem witness_fadeParams : (entersChange .fadeParams fadeParamsSpec 0x307 false).Met := met_of _ (pk [0, 0]) (ready) 0 (by decide +kernel)
theorem witness_dikeConfig : (entersChange .dikeConfig dikeConfigSpec 0x501 false).Met := met_of _ (pk [0x10000, 0, 0x04000000, 10, 0, 0]) (bound) 0 (by decide +kernel)
theorem witness_outputMute : (entersChange .outputMute outputMuteSpec 0x502 false).Met := met_of _ (pk [0x10000, 0, 0]) (bound) 0 (by decide +kernel)
theorem witness_ditherConfig : (entersChange .ditherConfig ditherConfigSpec 0x503 false).Met := met_of _ (pk [0x10000, 0, 0]) (bound) 0 (by decide +kernel)
theorem witness_outputDelay : (entersChange .outputDelay outputDelaySpec 0x504 false).Met := met_of _ (pk [0x10000, 0, 0]) ({ bound with cfg := { bound.cfg with dike := [(0, { dly := true, la := 0, width := 24, sets := [] })] } }) 0 (by decide +kernel)
theorem witness_startProcessing : (entersChange .startProcessing startProcessingSpec 0x009 true).Met := met_of _ (pk []) (bound) 0 (by decide +kernel)
theorem witness_stopProcessing : (entersChange .stopProcessing stopProcessingSpec 0x00A true).Met := met_of _ (pk []) ({bound with run := .running}) 0 (by decide +kernel)
theorem witness_opCancel : (entersChange .opCancel opCancelSpec 0x107 true).Met := met_of _ (pk [0x00030000, 1]) (bound) 0 (by decide +kernel)
theorem witness_layoutLoad : (entersChange .layoutLoad layoutLoadSpec 0x201 true).Met := met_of _ (pk [1, 0x10000, 0, 0, 0, 0]) (ready) 0 (by decide +kernel)
theorem witness_meshLoad : (entersChange .meshLoad meshLoadSpec 0x202 true).Met := met_of _ (pk [1, 0, 0, 0, 0x10000, 0x200400]) ({ ready with cfg := { ready.cfg with serpent := { ready.cfg.serpent with layout := [⟨⟨64000,0,0⟩,1⟩,⟨⟨0,64000,0⟩,1⟩,⟨⟨0,0,64000⟩,1⟩] } } }) 0 (by decide +kernel)
theorem witness_busCreate : (entersChange .busCreate busCreateSpec 0x305 true).Met := met_of _ (pk [0, 0]) (bound) 0 (by decide +kernel)
theorem witness_tapConfig : (entersChange .tapConfig tapConfigSpec 0x604 true).Met := met_of _ (pk [0x100, 0, 0, 0, 2]) (bound) 0 (by decide +kernel)
theorem witness_streamRxAdd : (entersChange .streamRxAdd streamRxAddSpec 0x802 true).Met := met_of _ (pk [0, 0, 0, 0, 0x1806, 0]) ({ ready with net := { ready.net with macs := [(0, { enabled := true, cfg := [0x100, 0, 0, 0, 0x05DC0000] })] } }) 0 (by decide +kernel)
theorem witness_streamTxAdd : streamTxAddDoes.Met := met_of _ (pk [0, 0, 0, 0, 1, 6, 0, 0, 0]) ({ ready with net := { ready.net with macs := [(0, { enabled := true, cfg := [0x100, 0, 0, 0, 0x05DC0000] })] } }) 0 (by decide +kernel)
theorem witness_streamRemove : (entersChange .streamRemove streamRemoveSpec 0x804 true).Met := met_of _ (pk [0x100]) ({ ready with net := { ready.net with tx := [(0, { mac := 0, mac2 := 0, dual := false, l24 := false, chans := 1, classB := false, dst := 0, port := 0, srcPort := 0, dscp := 0, ttl := 0, pt := 0, ssrc := 0, p := 6, ortp := 0, dstMac := 0, from_ := 0 })] } }) 0 (by decide +kernel)
theorem witness_zenDrop : (entersChange .zenDrop zenDropSpec 0x903 true).Met := met_of _ (pk [0x10000, 0x3FFF]) (ready) 0 (by decide +kernel)
theorem witness_zenInsert : (entersChange .zenInsert zenInsertSpec 0x904 true).Met := met_of _ (pk [0x10000, 0x3FFF]) (ready) 0 (by decide +kernel)
theorem witness_objectCreate : objectCreateDoes.Met := met_of _ (pk [0, 0, 0, 0]) (ready) 0 (by decide +kernel)
theorem witness_zenMap : zenMapDoes.Met := met_of _ (pk [0]) (ready) 0 (by decide +kernel)
theorem witness_sapStop : sapStopDoes.Met := met_of _ (pk [1]) (ready) 0 (by decide +kernel)
theorem witness_trajAppend : trajAppendDoes.Met := met_of _ (pk ([1, 0, 0, 1] ++ List.replicate 13 0) 7) (withObj) 0 (by decide +kernel)
theorem witness_trajFlush : trajFlushDoes.Met := met_of _ (pk [] 7) (withObj) 0 (by decide +kernel)
theorem witness_filterLoadBegin : filterLoadBeginDoes.Met := met_of _ (pk [5, 1]) (bound) 0 (by decide +kernel)
theorem witness_filterLoadData : filterLoadDataDoes.Met := met_of _ (pk [0x10000, 1] 3) ({ bound with audio := { bound.audio with slotsConv := [(0, { handle := 3, op := 5, count := 1 })] } }) 0 (by decide +kernel)
theorem witness_filterLoadEnd : filterLoadEndDoes.Met := met_of _ (pk [0, 1] 3) ({ bound with audio := { bound.audio with slotsConv := [(0, { handle := 3, op := 5, count := 1 })] } }) 0 (by decide +kernel)
theorem witness_filterSwap : filterSwapDoes.Met := met_of _ (pk [5, 0x10000]) (bound) 2048 (by decide +kernel)
theorem witness_sapConfig : sapConfigDoes.Met := met_of _ (pk [0, 0, 0]) (ready) 0 (by decide +kernel)
theorem witness_sapArm : sapArmDoes.Met := met_of _ (pk [1]) ({ ready with sap := { ready.sap with groups := [(0, { cfg0 := 8, cfg1 := 1 })] } }) 0 (by decide +kernel)
theorem witness_timeConfig : timeConfigDoes.Met := met_of _ (pk [0, 0, 0, 0, 0, 0x100]) (ready) 0 (by decide +kernel)
theorem witness_ptpConfig : ptpConfigDoes.Met := met_of _ (pk [0x20, 0, 0, 0x007F7F7F, 0]) ({ ready with net := { ready.net with macs := [(0, { cfg := [0] })] } }) 0 (by decide +kernel)
theorem witness_mediaClock : mediaClockDoes.Met := met_of _ (pk [0, 1]) (ready) 0 (by decide +kernel)
theorem witness_macConfig : macConfigDoes.Met := met_of _ (pk [0x100, 0, 0, 0, 0x05DC0000, 0, 0, 4, 0, 0, 0, 0, 0, 0]) (ready) 0 (by decide +kernel)
theorem witness_shaperSet : shaperSetDoes.Met := met_of _ (pk [0, 1000, 0, 0]) (ready) 0 (by decide +kernel)
theorem witness_pauseConfig : pauseConfigDoes.Met := met_of _ (pk [0, 0, 2, 1]) (ready) 0 (by decide +kernel)
theorem witness_zenConfig : zenConfigDoes.Met := met_of _ (pk [1, 22]) (ready) 0 (by decide +kernel)
theorem witness_twinConfig : twinConfigDoes.Met := met_of _ (pk [2, 1, 0, 0, 0, 0, 0, 0]) (ready) 0 (by decide +kernel)
theorem witness_twinHandover : twinHandoverDoes.Met := met_of _ (pk [0]) ({ ready with twin := { ready.twin with enabled := true, state := .active, partner := .inStep, pstate := 2 } }) 0 (by decide +kernel)
theorem witness_twinFence : twinFenceDoes.Met := met_of _ (pk [2]) (ready) 0 (by decide +kernel)
theorem witness_dramOppoint : dramOppointDoes.Met := met_of _ (pk [0]) (bound) 0 (by decide +kernel)
theorem witness_stateSave : stateSaveDoes.Met := met_of _ (pk [0, 0, 0, 0]) (bound) 0 (by decide +kernel)
theorem witness_stateRestore : stateRestoreDoes.Met := met_of _ (pk [0x100, 0, 0]) ({ ready with fw := { patch := some [0, 0, 0] }, mem := { ready.mem with host := [(0, { header := [0x4B534E50, 1, 0x142], body := { rate := 1, logQ := 3, cfg := {} } })] } }) 0 (by decide +kernel)
/-- TWIN_JOIN but for its check of the holder's size. -/
def joinOpen : CmdSpec := { twinJoinSpec with own := fun _ s _ => firstDeny [denyIf (decide (s.twin.phase ≠ .none)) busyDeny, denyIf (!s.mayJoin) stateDeny] }
theorem joinOpen_own (p : Packet) (s : State) (i : Int) (h : Config.holderTooBig s.free = false) : twinJoinSpec.own p s i = joinOpen.own p s i := by
  simp only [twinJoinSpec, joinOpen, denyIf, h]
  cases decide (s.twin.phase ≠ .none) <;> cases (!s.mayJoin) <;> rfl
theorem joinOpen_verdict (p : Packet) (s : State) (h : Config.holderTooBig s.free = false) : twinJoinSpec.verdict p s = joinOpen.verdict p s := by
  simp only [CmdSpec.verdict, CmdSpec.late, joinOpen_own p s _ h]
  rfl
def fencedJoins : State := { ready with twin := { ready.twin with enabled := true, lock := true, state := .fenced, partner := .active, pstate := 2 } }
theorem witness_twinJoin (h : Config.holderTooBig 0 = false) : twinJoinDoes.Met :=
  ⟨0, { ch := 0 }, fencedJoins, 0, ⟨by decide +kernel, (joinOpen_verdict _ _ h).trans (by decide +kernel)⟩, rfl, rfl⟩

/-! ### The other statements -/

/-- A header of OPCODE 0xFFF, channel ch, LENGTH n, tag 5, with its CHECK plus an error. -/
def wire (ch n : Nat) (err : Nat) : List Word :=
  let w0 := w32 (0xFFF * 2 ^ 20 + n)
  let w1 := w32 (5 * 2 ^ 16 + ch * 2 ^ 8)
  [w0, w1 + w32 ((headerCheck w0 w1 0 0 + err) % 256), 0, 0]
/-- Steps 1 to 3 of the packet checks, as HeaderChecks names them. -/
def steps (ch : Nat) (ws : List Word) (octets : Nat) : List Bool :=
  let w := fun i => ws.getD i 0
  [decide (fld (w 1) 7 0 = headerCheck (w 0) (w 1) (w 2) (w 3)), decide (fld (w 1) 15 8 = ch), decide (4 ≤ fld (w 0) 15 0 ∧ fld (w 0) 15 0 ≤ 1024),
   decide (4 * fld (w 0) 15 0 = octets)]
theorem witness_headerChecks :
    steps 0 (wire 0 4 1) 16 = [false, true, true, true] ∧ steps 0 (wire 1 4 0) 16 = [true, false, true, true] ∧
    steps 0 (wire 0 3 0) 12 = [true, true, false, true] ∧ steps 0 (wire 0 1025 0) 4100 = [true, true, false, true] ∧
    steps 0 (wire 0 4 0) 20 = [true, true, true, false] ∧ steps 0 (wire 0 4 0) 16 = [true, true, true, true] ∧
    steps 0 (wire 0 1024 0) 4096 = [true, true, true, true] := by decide +kernel
def storedOf (p : Packet) : HistEntry := ⟨p.tag, p.check 0x001, mkReply 0x001 p .ok 0 0 []⟩
def p5 : Packet := { ch := 0, tag := 5 }
/-- A channel whose T_hi is 5, with a packet of that tag in its history. -/
def chan5 : Channel := { thi := some 5, hist := [storedOf p5] }
def onChan5 : State := { ready with chans := [(0, chan5)] }
theorem witness_tagPlacement :
    chan5.hist ≠ [] ∧ (((6 : BitVec 16).toNat + 2 ^ 16 - (5 : BitVec 16).toNat) % 2 ^ 16 = 1) ∧
    (((32772 : BitVec 16).toNat + 2 ^ 16 - (5 : BitVec 16).toNat) % 2 ^ 16 = 32767) ∧
    (((32773 : BitVec 16).toNat + 2 ^ 16 - (5 : BitVec 16).toNat) % 2 ^ 16 = 32768) ∧ chan5.entry 32773 = none ∧
    chan5.entry 5 = some (storedOf p5) ∧ (storedOf p5).check = p5.check 0x001 ∧ (storedOf p5).check ≠ p5.check 0x002 ∧
    (chan5.stale 0x001 p5 0).isSome ∧ ({} : Channel).hist = [] ∧ (chan5.hist.map (·.tag)).Nodup := by decide +kernel
theorem witness_noReplySuppresses :
    (onChan5.chan 0).stale 0x001 { p5 with noreply := true } onChan5.index ≠ none ∧
    suppressed { p5 with noreply := true } .ok = true ∧ suppressed { p5 with noreply := true } .late = false := by decide +kernel
theorem witness_catalogueIsTheTable :
    (∀ c ∈ catalogue, c.op ≠ 0xFFF) ∧ (∀ c ∈ catalogue, c.op ≠ 0) ∧ (ready.chan 0).stale 0xFFF p5 ready.index = none := by decide +kernel
theorem witness_stepRunsTheFront :
    ({ ready with pending := [.timSnap 0] } : State).pending = .timSnap 0 :: [] ∧ State.reset.pending = [] := by decide +kernel
theorem witness_stepKeepsInvariant : (MessagesSent State.reset ∧ DisabledReset State.reset) ∧ ∃ t, step State.reset = .next t :=
  ⟨⟨fun _ _ h => absurd h (by decide), by unfold DisabledReset; decide +kernel⟩, _, rfl⟩
/-- A masked vector with its pending bit set, and a channel that waits for its command to end. -/
def masked : State :=
  { State.reset with msixEnable := true, msixMask := true, regs := [(rIrqEnmsi, 1), (rIrqArmed, 1), (rIrqPba0, 0xFFFFFFFF)],
                     chans := [(0, { closing := true, hold := some .reply })] }
theorem witness_stepKeepsInvariant_set : (∀ i < 29, bitOf (masked.reg rIrqPba0) i = true ∧ masked.vectorMasked i = true) ∧
    (∀ n < 8, (masked.chan n).closing = true → (masked.chan n).hold ≠ none) ∧ (masked.chan 0).closing = true := by decide +kernel
theorem witness_notReadyTakesNothing :
    (State.reset.atTime 0).takes = false ∧ State.reset.takes = false ∧ pingSpec.op ∈ catalogue.map (·.op) := by decide +kernel
/-- Decides whether a verdict takes the packet. -/
def taken : Verdict → Bool
  | .take _ => true
  | _ => false
def fencedTwin : State := { bound with twin := { bound.twin with enabled := true, state := .fenced } }
theorem witness_twinGate :
    taken (routeSetSpec.verdict { ch := 0, params := [0, 0, 0, 0] } bound) = true ∧ bound.twin.state = .detached ∧ routeSetSpec.pair = true ∧
    routeSetSpec.op ∈ catalogue.map (·.op) ∧ fencedTwin.twin.state = .fenced ∧ routeSetSpec.early { ch := 0, params := [0, 0, 0, 0] } fencedTwin = none ∧
    fencedTwin.relays = false ∧ ({ fencedTwin with regs := [(rTwnCfg, 0x80)] } : State).relays = true := by decide +kernel
theorem witness_refusalChangesNothing :
    (badParam 0x0012).status.good = false ∧ (badParam 0x0F02).status.good = false ∧ meshLoadSpec.continued = true := by decide
def setOpen : State := { ready with chans := [(0, { set := some {} })] }
theorem witness_safeSetOpens :
    taken (safeSetBeginSpec.verdict { ch := 0 } ready) = true ∧ safeSetBeginSpec.early { ch := 0 } setOpen = none ∧ setOpen.executesPair = true ∧
    (setOpen.chan 0).set ≠ none ∧ setOpen.takes = true := by decide +kernel
def pg : Packet := { ch := 0, tag := 5, group := true, params := [0, 0, 0, 0] }
def setOn5 : State := { bound with chans := [(0, { chan5 with set := some {} })] }
theorem witness_groupNeedsASet :
    routeSetSpec.flags pg = none ∧ routeSetSpec.chainDeny pg bound = none ∧ runDeny routeSetSpec.op bound = none ∧ routeSetSpec.state pg bound = none ∧
    (bound.chan 0).set = none ∧ (setOn5.chan 0).set = some {} ∧
    ((setOn5.chan 0).stale 0x301 pg setOn5.index).any (fun r => !r.status.good) = true ∧
    (setOn5.chan 0).stale 0xFFF { pg with tag := 6 } setOn5.index = none := by decide +kernel
def chainOpen : State := { ready with chans := [(0, { chain := some { op := 0x202, handle := 0, apply := 0 } })] }
theorem witness_setsAndChainsCollect :
    (setOpen.chan 0).set = some {} ∧ ((chainOpen.chan 0).chain.any fun k => decide (k.op = 0x202)) = true ∧ meshLoadSpec.continued = true := by decide +kernel
theorem witness_pingReturnsItsWords :
    (ready.atTime 0).takes = true ∧ ([] : List Word).length ≤ 1020 ∧ (List.replicate 1020 (0 : Word)).length ≤ 1020 ∧
    pingSpec.chainDeny { ch := 0 } (judgedIn pingSpec 0 { ch := 0 } ready) = none := by decide +kernel
/-- Whether KEEP_READ's fields are outside their ranges. -/
def keepBad (a k : Nat) : Prop := a % 4 ≠ 0 ∨ k < 1 ∨ 1020 < k ∨ 0x10000 < a + 4 * k
theorem witness_keepReadAnswers :
    keepReadSpec.early { ch := 0 } ready = none ∧ ({ ch := 0 } : Packet).params.length ≠ 2 ∧ keepReadSpec.early { ch := 0, params := [0, 1] } ready = none ∧
    ¬ keepBad 0 1 ∧ ¬ keepBad 0 1020 ∧ ¬ keepBad 0xFFFC 1 ∧ keepBad 0 0 ∧ keepBad 0 1021 ∧ keepBad 2 1 ∧ keepBad 0xFFFC 2 ∧
    fld (0xFFFC : Word) 15 0 = 0xFFFC ∧ fld (1020 : Word) 9 0 = 1020 ∧ (0x10000 : Word).toNat ≠ fld (0x10000 : Word) 15 0 := by
  simp only [keepBad]; decide +kernel
theorem witness_keepHoldsWhatWasWritten :
    keepWf State.reset.keep = true ∧ keepWf [(0, 5), (65535, 1)] = true ∧ 0 < ([5] : List Word).length ∧ 3 < 4 ∧ 4 + 4 * ([5] : List Word).length ≤ 8 := by decide
theorem witness_ringIndicesAreChecked : (tailTaken 0 16).Met ∧ (tailRefused 0 17).Met ∧ (consumed 7 0).Met ∧ (consumedRefused 7 1).Met :=
  have ring : State := reg0 rCmdCfg 0x40 ready
  ⟨met _ (reg0 rCmdCfg 0x40 ready) (by decide +kernel), met _ (reg0 rCmdCfg 0x40 ready) (by decide +kernel), met _ ready (by decide +kernel),
   met _ ready (by decide +kernel)⟩
def replied : State := { ready with chans := [(8, { enabled := true, out := [mkReply 0x001 p5 .ok 0 0 []] })] }
theorem witness_spiReadsRepliesWhole : (replied.chan 8).out = mkReply 0x001 p5 .ok 0 0 [] :: [] ∧
    (spiReadsOldest true (mkReply 0x001 p5 .ok 0 0 []) []).Met ∧ (spiReadsOldest false (mkReply 0x001 p5 .ok 0 0 []) []).Met :=
  ⟨by decide +kernel, met _ replied (by decide +kernel), met _ replied (by decide +kernel)⟩
theorem witness_postedWriteGivenUp :
    AMap.find ({ ready with now := 4000, posted := [(2, ⟨0x804, 1, 0⟩)] } : State).posted 2 = some ⟨0x804, 1, 0⟩ ∧ 0 + ticksOfUs 10 ≤ 4000 ∧
    ¬ 0 + ticksOfUs 10 ≤ 3999 := by decide +kernel
theorem witness_offsetsDecode : 0x1C % 4 = 0 ∧ regRowOf 0x7FFC = none ∧ mw0Block 0xFFFC = 31 ∧ mw0Block 0x8C00 = 35 ∧ mw0Block 0x9000 = 4 := by decide +kernel
/-- A register with a field of this access type. -/
def hasAcc (a : Nat) (x : Acc) : Bool := (regRowOf a).any fun r => r.fields.any fun f => decide (f.acc = x)
theorem witness_accessTypes :
    hasAcc rCmdCfg .rw = true ∧ hasAcc rRpcBkp31 .rws = true ∧ hasAcc rRpcLastcause .ro = true ∧ hasAcc rRpcEvt .w1c = true ∧
    (regRows.any fun r => r.fields.any fun f => decide (f.acc = .rc)) = true ∧ (regRows.any fun r => r.fields.any fun f => decide (f.acc = .wo)) = true ∧
    (regRows.any fun r => !(r.fields.any fun f => decide (f.lo ≤ 31) && decide (31 ≤ f.hi))) = true := by decide +kernel
theorem witness_bitAliases :
    0xFFC < 4096 ∧ 0xFFC % 4 = 0 ∧ 31 < 32 ∧ reaches (aliasOf 0).1 ready ∧ (aliasOf 0).1 % 1024 = 0 ∧ (regRowOf rRpcBkp31).isSome = true := by decide +kernel
theorem witness_selectedIndex :
    (1 : Word) ≠ 0 ∧ (((1 : Word).toNat : Int) - 1) % 2 ^ 32 < 2 ^ 31 ∧ (((0x7FFFFFFF : Word).toNat : Int) - 0) % 2 ^ 32 < 2 ^ 31 ∧
    2 ^ 31 ≤ (((0x80000000 : Word).toNat : Int) - 0) % 2 ^ 32 ∧ routeSetSpec.timing ≠ .untimed ∧
    selectFrom 0 (bound.earliestFor routeSetSpec.pair + routeSetSpec.lead) ≠ none ∧
    selectFrom 0xFFFFFFFF (bound.earliestFor routeSetSpec.pair + routeSetSpec.lead) = none ∧
    firstDeny [routeSetSpec.handle { ch := 0, apply := 0xFFFFFFFF, params := [0, 0, 0, 0] } bound,
      routeSetSpec.layout { ch := 0, apply := 0xFFFFFFFF, params := [0, 0, 0, 0] } bound] = none := by decide +kernel
def chg (i : Int) (q : Bool) (o : Nat) : Change := { index := i, quantum := q, order := o, timed := true, op := 0x301, packets := [] }
theorem witness_changesInOrder :
    ({ ready with changes := [chg 8 false 0, chg 8 true 1, chg 16 true 2] } : State).firstChange (fun _ => true) = some (chg 8 true 1) ∧
    ({ ready with changes := [chg 8 false 3, chg 8 false 2] } : State).firstChange (fun _ => true) = some (chg 8 false 2) := by decide +kernel
theorem witness_routeTakesOver :
    (∀ r, ((({} : Sluice).sink 0).before 0).current = some r → r.src ≠ 5 ∨ r.dead ≠ none) ∧ ((({} : Sluice).sink 0).startFor 0 = 0) ∧
    0 < (({} : Sluice).fade 0x7FF).1 := by
  refine ⟨?_, ?_, ?_⟩ <;> decide +kernel
theorem witness_numbers :
    (0 : Int) < 2 ∧ 2 * |rhe 5 2 * 2 - 5| = 2 ∧ rhe 5 2 % 2 = 0 ∧ 0 < 1 ∧ dramPlace (2 ^ 1) 0 = dramPlace (2 ^ 1) 0 ∧ 0 % 2 = 0 % 2 := by decide

/-! ### Ill-formed commands, one for each check -/

def okPacket : Packet := { ch := 14, params := List.replicate 1020 0 }
theorem test_wf_packet : (Instr.ping 0 okPacket).wf = true ∧ (Instr.ping 0 { okPacket with ch := 15 }).wf = false ∧
    (Instr.ping 0 { ch := 0, params := List.replicate 1021 0 }).wf = false := by decide +kernel
theorem test_wf_packetWords : (Instr.pcieCommandFetch 0 7 (List.replicate 1024 0)).wf = true ∧ (Instr.pcieCommandFetch 0 7 (List.replicate 1025 0)).wf = false ∧
    (Instr.pcieCommandFetch 0 8 []).wf = false := by decide +kernel
theorem test_wf_wordsHold : (Instr.spiPktWrite 0 16 [0, 0, 0, 0]).wf = true ∧ (Instr.spiPktWrite 0 17 [0, 0, 0, 0]).wf = false := by decide
theorem test_wf_windows : (Instr.registerWrite 0 0 0xFFFC 15 0).wf = true ∧ (Instr.registerWrite 0 0 0x10000 15 0).wf = false ∧
    (Instr.registerWrite 0 1 0x1FFFC 15 0).wf = true ∧ (Instr.registerWrite 0 2 (2 ^ 24) 15 0).wf = false ∧ (Instr.registerWrite 0 3 0 15 0).wf = false ∧
    (Instr.registerWrite 0 0 0 16 0).wf = false ∧ (Instr.spiRegRead 0 0x10000).wf = false ∧ (Instr.bitAliasWrite 0 0x20000 0).wf = false := by decide
theorem test_wf_fragment : (Instr.inbandFragmentReceived 0 1 frag).wf = true ∧ (Instr.inbandFragmentReceived 0 2 frag).wf = false ∧
    (Instr.inbandFragmentReceived 0 1 { frag with dest := 4096 }).wf = false ∧ (Instr.inbandFragmentReceived 0 1 { frag with frag := 128 }).wf = false ∧
    (Instr.inbandFragmentReceived 0 1 { frag with octets := 0 }).wf = false ∧ (Instr.inbandFragmentReceived 0 1 { frag with octets := 121 }).wf = false := by decide
theorem test_wf_ptp : (Instr.ptpDelayReqReceived 0 hdr).wf = true ∧ (Instr.ptpDelayReqReceived 0 { hdr with seq := 65536 }).wf = false ∧
    (Instr.ptpDelayReqReceived 0 { hdr with version := 16 }).wf = false := by decide
theorem test_wf_indices : (Instr.sapClockStart 0 12).wf = false ∧ (Instr.sapDataEnable 0 8).wf = false ∧ (Instr.sapReceiveFrame 0 0 fr [[], [], [], [], []] 0).wf = false ∧
    (Instr.macLinkChange 0 4 true false).wf = false ∧ (Instr.streamDownTimeout 0 256).wf = false ∧ (Instr.zenLockLoss 0 4 none).wf = false ∧
    (Instr.clockBlockMeasure 0 0).wf = false ∧ (Instr.clockBlockMeasure 0 6).wf = false ∧ (Instr.pllLockLoss 0 5).wf = false ∧
    (Instr.clockGoodAssert 0 29).wf = false ∧ (Instr.resetSourceAssert 0 0).wf = false ∧ (Instr.resetSourceAssert 0 6).wf = false ∧
    (Instr.dramMr4Poll 0 [0] false).wf = false ∧ (Instr.irqMsixUnmask 0 (some 32)).wf = false ∧ (Instr.postedWriteComplete 0 36).wf = false ∧
    (Instr.instanceDispatch 0 10).wf = false ∧ (Instr.polderScrub 0 0 none (some 16)).wf = false ∧ (Instr.tapBlockWrite 0 512 0).wf = false := by decide
/-- No row of the table gives bits, so no word spells a command. -/
theorem test_decodeTableWord : decodeTableWord 32 0 = none ∧ (State.reset.withFetchWord 32 0) = State.reset := ⟨rfl, rfl⟩

/-! ### The spec's worked examples -/

/-- The PING of the example of chapter 14: CHECK is 0xCD. -/
theorem test_ping_example : ({ ch := 0, tag := 1 } : Packet).raw 0x001 = [0x00100004, 0x000100CD, 0, 0] := by decide +kernel
/-- A history of tags 0x0181 to 0x0200 (Table 14-9). -/
def held : Channel := { thi := some 0x0200, hist := (List.range 128).map fun (k : Nat) => storedOf { ch := 0, tag := BitVec.ofNat 16 (0x0200 - k) } }
/-- Status that R425 gives a PING whose tag is not new. -/
def tagStatus (tag : BitVec 16) (op : Nat) : Option Status := (held.stale op { ch := 0, tag := tag } 0).map (·.status)
theorem test_table_14_9 : tagStatus 0x01F0 0x001 = some .okDuplicate ∧ tagStatus 0x01F0 0x002 = some .tagConflict ∧ tagStatus 0x0180 0x001 = some .tagStale ∧
    tagStatus 0x0201 0x001 = none ∧ tagStatus 0x81FF 0x001 = none ∧ tagStatus 0x8200 0x001 = some .tagStale := by decide +kernel
/-- The commits of the example of chapter 2, E = 0x1_2A05_F3C0. -/
theorem test_selected_index : selectFrom 0x2A05F7A5 0x12A05F3C0 = some 0x12A05F7A5 ∧ selectFrom 0xAA05F3C0 0x12A05F3C0 = none := by decide
/-- The segment of the example of chapter 3. -/
def seg3 : Segment := { t0 := 7, len := 48000, p0 := ⟨460992, 614656, 0⟩, p1 := ⟨724416, 965888, 0⟩, m0 := ⟨263424, 351232, 0⟩, m1 := ⟨263424, 351232, 0⟩ }
def objSet3 : ObjSet := { speed := 343 * 65536, delayEn := true, distLaw := true, rref := 768320 }
theorem test_segment_midpoint : seg3.at_ 24007 = (⟨592704, 790272, 0⟩, false) ∧ seg3.at_ 7 = (seg3.p0, false) := by decide +kernel
theorem test_delay_and_distance : (targetDelay objSet3 48000 8 768320).1 = 1680 * 2 ^ 19 ∧ (targetDelay objSet3 48000 8 987840).1 = 2160 * 2 ^ 19 ∧
    distFactor objSet3 768320 = 2 ^ 28 ∧ distFactor objSet3 987840 = 0x0C71C71C := by decide +kernel
/-- Table 17-9. -/
theorem test_table_17_9 : dramPlace 0x1000 0x0A804000 = ⟨0, 2, 0x540, 0⟩ ∧ dramPlace 0x1000 0x0A803E80 = ⟨3, 1, 0x540, 0x340⟩ := by decide
/-- The offsets of the example of chapter 16. -/
theorem test_chapter_16_offsets : mw0Decode 0x8044 = 0x8004 ∧ mw0Block 0xC004 = 16 ∧ mw0Block 0x9C00 = 7 ∧ aliasOf 0x18094 = (0x0C04, 5) := by decide

/-! ### Single steps -/

/-- What a state shows after one step. -/
def shows {α : Type} (s : State) (f : State → α) : Option α :=
  match step s with
  | .next t => some (f t)
  | _ => none
theorem test_step_ping : shows { ready with pending := [.ping 0 { ch := 0, tag := 1, params := [7, 9] }] } (fun t => (t.pending, (t.chan 0).out.map fun r => (r.status, r.tag, r.words))) =
    some ([], [(.ok, 1, [7, 9])]) := by decide +kernel
theorem test_step_idle : shows ready id = some ready := by decide +kernel
theorem test_step_bad_param : shows { ready with pending := [.setRate 0 { ch := 0, tag := 1, params := [0xFF] }] }
    (fun t => ((t.chan 0).out.map fun r => (r.status, r.detail), t.rate, t.logQ)) = some ([(.badParam, 0x0016)], 1, 3) := by decide +kernel
theorem test_step_not_ready : shows { State.reset with pending := [.ping 0 { ch := 0 }] } (fun t => (t.chan 0).out) = some [] := by decide +kernel

end Sys2Proof.Tests
end

section
/-! SUPPORT. The keep SRAM: words written and read back (R11, R459, R460). -/
namespace Sys2Proof.Machine

/-- A word put leaves every octet outside its four as it was. -/
theorem keepByte_putWord_other (m : List Host.Cell) (a : Nat) (w : Word) {c : Nat} (hc : c < a ∨ a + 4 ≤ c) :
    keepByte (keepPutWord m a w) c = keepByte m c := by
  unfold keepPutWord
  rw [keepByte_put_other _ _ (by omega), keepByte_put_other _ _ (by omega), keepByte_put_other _ _ (by omega),
    keepByte_put_other _ _ (by omega)]

/-- The four octets of a word put, lowest first. -/
theorem keepByte_putWord_same (m : List Host.Cell) (a : Nat) (w : Word) :
    keepByte (keepPutWord m a w) a = BitVec.ofNat 8 (fld w 7 0) ∧
    keepByte (keepPutWord m a w) (a + 1) = BitVec.ofNat 8 (fld w 15 8) ∧
    keepByte (keepPutWord m a w) (a + 2) = BitVec.ofNat 8 (fld w 23 16) ∧
    keepByte (keepPutWord m a w) (a + 3) = BitVec.ofNat 8 (fld w 31 24) := by
  unfold keepPutWord
  refine ⟨?_, ?_, ?_, keepByte_put_same _ _ _⟩
  · rw [keepByte_put_other _ _ (by omega), keepByte_put_other _ _ (by omega), keepByte_put_other _ _ (by omega), keepByte_put_same]
  · rw [keepByte_put_other _ _ (by omega), keepByte_put_other _ _ (by omega), keepByte_put_same]
  · rw [keepByte_put_other _ _ (by omega), keepByte_put_same]

/-- A word put reads back. -/
theorem keepWord_putWord_same (m : List Host.Cell) (a : Nat) (w : Word) : keepWord (keepPutWord m a w) a = w := by
  obtain ⟨h0, h1, h2, h3⟩ := keepByte_putWord_same m a w
  have hw := w.isLt
  apply BitVec.eq_of_toNat_eq
  simp only [keepWord, w32, h0, h1, h2, h3, fld, BitVec.toNat_ofNat]
  omega

/-- A word depends on its four octets alone. -/
theorem keepWord_congr {m n : List Host.Cell} {a : Nat} (h : ∀ c, a ≤ c → c < a + 4 → keepByte m c = keepByte n c) :
    keepWord m a = keepWord n a := by
  unfold keepWord
  rw [h a (by omega) (by omega), h (a + 1) (by omega) (by omega), h (a + 2) (by omega) (by omega), h (a + 3) (by omega) (by omega)]

/-- Words put leave every octet outside them as it was. -/
theorem keepByte_putWords_other (m : List Host.Cell) (a : Nat) (ws : List Word) {c : Nat} (hc : c < a ∨ a + 4 * ws.length ≤ c) :
    keepByte (keepPutWords m a ws) c = keepByte m c := by
  induction ws generalizing m a with
  | nil => rfl
  | cons w ws ih =>
    rw [List.length_cons] at hc
    rw [keepPutWords, ih _ _ (by omega), keepByte_putWord_other m a w (by omega)]

/-- Words put read back, each at its place. -/
theorem keepWord_putWords (m : List Host.Cell) (a : Nat) (ws : List Word) {i : Nat} (hi : i < ws.length) :
    keepWord (keepPutWords m a ws) (a + 4 * i) = ws.getD i 0 := by
  induction ws generalizing m a i with
  | nil => exact absurd hi (Nat.not_lt_zero i)
  | cons w ws ih =>
    rw [keepPutWords]
    cases i with
    | zero =>
      have later : keepWord (keepPutWords (keepPutWord m a w) (a + 4) ws) a = keepWord (keepPutWord m a w) a :=
        keepWord_congr fun c _ hc => keepByte_putWords_other _ _ ws (.inl hc)
      exact later.trans (keepWord_putWord_same m a w)
    | succ i =>
      have place : a + 4 * (i + 1) = a + 4 + 4 * i := by omega
      rw [place, ih _ _ (Nat.lt_of_succ_lt_succ hi), List.getD_cons_succ]

/-- Settles O17: the words read back by induction on them, each put leaving the octets of the others alone. -/
theorem keepHoldsWhatWasWritten : Obligations.KeepHoldsWhatWasWritten := by
  unfold Obligations.KeepHoldsWhatWasWritten
  intro s a ws
  exact ⟨fun _ hi => keepWord_putWords s.keep a ws hi, fun _ hb => keepByte_putWords_other s.keep a ws hb, rfl,
    keepWf_putWords s.keep a ws, rfl⟩

end Sys2Proof.Machine
end

section
/-! SUPPORT. Access types of Table 00-4, bit by bit (R12, R13). -/
namespace Sys2Proof.Machine

/-! ### The fields of a register -/

/-- Bit i lies in the field. -/
abbrev RegField.Covers (f : RegField) (i : Nat) : Prop := f.lo ≤ i ∧ i ≤ f.hi

/-- The fields of a register share no bit. -/
abbrev RegRow.FieldsApart (r : RegRow) : Prop := ∀ f ∈ r.fields, ∀ g ∈ r.fields, g = f ∨ g.hi < f.lo ∨ f.hi < g.lo

/-- Every register of the map keeps its fields apart. -/
theorem regRows_fieldsApart : ∀ r ∈ regRows, r.FieldsApart := by decide +kernel

theorem fieldsApart_of_regRowOf {a : Nat} {r : RegRow} (h : regRowOf a = some r) : r.FieldsApart :=
  regRows_fieldsApart r (List.mem_of_find?_eq_some h)

theorem RegRow.FieldsApart.eq_of_covers {r : RegRow} (h : r.FieldsApart) {f g : RegField} (hf : f ∈ r.fields) (hg : g ∈ r.fields) {i : Nat}
    (fi : f.Covers i) (gi : g.Covers i) : g = f :=
  (h f hf g hg).resolve_right (by omega)

/-- A word masked for a field keeps the field's bits, and no others. -/
theorem RegField.getLsbD_and_mask (f : RegField) (w : Word) (i : Nat) :
    (w &&& w32 f.mask).getLsbD i = (decide (f.Covers i) && w.getLsbD i) := by
  by_cases hi : i < 32
  · have mask : (w32 f.mask).getLsbD i = decide (f.Covers i) := by
      simp only [w32, RegField.mask, BitVec.getLsbD_ofNat, hi, decide_true, Bool.true_and, Nat.testBit_mul_two_pow,
        Nat.testBit_two_pow_sub_one, ← Bool.decide_and]
      exact decide_eq_decide.mpr (by omega)
    rw [BitVec.getLsbD_and, mask, Bool.and_comm]
  · simp [BitVec.getLsbD_of_ge _ i (Nat.le_of_not_lt hi)]

/-! ### What the fields of a register give, joined -/

theorem getLsbD_foldl_or (part : RegField → Word) (fs : List RegField) (w : Word) (i : Nat) :
    (fs.foldl (fun acc f => acc ||| part f) w).getLsbD i = (w.getLsbD i || fs.any fun f => (part f).getLsbD i) := by
  induction fs generalizing w with
  | nil => simp
  | cons f fs ih => rw [List.foldl_cons, ih, BitVec.getLsbD_or, List.any_cons, Bool.or_assoc]

section
variable {r : RegRow} {part : RegField → Word} {bit : RegField → Bool} {i : Nat}

/-- Where each field gives bits of its own alone, a bit of no field is 0. -/
theorem getLsbD_join_outside (own : ∀ g, (part g).getLsbD i = (decide (g.Covers i) && bit g)) (hi : ∀ g ∈ r.fields, ¬ g.Covers i) :
    (r.fields.foldl (fun acc f => acc ||| part f) 0).getLsbD i = false := by
  rw [getLsbD_foldl_or]
  simpa only [BitVec.ofNat_eq_ofNat, BitVec.getLsbD_zero, Bool.false_or, List.any_eq_false, own, Bool.and_eq_true, decide_eq_true_eq]
    using fun g hg h => hi g hg h.1

/-- Where each field gives bits of its own alone, a bit of a field is what that field gives. -/
theorem getLsbD_join_inside (apart : r.FieldsApart) (own : ∀ g, (part g).getLsbD i = (decide (g.Covers i) && bit g)) {f : RegField}
    (hf : f ∈ r.fields) (fi : f.Covers i) : (r.fields.foldl (fun acc f => acc ||| part f) 0).getLsbD i = bit f := by
  rw [getLsbD_foldl_or, Bool.eq_iff_iff]
  simp only [BitVec.ofNat_eq_ofNat, BitVec.getLsbD_zero, Bool.false_or, List.any_eq_true, own, Bool.and_eq_true, decide_eq_true_eq]
  constructor
  · rintro ⟨g, hg, gi, h⟩
    rwa [apart.eq_of_covers hf hg fi gi] at h
  · exact fun h => ⟨f, hf, fi, h⟩

end

/-! ### Writes and reads -/

/-- What a write leaves in a bit of an access type, of its old value and the value written (Table 00-4). -/
def Acc.bitWritten (acc : Acc) (old v : Bool) : Bool :=
  match acc with
  | .rw => v
  | .rws => v
  | .ro => old
  | .rc => old
  | .w1c => old && !v
  | .wo => false

theorem RegField.getLsbD_written (old v : Word) (i : Nat) (f : RegField) :
    (f.written old v).getLsbD i = (decide (f.Covers i) && f.acc.bitWritten (old.getLsbD i) (v.getLsbD i)) := by
  unfold RegField.written Acc.bitWritten
  cases f.acc with
  | rw => exact f.getLsbD_and_mask v i
  | rws => exact f.getLsbD_and_mask v i
  | ro => exact f.getLsbD_and_mask old i
  | rc => exact f.getLsbD_and_mask old i
  | wo => simp
  | w1c =>
    rw [BitVec.getLsbD_and, f.getLsbD_and_mask, BitVec.getLsbD_not, Bool.and_assoc]
    by_cases hi : i < 32
    · simp [hi]
    · simp [BitVec.getLsbD_of_ge old i (Nat.le_of_not_lt hi)]

/-- What a read leaves in the bits of a field. -/
theorem RegField.getLsbD_afterRead (reset old : Word) (i : Nat) (f : RegField) :
    (if f.acc = .rc then reset &&& w32 f.mask else old &&& w32 f.mask).getLsbD i =
      (decide (f.Covers i) && if f.acc = .rc then reset.getLsbD i else old.getLsbD i) := by
  split
  · exact f.getLsbD_and_mask reset i
  · exact f.getLsbD_and_mask old i

section
variable {r : RegRow} (old v : Word) {i : Nat}

theorem RegRow.getLsbD_written_inside (apart : r.FieldsApart) {f : RegField} (hf : f ∈ r.fields) (fi : f.Covers i) :
    (r.written old v).getLsbD i = f.acc.bitWritten (old.getLsbD i) (v.getLsbD i) :=
  getLsbD_join_inside apart (RegField.getLsbD_written old v i) hf fi

theorem RegRow.getLsbD_written_outside (hi : ∀ f ∈ r.fields, ¬ f.Covers i) : (r.written old v).getLsbD i = false :=
  getLsbD_join_outside (RegField.getLsbD_written old v i) hi

theorem RegRow.getLsbD_afterRead_inside (apart : r.FieldsApart) {f : RegField} (hf : f ∈ r.fields) (fi : f.Covers i) :
    (r.afterRead old).getLsbD i = if f.acc = .rc then r.resetWord.getLsbD i else old.getLsbD i :=
  getLsbD_join_inside apart (RegField.getLsbD_afterRead r.resetWord old i) hf fi

theorem RegRow.getLsbD_afterRead_outside (hi : ∀ f ∈ r.fields, ¬ f.Covers i) : (r.afterRead old).getLsbD i = false :=
  getLsbD_join_outside (RegField.getLsbD_afterRead r.resetWord old i) hi

end

/-- A plain write of a register stores what its fields' access types leave. -/
theorem State.writePlain_of_row (s : State) {a : Nat} (v : Word) {r : RegRow} (h : regRowOf a = some r) :
    s.writePlain a v = s.setReg a (r.written (s.reg a) v) := by
  unfold State.writePlain
  rw [h]

/-- Settles O22: a bit of a field is what that field's access type leaves of it, for no other field of its register gives that bit. -/
theorem accessTypes : Obligations.AccessTypes := by
  unfold Obligations.AccessTypes
  intro s a v r hr
  have apart := fieldsApart_of_regRowOf hr
  rw [s.writePlain_of_row v hr, State.reg_setReg_same]
  refine ⟨fun f hf i lo hi => ⟨?_, r.getLsbD_afterRead_inside (s.reg a) apart hf ⟨lo, hi⟩⟩, fun i out => ?_,
    fun b hb => s.reg_setReg_other _ hb, rfl⟩
  · rw [r.getLsbD_written_inside (s.reg a) v apart hf ⟨lo, hi⟩]
    cases f.acc <;> rfl
  · have bare : ∀ f ∈ r.fields, ¬ f.Covers i := fun f hf => by have := out f hf; omega
    exact ⟨r.getLsbD_written_outside (s.reg a) v bare, r.getLsbD_afterRead_outside (s.reg a) bare⟩

end Sys2Proof.Machine
end

section
/-! SUPPORT. Accesses of the host: what each operation of the windows does in each state of its block (R12, R468 to R478), and the rows. -/
namespace Sys2Proof.Machine
open Sys2Proof.Safety

/-! ### Accesses that reach a register -/

section
variable {s : State} {win off a : Nat}

theorem State.hostWriteAt_of_off (v : Word) (h : s.blockOff (a / 1024) = true) : s.hostWriteAt win off a v = s.offAccess win off := if_pos h

theorem State.hostWriteAt_of_on (v : Word) (h : s.blockOff (a / 1024) = false) : s.hostWriteAt win off a v = s.hostWrite a v := by
  simp only [State.hostWriteAt, h, Bool.false_eq_true, if_false]

theorem State.hostWrite_of_not_posted (v : Word) (h : ¬ Safety.posted a) : s.hostWrite a v = s.writeReg a v :=
  if_neg (by simpa only [Bool.and_eq_true, decide_eq_true_eq] using h)

theorem State.hostWrite_of_posted (v : Word) (h : Safety.posted a) :
    s.hostWrite a v = if AMap.has s.posted (a / 1024) then s.orReg (a / 1024 * 1024) 2
      else { s with posted := AMap.put s.posted (a / 1024) ⟨a, v, s.now⟩ } :=
  if_pos (by simpa only [Bool.and_eq_true, decide_eq_true_eq] using h)

theorem State.hostRead_of_off (h : s.blockOff (a / 1024) = true) : s.hostRead win off a = { s.offAccess win off with read := 0 } := if_pos h

theorem State.hostRead_of_on (h : s.blockOff (a / 1024) = false) :
    s.hostRead win off a = (if a % 1024 = 0 then s else postedWriteComplete (a / 1024) s).readReg a := by
  simp only [State.hostRead, h, Bool.false_eq_true, if_false]

end

/-! ### Accesses to the windows, while PD_CTRL is on -/

section
variable {s : State} (on : s.powered 1 = true)
include on

theorem registerWrite_bad {win off be : Nat} {v : Word} (h : win = 2 ∨ be % 16 ≠ 15) : registerWrite win off be v s = s.badAccess win off := by
  simp only [registerWrite, on, Bool.not_true, Bool.false_eq_true, if_false, if_pos h]

theorem registerWrite_mw0 {off be : Nat} {v : Word} (h : be % 16 = 15) :
    registerWrite 0 off be v s = s.hostWriteAt 0 off (mw0Decode off) v := by
  simp [registerWrite, on, h]

theorem registerWrite_mw1 {off be : Nat} {v : Word} (h : be % 16 = 15) : registerWrite 1 off be v s = bitAliasWrite off v s := by
  simp [registerWrite, on, h]

theorem bitAliasWrite_on {off : Nat} {v : Word} :
    bitAliasWrite off v s = s.hostWriteAt 1 off (aliasOf off).1 (s.aliasWord (aliasOf off).1 (aliasOf off).2 (bitOf v 0)) := if_pos on

theorem registerReadClear_mw0 {off : Nat} : registerReadClear 0 off s = s.hostRead 0 off (mw0Decode off) := by
  simp [registerReadClear, on]

theorem registerReadClear_mw1 {off : Nat} : registerReadClear 1 off s = s.aliasRead off := by
  simp [registerReadClear, on]

theorem registerReadClear_mw2 {off : Nat} : registerReadClear 2 off s = { s with read := s.mw2Word off, free := s.free + 1 } := by
  simp [registerReadClear, on]

end

/-! ### Posted writes -/

theorem postedWriteComplete_of_find {s : State} {b : Nat} {x : Posted} (h : AMap.find s.posted b = some x) :
    postedWriteComplete b s = { s with posted := AMap.del s.posted b }.writeReg x.off x.value := by
  simp only [postedWriteComplete, h]

theorem postedWriteTimeout_of_find {s : State} {b : Nat} {x : Posted} (h : AMap.find s.posted b = some x) (due : x.since + ticksOfUs 10 ≤ s.now) :
    postedWriteTimeout b s = { s with posted := AMap.del s.posted b }.orReg (b * 1024) 2 := by
  simp only [postedWriteTimeout, h, if_pos due]

/-! ### The rows -/

/-- A rule holds once its row is an event whose meaning agrees with the rule's effect wherever the guard is met. -/
theorem Rule.holds_of_event (r : Rule) (f : State → State) (row : ∀ t s, exec (r.row t) s = eventRow f t s)
    (effect : ∀ u, r.guard u → f u = r.effect u) : r.Holds := by
  intro t s h
  rw [row, eventRow_eq, effect _ h]

theorem writeLands_holds (off be : Nat) (v : Word) : (writeLands off be v).Holds :=
  Rule.holds_of_event _ (registerWrite 0 off be v) (fun t s => exec_registerWrite t 0 off be v s) fun u ⟨whole, ⟨on, block⟩, direct⟩ => by
    rw [registerWrite_mw0 on whole, State.hostWriteAt_of_on v block, State.hostWrite_of_not_posted v direct]

theorem writePosts_holds (off be : Nat) (v : Word) : (writePosts off be v).Holds :=
  Rule.holds_of_event _ (registerWrite 0 off be v) (fun t s => exec_registerWrite t 0 off be v s) fun u ⟨whole, ⟨on, block⟩, waits, idle⟩ => by
    rw [registerWrite_mw0 on whole, State.hostWriteAt_of_on v block, State.hostWrite_of_posted v waits, idle, if_neg Bool.false_ne_true]

theorem writeLost_holds (off be : Nat) (v : Word) : (writeLost off be v).Holds :=
  Rule.holds_of_event _ (registerWrite 0 off be v) (fun t s => exec_registerWrite t 0 off be v s) fun u ⟨whole, ⟨on, block⟩, waits, busy⟩ => by
    rw [registerWrite_mw0 on whole, State.hostWriteAt_of_on v block, State.hostWrite_of_posted v waits, if_pos busy]

theorem writeAliased_holds (off be : Nat) (v : Word) : (writeAliased off be v).Holds :=
  Rule.holds_of_event _ (registerWrite 1 off be v) (fun t s => exec_registerWrite t 1 off be v s) fun _ ⟨whole, on⟩ =>
    registerWrite_mw1 on whole

theorem writeBad_holds (win off be : Nat) (v : Word) : (writeBad win off be v).Holds :=
  Rule.holds_of_event _ (registerWrite win off be v) (fun t s => exec_registerWrite t win off be v s) fun _ ⟨on, bad⟩ =>
    registerWrite_bad on bad

theorem writeOff_holds (off be : Nat) (v : Word) : (writeOff off be v).Holds :=
  Rule.holds_of_event _ (registerWrite 0 off be v) (fun t s => exec_registerWrite t 0 off be v s) fun u ⟨whole, on, block⟩ => by
    rw [registerWrite_mw0 on whole, State.hostWriteAt_of_off v block]

theorem readReturns_holds (off : Nat) : (readReturns off).Holds :=
  Rule.holds_of_event _ (registerReadClear 0 off) (fun t s => exec_registerReadClear t 0 off s) fun u ⟨on, block⟩ => by
    rw [registerReadClear_mw0 on, State.hostRead_of_on block]

theorem readOff_holds (off : Nat) : (readOff off).Holds :=
  Rule.holds_of_event _ (registerReadClear 0 off) (fun t s => exec_registerReadClear t 0 off s) fun u ⟨on, block⟩ => by
    rw [registerReadClear_mw0 on, State.hostRead_of_off block]

theorem readAliased_holds (off : Nat) : (readAliased off).Holds :=
  Rule.holds_of_event _ (registerReadClear 1 off) (fun t s => exec_registerReadClear t 1 off s) fun u ⟨on, block⟩ => by
    rw [registerReadClear_mw1 on]
    simp only [State.aliasRead, block, Bool.false_eq_true, if_false]

theorem readEngine_holds (off : Nat) : (readEngine off).Holds :=
  Rule.holds_of_event _ (registerReadClear 2 off) (fun t s => exec_registerReadClear t 2 off s) fun _ on => registerReadClear_mw2 on

theorem aliasLands_holds (off : Nat) (v : Word) : (aliasLands off v).Holds :=
  Rule.holds_of_event _ (bitAliasWrite off v) (fun t s => exec_bitAliasWrite t off v s) fun u ⟨⟨on, block⟩, direct⟩ => by
    rw [bitAliasWrite_on on, State.hostWriteAt_of_on _ block, State.hostWrite_of_not_posted _ direct]

theorem postedLands_holds (b : Nat) (x : Posted) : (postedLands b x).Holds :=
  Rule.holds_of_event _ (postedWriteComplete b) (fun t s => exec_postedWriteComplete t b s) fun _ found => postedWriteComplete_of_find found

theorem postedDiscarded_holds (b : Nat) (x : Posted) : (postedDiscarded b x).Holds :=
  Rule.holds_of_event _ (postedWriteTimeout b) (fun t s => exec_postedWriteTimeout t b s) fun _ ⟨found, due⟩ =>
    postedWriteTimeout_of_find found due

theorem spiReadsRegister_holds (off : Nat) : (spiReadsRegister off).Holds :=
  Rule.holds_of_event _ (spiRegRead off) (fun t s => exec_spiRegRead t off s) fun _ on => if_pos on

theorem spiReadFails_holds : spiReadFails.Holds :=
  Rule.holds_of_event _ spiRegReadTimeout (fun t s => exec_spiRegReadTimeout t s) fun _ on => if_pos on

theorem spiWritesRegister_holds (off : Nat) (v : Word) : (spiWritesRegister off v).Holds :=
  Rule.holds_of_event _ (spiRegWrite off v) (fun t s => exec_spiRegWrite t off v s) fun _ on => if_pos on

/-- Settles O42, row by row, each under the condition on its window, its block and the write that waits there. -/
theorem registerAccessesAct : Obligations.RegisterAccessesAct :=
  ⟨writeLands_holds, writePosts_holds, writeLost_holds, writeAliased_holds, writeBad_holds, writeOff_holds, readReturns_holds,
    readOff_holds, readAliased_holds, readEngine_holds, aliasLands_holds, postedLands_holds, postedDiscarded_holds,
    spiReadsRegister_holds, spiReadFails_holds, spiWritesRegister_holds⟩

end Sys2Proof.Machine
end

section
/-! SUPPORT. The scheduler and the engines: what each event of a quantum's course does in each case of the state (R32, R60 to R63, R177, R235,
R239 to R249), and the rows. -/
namespace Sys2Proof.Machine
open Sys2Proof.Safety

/-! ### The one change that waits -/

section
variable {s : State} {c : Change}

theorem State.mayApply_before_index (early : s.index < s.effIndex c) : s.mayApply c = false := by
  have : ¬ s.effIndex c ≤ s.index := by omega
  simp [State.mayApply, this]

section
variable (only : s.changes = [c])
include only

theorem State.firstChange_of_admitted {ok : Change → Bool} (admitted : ok c = true) : s.firstChange ok = some c := by
  simp [State.firstChange, only, admitted]

theorem State.firstChange_of_not_admitted {ok : Change → Bool} (out : ok c = false) : s.firstChange ok = none := by
  simp [State.firstChange, only, out]

/-- The change due takes effect at its own index, which is not before the earliest one at which changes act. -/
theorem timedCommandApply_of_due (due : s.mayApply c = true) (floor : s.index - 2 ^ 62 ≤ s.effIndex c) :
    timedCommandApply s = applyChange c { s with changes := [] } (s.effIndex c) := by
  have rest : s.changes.filter (fun x => decide (x.order ≠ c.order)) = [] := by simp [only]
  have one : s.changes.length = 1 := by simp [only]
  simp only [timedCommandApply, one, State.drain, s.firstChange_of_admitted only due, rest, max_eq_left floor]

theorem timedCommandApply_of_not_due (notDue : s.mayApply c = false) : timedCommandApply s = s := by
  have one : s.changes.length = 1 := by simp [only]
  simp only [timedCommandApply, one, State.drain, s.firstChange_of_not_admitted only notDue]

end
end

/-! ### Readiness and dispatch -/

theorem quantumReadiness_of_due {s : State} {k : Int} (near : s.quantumNear k = true) (own : s.twin.mirrors = false)
    (due : (s.reachQuantum k).quantumDue k = true) (stillOwn : (s.reachQuantum k).twin.mirrors = false) :
    quantumReadiness k s = (quantumStarts k).effect s := by
  simp only [quantumReadiness, near, own, due, stillOwn, Bool.not_true, Bool.not_false, Bool.and_false, Bool.or_self, Bool.false_eq_true, if_false,
    Bool.and_self, if_true]

theorem instanceDispatch_of_free {s : State} {l core : Nat} {now : Bool} {e : ReadyEntry}
    (head : s.audio.ready.find? (fun e => decide (e.list = l)) = some e) (free : s.freeSlot l = some (core, now)) :
    instanceDispatch l s = (instanceTakesSlot l core now e).effect s := by
  simp only [instanceDispatch, head, free]

/-! ### Completion -/

theorem instanceCompleted_eq_captured (k : Int) (i : Inst) (s : State) : instanceCompleted k i s = captured k i s (instanceComplete k i s) := rfl

section
variable {s : State} {k : Int} {d : Dispatched} {r : QRun}

theorem instanceComplete_op {x : Nat} (inSlot : s.dispatched k (.op x) = some d) (executes : d.executing = true) (flies : s.runNumbered k = some r)
    (free : s.waitsForTier r x = false) : instanceComplete k (.op x) s = ((s.freeUp d).runOp r x).closeInst r.ord (.op x) := by
  simp only [instanceComplete, inSlot, executes, flies, free, Bool.not_true, Bool.false_eq_true, if_false]

theorem instanceComplete_pass {x : Nat} (inSlot : s.dispatched k (.pass x) = some d) (executes : d.executing = true)
    (flies : s.runNumbered k = some r) : instanceComplete k (.pass x) s = ((s.freeUp d).runPass r x).closeInst r.ord (.pass x) := by
  simp only [instanceComplete, inSlot, executes, flies, Bool.not_true, Bool.false_eq_true, if_false]

theorem instanceComplete_tier {op tier : Nat} {b : Int} (inSlot : s.dispatched k (.tier op tier b) = some d) (executes : d.executing = true)
    (convolution : tier ≠ reedTier) (ready : s.tierReady op tier b = true) :
    instanceComplete k (.tier op tier b) s = ((s.freeUp d).tierDone op tier b).jobEnded op tier b := by
  simp only [instanceComplete, inSlot, executes, ready, Bool.not_true, Bool.false_eq_true, if_false, if_neg convolution, if_true]

end

/-! ### Wait limits -/

section
variable {s : State} {k : Int} {i : Inst} {d : Dispatched}

/-- Past its limit, an entry of a list that has limits meets neither of the two conditions under which WAIT_TIMEOUT leaves it alone. -/
theorem not_exempt_of_waitOver (late : waitOver k i d s) :
    (decide (7 < d.entry.list) || decide ((s.now - d.since) * 5 < 2 * s.waitLimit (s.runNumbered k) i)) = false := by
  obtain ⟨-, list, limit⟩ := late
  simp only [Bool.or_eq_false_iff, decide_eq_false_iff_not, Nat.not_lt]
  exact ⟨list, limit⟩

theorem waitTimeout_op {x : Nat} {r : QRun} (late : waitOver k (.op x) d s) (flies : s.runNumbered k = some r) :
    waitTimeout k (.op x) s = ((waitStops k d s).skipInst r (.op x)).closeInst r.ord (.op x) := by
  have limit := not_exempt_of_waitOver late
  rw [flies] at limit
  simp only [waitTimeout, late.1, flies, limit, Bool.false_eq_true, if_false, waitStops]

theorem waitTimeout_tier {op tier : Nat} {b : Int} (late : waitOver k (.tier op tier b) d s) :
    waitTimeout k (.tier op tier b) s = (waitStops k d s).jobEnded op tier b := by
  simp only [waitTimeout, late.1, not_exempt_of_waitOver late, Bool.false_eq_true, if_false, waitStops]

theorem waitTimeout_before_limit (inSlot : s.dispatched k i = some d)
    (early : (s.now - d.since) * 5 < 2 * s.waitLimit (s.runNumbered k) i) : waitTimeout k i s = s := by
  simp only [waitTimeout, inSlot, early, decide_true, Bool.or_true, if_true]

theorem waitTimedOut_of_not_open (closed : s.instOpen k i = false) : waitTimedOut k i s = waitTimeout k i s := by
  simp only [waitTimedOut, closed, Bool.false_and, Bool.false_eq_true, if_false]

theorem waitTimedOut_of_unchanged (same : waitTimeout k i s = s) : waitTimedOut k i s = s := by
  simp only [waitTimedOut, same, Bool.and_not_self, Bool.false_eq_true, if_false]

theorem waitTimedOut_of_closed (wasOpen : s.instOpen k i = true) (closed : (waitTimeout k i s).instOpen k i = false) :
    waitTimedOut k i s = ((waitTimeout k i s).updTwin fun t =>
      { t with excused := if t.enabled then (k * s.q) :: t.excused else t.excused }).captureOps k (s.instOps k i) := by
  simp only [waitTimedOut, wasOpen, closed, Bool.not_false, Bool.and_self, if_true]

end

/-! ### Sink deadlines and filter copies -/

theorem sinkDeadline_of_none_before {s : State} {k : Int} {r : QRun} (due : s.deadlineDue k = some r) (first : s.runBefore r = none) :
    sinkDeadline k s = (deadlinePasses k r).effect s := by
  simp only [sinkDeadline, due, first]

theorem sinkDeadline_of_some_before {s : State} {k : Int} {r b : QRun} (due : s.deadlineDue k = some r) (before : s.runBefore r = some b) :
    sinkDeadline k s = (deadlineRetires k r b).effect s := by
  simp only [sinkDeadline, due, before]

theorem filterSwapCopyDone_of_copying {s : State} {i : Nat} {h : Word} {rest : List Word} {x : Nat × Slot}
    (copying : (s.cfg.convOf i).copying = h :: rest) (slot : s.slotOf h = some x) (on : s.poldersOn s.convArea = true) :
    filterSwapCopyDone i s = (copyDone i h rest x).effect s := by
  simp only [filterSwapCopyDone, copying, slot, on, if_true]

/-! ### The rows -/

theorem changeTaken_holds (c : Change) : (changeTaken c).Holds :=
  Rule.holds_of_event _ timedCommandApply exec_timedCommandApply fun _ ⟨only, due, floor⟩ => timedCommandApply_of_due only due floor

theorem changeWaits_holds (c : Change) : (changeWaits c).Holds :=
  Rule.holds_of_event _ timedCommandApply exec_timedCommandApply fun _ ⟨only, early⟩ =>
    timedCommandApply_of_not_due only (State.mayApply_before_index early)

theorem quantumStarts_holds (k : Int) : (quantumStarts k).Holds :=
  Rule.holds_of_event _ (quantumReadiness k) (fun t s => exec_quantumReadiness t k s) fun _ ⟨near, own, due, stillOwn⟩ =>
    quantumReadiness_of_due near own due stillOwn

theorem instanceTakesSlot_holds (l core : Nat) (now : Bool) (e : ReadyEntry) : (instanceTakesSlot l core now e).Holds :=
  Rule.holds_of_event _ (instanceDispatch l) (fun t s => exec_instanceDispatch t l s) fun _ ⟨head, free⟩ => instanceDispatch_of_free head free

theorem operationCompletes_holds (k : Int) (x : Nat) (d : Dispatched) (r : QRun) : (operationCompletes k x d r).Holds :=
  Rule.holds_of_event _ (instanceCompleted k (.op x)) (fun t s => exec_instanceComplete t k (.op x) s) fun u ⟨inSlot, executes, flies, free⟩ => by
    rw [instanceCompleted_eq_captured, instanceComplete_op inSlot executes flies free]

theorem passCompletes_holds (k : Int) (x : Nat) (d : Dispatched) (r : QRun) : (passCompletes k x d r).Holds :=
  Rule.holds_of_event _ (instanceCompleted k (.pass x)) (fun t s => exec_instanceComplete t k (.pass x) s) fun u ⟨inSlot, executes, flies⟩ => by
    rw [instanceCompleted_eq_captured, instanceComplete_pass inSlot executes flies]

theorem tierCompletes_holds (k : Int) (op tier : Nat) (b : Int) (d : Dispatched) : (tierCompletes k op tier b d).Holds :=
  Rule.holds_of_event _ (instanceCompleted k (.tier op tier b)) (fun t s => exec_instanceComplete t k (.tier op tier b) s)
    fun u ⟨inSlot, executes, convolution, ready⟩ => by
      rw [instanceCompleted_eq_captured, instanceComplete_tier inSlot executes (Nat.ne_of_lt convolution) ready]

theorem tickReleases_holds : tickReleases.Holds :=
  Rule.holds_of_event _ schedulerTick exec_schedulerTick fun u ⟨processing, newer⟩ =>
    if_pos (by simp only [processing, newer, decide_true, Bool.and_self])

theorem operationStopped_holds (k : Int) (x : Nat) (d : Dispatched) (r : QRun) : (operationStopped k x d r).Holds :=
  Rule.holds_of_event _ (waitTimedOut k (.op x)) (fun t s => exec_waitTimeout t k (.op x) s) fun u ⟨late, flies, wasOpen, closed⟩ => by
    have stopped := waitTimeout_op late flies
    rw [waitTimedOut_of_closed wasOpen (by rw [stopped]; exact closed), stopped]

theorem tierStopped_holds (k : Int) (op tier : Nat) (b : Int) (d : Dispatched) : (tierStopped k op tier b d).Holds :=
  Rule.holds_of_event _ (waitTimedOut k (.tier op tier b)) (fun t s => exec_waitTimeout t k (.tier op tier b) s) fun u ⟨late, closed⟩ => by
    rw [waitTimedOut_of_not_open closed, waitTimeout_tier late]

theorem waitGoesOn_holds (k : Int) (i : Inst) (d : Dispatched) : (waitGoesOn k i d).Holds :=
  Rule.holds_of_event _ (waitTimedOut k i) (fun t s => exec_waitTimeout t k i s) fun _ ⟨inSlot, early⟩ =>
    waitTimedOut_of_unchanged (waitTimeout_before_limit inSlot early)

theorem deadlinePasses_holds (k : Int) (r : QRun) : (deadlinePasses k r).Holds :=
  Rule.holds_of_event _ (sinkDeadline k) (fun t s => exec_sinkDeadline t k s) fun _ ⟨due, first⟩ => sinkDeadline_of_none_before due first

theorem deadlineRetires_holds (k : Int) (r b : QRun) : (deadlineRetires k r b).Holds :=
  Rule.holds_of_event _ (sinkDeadline k) (fun t s => exec_sinkDeadline t k s) fun _ ⟨due, before⟩ => sinkDeadline_of_some_before due before

theorem copyDone_holds (i : Nat) (h : Word) (rest : List Word) (x : Nat × Slot) : (copyDone i h rest x).Holds :=
  Rule.holds_of_event _ (filterSwapCopyDone i) (fun t s => exec_filterSwapCopyDone t i s) fun _ ⟨copying, slot, on⟩ =>
    filterSwapCopyDone_of_copying copying slot on

/-- Settles O44, row by row, each under the condition on the change, the quantum, the slot or the copy that it concerns. -/
theorem schedulerRuns : Obligations.SchedulerRuns :=
  ⟨changeTaken_holds, changeWaits_holds, quantumStarts_holds, instanceTakesSlot_holds, operationCompletes_holds, passCompletes_holds,
    tierCompletes_holds, tickReleases_holds, operationStopped_holds, tierStopped_holds, waitGoesOn_holds, deadlinePasses_holds,
    deadlineRetires_holds, copyDone_holds⟩

end Sys2Proof.Machine
end

section
/-! SUPPORT. Power domains, the release sequence, supplies and temperature: what each event does in each case of the state (R26, R520, R521,
R523, R530 to R532, R535, R549, Table 18-4), and the rows. -/
namespace Sys2Proof.Machine
open Sys2Proof.Safety

/-! ### Domains -/

section
variable {s : State} {d : Nat} (change : switching d s)
include change

/-- A change of a domain's power that no idle request holds back is not passed over. -/
theorem not_held_back_of_switching : (!(s.rpc.busy.testBit d && decide (d < 16)) || s.rpc.idle.any fun x => x.domains.contains d) = false := by
  obtain ⟨busy, domain, idle⟩ := change
  simp only [busy, domain, idle, decide_true, Bool.and_self, Bool.not_true, Bool.or_self]

theorem domainPowerDone_on (wanted : bitOf (s.reg rRpcPdreq) d = true) (clocked : s.domainClocked d = true) (free : s.domainHeld d = false) :
    domainPowerDone d s = (domainOn d).effect s := by
  simp only [domainPowerDone, not_held_back_of_switching change, wanted, clocked, free, Bool.not_true, Bool.or_self, Bool.and_false,
    Bool.false_eq_true, if_false, if_true, switched]

theorem domainPowerDone_off (unwanted : bitOf (s.reg rRpcPdreq) d = false) : domainPowerDone d s = (domainOff d).effect s := by
  simp only [domainPowerDone, not_held_back_of_switching change, unwanted, Bool.false_and, Bool.false_eq_true, if_false, switched]

end

/-! ### A clock becomes good -/

@[simp] theorem State.putClock_run (s : State) (c : Nat) (on : Bool) : (s.putClock c on).run = s.run := rfl
@[simp] theorem State.putClock_rpc (s : State) (c : Nat) (on : Bool) : (s.putClock c on).rpc = s.rpc := rfl
@[simp] theorem State.putClock_reg (s : State) (c : Nat) (on : Bool) (a : Nat) : (s.putClock c on).reg a = s.reg a := rfl

/-- While no domain waits, taking domains off the list of those that wait changes nothing. -/
theorem State.updRpc_filter_waits_of_nil {s : State} (nil : s.rpc.waits = []) (p : Nat → Bool) :
    (s.updRpc fun r => { r with waits := r.waits.filter p }) = s := by
  have same : { s.rpc with waits := s.rpc.waits.filter p } = s.rpc := by rw [nil, List.filter_nil, ← nil]
  simp only [State.updRpc, same]

section
variable {s : State} {c : Nat} (bad : s.clockGood c = false) (known : c < 29) (fresh : c ≠ 5 ∨ s.tu.raw = 0)
include bad known fresh

/-- A clock that was not good is put good, and the servo stays as it is, for no loss of the counter's own PLL ends (R309). -/
theorem not_passed_by_of_bad_clock : (s.clockGood c || decide (29 ≤ c)) = false ∧ (decide (c = 5) && decide (0 < s.tu.raw)) = false := by
  refine ⟨by simp [bad, known], ?_⟩
  obtain other | unstarted := fresh
  · simp [other]
  · simp [unstarted]

theorem clockGoodAssert_of_held (held : bitOf (s.reg rRpcHeld) c = true) : clockGoodAssert c s = s.putClock c true := by
  obtain ⟨acts, servo⟩ := not_passed_by_of_bad_clock bad known fresh
  simp only [clockGoodAssert, acts, servo, held, State.putClock_reg, Bool.false_eq_true, if_false, if_true]

section
variable (free : bitOf (s.reg rRpcHeld) c = false)
include free

theorem clockGoodAssert_of_loading (loading : s.run = .loading) : clockGoodAssert c s = (s.putClock c true).release := by
  obtain ⟨acts, servo⟩ := not_passed_by_of_bad_clock bad known fresh
  simp only [clockGoodAssert, acts, servo, free, loading, State.putClock_reg, State.putClock_run, Bool.false_eq_true, if_false, if_true]

/-- With no source of cause 9 and no domain that waits, nothing hangs on the clock (R520, R522). -/
theorem clockGoodAssert_of_none_waiting (loaded : s.run ≠ .loading) (booted : s.run ≠ .boot) (noLoss : ∀ x ∈ s.rpc.sources, x.cause ≠ 9)
    (noWaits : s.rpc.waits = []) : clockGoodAssert c s = s.putClock c true := by
  obtain ⟨acts, servo⟩ := not_passed_by_of_bad_clock bad known fresh
  have freed : s.rpc.sources.filter (fun x => decide (x.cause = 9) && (s.putClock c true).domainClocked x.domain) = [] :=
    List.filter_eq_nil_iff.2 fun x hx => by simp [noLoss x hx]
  simp only [clockGoodAssert, acts, servo, free, loaded, booted, State.putClock_reg, State.putClock_run, State.putClock_rpc, freed, noWaits,
    List.filter_nil, List.foldl_nil, State.updRpc_run, Bool.false_eq_true, if_false]
  exact (s.putClock c true).updRpc_filter_waits_of_nil noWaits _

end
end

/-! ### Clocks that do not become good, and READY -/

theorem clockGoodTimeout_of_loading {s : State} {c : Nat} (bad : s.clockGood c = false) (known : c < 29) (loading : s.run = .loading)
    (releasing : s.releasing = true) (free : bitOf (s.reg rRpcHeld) c = false) (late : s.rpc.stepAt + ticksOfMs 2 ≤ s.now) :
    clockGoodTimeout c s = (clockMissed c).effect s := by
  have notYet : ¬ 29 ≤ c := by omega
  have notEarly : ¬ s.now < s.rpc.stepAt + ticksOfMs 2 := by omega
  simp only [clockGoodTimeout, bad, notYet, loading, releasing, free, notEarly, decide_true, decide_false, Bool.true_or, Bool.not_true,
    Bool.or_self, Bool.false_eq_true, if_false]

theorem readyEntry_of_boot {s : State} (boot : s.run = .boot) (releasing : s.releasing = true) :
    readyEntry s = s.clocksGood.fusesRead.keepCheck.domainsReleased.becomeReady :=
  if_pos (by simp only [boot, releasing, decide_true, Bool.and_self])

/-! ### Supplies and temperature -/

theorem supplyWarning_of_new {s : State} {rail mv : Nat} (new : s.rpc.warned rail = false) (known : rail < 2) :
    supplyWarning rail mv s = (supplyWarns rail mv).effect s := by
  have notOther : ¬ 2 ≤ rail := by omega
  simp only [supplyWarning, new, notOther, decide_false, Bool.or_self, Bool.false_eq_true, if_false]

theorem supplyRecovery_of_warned {s : State} {rail low : Nat} {b : Brownout} (warned : (s.rpc.warn.find? fun b => decide (b.rail = rail)) = some b) :
    supplyRecovery rail low s = (supplyRecovers rail low b).effect s := by
  simp only [supplyRecovery, warned]

theorem thermAlertChange_of_hot {temp : Int} (s : State) (hot : (tjMax - 5) * 256 ≤ temp) :
    thermAlertChange temp s = { s with rpc := { s.rpc with therm := true } } := if_pos hot

theorem thermAlertChange_of_cool {temp : Int} (s : State) (cool : temp < (tjMax - 10) * 256) :
    thermAlertChange temp s = { s with rpc := { s.rpc with therm := false } } := by
  have notHot : ¬ (tjMax - 5) * 256 ≤ temp := by omega
  simp only [thermAlertChange, notHot, cool, if_false, if_true, State.updRpc]

/-! ### The rows -/

theorem domainOn_holds (d : Nat) : (domainOn d).Holds :=
  Rule.holds_of_event _ (domainPowerDone d) (fun t s => exec_domainPowerDone t d s) fun _ ⟨change, wanted, clocked, free⟩ =>
    domainPowerDone_on change wanted clocked free

theorem domainOff_holds (d : Nat) : (domainOff d).Holds :=
  Rule.holds_of_event _ (domainPowerDone d) (fun t s => exec_domainPowerDone t d s) fun _ ⟨change, unwanted⟩ =>
    domainPowerDone_off change unwanted

theorem clockReleases_holds (c : Nat) : (clockReleases c).Holds :=
  Rule.holds_of_event _ (clockGoodAssert c) (fun t s => exec_clockGoodAssert t c s) fun _ ⟨bad, known, fresh, free, loading⟩ =>
    clockGoodAssert_of_loading bad known fresh free loading

theorem clockBack_holds (c : Nat) : (clockBack c).Holds :=
  Rule.holds_of_event _ (clockGoodAssert c) (fun t s => exec_clockGoodAssert t c s)
    fun _ ⟨bad, known, fresh, free, loaded, booted, noLoss, noWaits⟩ =>
      clockGoodAssert_of_none_waiting bad known fresh free loaded booted noLoss noWaits

theorem clockLate_holds (c : Nat) : (clockLate c).Holds :=
  Rule.holds_of_event _ (clockGoodAssert c) (fun t s => exec_clockGoodAssert t c s) fun _ ⟨bad, known, fresh, held⟩ =>
    clockGoodAssert_of_held bad known fresh held

theorem clockMissed_holds (c : Nat) : (clockMissed c).Holds :=
  Rule.holds_of_event _ (clockGoodTimeout c) (fun t s => exec_clockGoodTimeout t c s) fun _ ⟨bad, known, loading, releasing, free, late⟩ =>
    clockGoodTimeout_of_loading bad known loading releasing free late

theorem becomesReady_holds : becomesReady.Holds :=
  Rule.holds_of_event _ readyEntry exec_readyEntry fun _ ⟨boot, releasing⟩ => readyEntry_of_boot boot releasing

theorem supplyWarns_holds (rail mv : Nat) : (supplyWarns rail mv).Holds :=
  Rule.holds_of_event _ (supplyWarning rail mv) (fun t s => exec_supplyWarning t rail mv s) fun _ ⟨new, known⟩ => supplyWarning_of_new new known

theorem supplyRecovers_holds (rail low : Nat) (b : Brownout) : (supplyRecovers rail low b).Holds :=
  Rule.holds_of_event _ (supplyRecovery rail low) (fun t s => exec_supplyRecovery t rail low s) fun _ warned => supplyRecovery_of_warned warned

theorem thermRises_holds (temp : Int) : (thermRises temp).Holds :=
  Rule.holds_of_event _ (thermAlertChange temp) (fun t s => exec_thermAlertChange t temp s) fun u hot => thermAlertChange_of_hot u hot

theorem thermFalls_holds (temp : Int) : (thermFalls temp).Holds :=
  Rule.holds_of_event _ (thermAlertChange temp) (fun t s => exec_thermAlertChange t temp s) fun u cool => thermAlertChange_of_cool u cool

/-- Settles O55, row by row, each under the condition on its domain, clock, rail or temperature. -/
theorem releaseAndSuppliesAct : Obligations.ReleaseAndSuppliesAct :=
  ⟨domainOn_holds, domainOff_holds, clockReleases_holds, clockBack_holds, clockLate_holds, clockMissed_holds, becomesReady_holds,
    supplyWarns_holds, supplyRecovers_holds, thermRises_holds, thermFalls_holds⟩

end Sys2Proof.Machine
end

section
/-! SUPPORT. Safe-load sets and chains: what refusals and acceptance leave of a channel's set and chain (R65 to R67, R427, R430, R431). -/
namespace Sys2Proof.Machine
open Sys2Proof.Safety

/-! ### Checks in order -/

theorem firstDeny_eq_none_iff {checks : List (Option Deny)} : firstDeny checks = none ↔ ∀ x ∈ checks, x = none := by
  induction checks with
  | nil => simp [firstDeny]
  | cons x checks ih => cases x <;> simp [firstDeny, ih]

@[simp] theorem denyIf_eq_none_iff {b : Bool} {d : Deny} : denyIf b d = none ↔ b = false := by
  cases b <;> simp [denyIf]

section
variable {c : CmdSpec} {p : Packet} {s : State}

theorem CmdSpec.flags_of_early (passes : c.early p s = none) : c.flags p = none :=
  firstDeny_eq_none_iff.1 passes _ List.mem_cons_self

/-- A packet with MORE is for a continued command. -/
theorem CmdSpec.not_more_of_early (passes : c.early p s = none) (single : c.continued = false) : p.more = false := by
  have flags := firstDeny_eq_none_iff.1 (CmdSpec.flags_of_early passes)
  simpa [single] using flags (denyIf (p.more && !c.continued) flagsDeny) (by simp)

/-- A packet that is taken passes steps 6 to 9 and steps 8 to 11 of Table 14-7. -/
theorem CmdSpec.early_late_of_take {i : Int} (taken : c.verdict p s = .take i) : c.early p s = none ∧ c.late p s = .take i := by
  unfold CmdSpec.verdict at taken
  split at taken
  · cases taken
  · next passes =>
    refine ⟨passes, ?_⟩
    split at taken
    · repeat' split at taken
      all_goals cases taken
    · exact taken

/-- The last packet of a command that is taken meets the command's own conditions at its index. -/
theorem CmdSpec.own_of_late {i : Int} (taken : c.late p s = .take i) (last : p.more = false) : c.own p s i = none := by
  unfold CmdSpec.late at taken
  split at taken
  · cases taken
  · split at taken
    · cases taken
    · split at taken
      · cases taken
      · next own =>
        cases taken
        simpa [last] using firstDeny_eq_none_iff.1 own _ List.mem_cons_self

end

/-! ### The set of a channel -/

section
variable (s : State) (p : Packet)

theorem State.set_emit (n : Nat) (r : Reply) : ((s.emit n r).chan n).set = (s.chan n).set := by
  rw [State.chan_emit_same]
  split <;> rfl

@[simp] theorem State.set_answer (op : Nat) (st : Status) (d : Nat) (time : Int) (words : List Word) :
    ((s.answer op p st d time words).chan p.ch).set = (s.chan p.ch).set := by
  unfold State.answer
  split
  · rw [State.chan_updChan_same, Channel.enter]
  · rw [State.set_emit, State.chan_updChan_same, Channel.enter]

@[simp] theorem State.set_refuse (op : Nat) (d : Deny) : ((s.refuse op p d).chan p.ch).set = (s.chan p.ch).set :=
  s.set_answer p op d.status d.detail s.index []

@[simp] theorem State.chan_logNow (code : Nat) (vals : List Int) (n : Nat) : (s.logNow code vals).chan n = s.chan n := by
  simp [State.chan]

@[simp] theorem closeChain_set (c : CmdSpec) : ((closeChain c p s).chan p.ch).set = (s.chan p.ch).set := by
  unfold closeChain
  split <;> simp

/-- A chain discarded by a packet of another opcode leaves the set open. -/
@[simp] theorem breakChain_set (op : Nat) : ((breakChain op p s).chan p.ch).set = (s.chan p.ch).set := by
  unfold breakChain
  split
  · rfl
  · split <;> simp

/-- A refusal does to the channel's set what a failed member does, whatever the refusal is. -/
theorem CmdSpec.denied_set (c : CmdSpec) (d : Deny) :
    ((c.denied p d s).chan p.ch).set = ((s.memberFailed p.ch p).chan p.ch).set := by
  simp only [CmdSpec.denied, closeChain_set, State.set_refuse]
  rw [State.memberFailed]
  split
  · rw [State.chan_violation]
    split <;> simp
  · split <;> simp

/-- A forwarded packet's channel waits for the holder, and its set stays (R391). -/
theorem CmdSpec.forwarded_set (c : CmdSpec) : ((c.forwarded p s).chan p.ch).set = (s.chan p.ch).set := by
  change ((s.updChan p.ch fun k => { k with hold := some (.relay c.op p s.now) }).chan p.ch).set = _
  rw [State.chan_updChan_same]

theorem State.memberFailed_of_single {ch : Nat} (single : p.group = false) : s.memberFailed ch p = s := if_neg (by simp [single])

/-- A GROUP packet that fails adds one to the refused members of the open set. -/
theorem State.memberFailed_set {ch : Nat} {g : SafeSet} (member : p.group = true) (isOpen : (s.chan ch).set = some g) :
    ((s.memberFailed ch p).chan ch).set = some { g with refused := g.refused + 1 } := by
  rw [State.memberFailed, if_pos member, State.chan_updChan_same, isOpen, Option.map_some]

end

/-! ### Refusals at steps 1 to 5 -/

theorem State.turnAway_set (s : State) (ch kind : Nat) (r : Reply) (p : Packet) :
    ((s.turnAway ch kind r p).chan ch).set = ((s.memberFailed ch p).chan ch).set := by
  rw [State.turnAway, State.set_emit, State.chan_violation]

section
variable {s : State} {op : Nat} {p : Packet}

/-- A refusal for the tag (step 4). -/
theorem State.takePacketOf_set_of_stale {r : Reply} (stale : (s.chan p.ch).stale op p s.index = some r) (refused : r.status.good = false) :
    ((s.takePacketOf op p).chan p.ch).set = ((s.memberFailed p.ch p).chan p.ch).set := by
  have sent : suppressed p r.status = false := by simp [suppressed, refused]
  simp only [State.takePacketOf, stale, refused, sent, Bool.false_eq_true, if_false, State.set_emit, State.chan_violation]

theorem specOf_of_unknown (unknown : ∀ c ∈ catalogue, c.op ≠ op) : specOf op = none :=
  List.find?_eq_none.2 fun c hc => by simpa using unknown c hc

/-- A refusal for the opcode (step 5). -/
theorem State.takePacketOf_set_of_unknown (new : (s.chan p.ch).stale op p s.index = none) (unknown : ∀ c ∈ catalogue, c.op ≠ op) :
    ((s.takePacketOf op p).chan p.ch).set = (((breakChain op p s).memberFailed p.ch p).chan p.ch).set := by
  simp [State.takePacketOf, new, specOf_of_unknown unknown]

end

/-! ### SAFE_SET_BEGIN -/

theorem safeSetBeginDoes_holds : safeSetBeginDoes.Holds := Command.holds_of_act _ exec_safeSetBegin fun _ _ _ => rfl

/-- A packet of a command that is not continued is the last of its own. -/
theorem safeSetBegin_not_more {p : Packet} {s : State} (passes : safeSetBeginSpec.early p s = none) : p.more = false :=
  CmdSpec.not_more_of_early passes rfl

theorem set_none_of_safeSetBegin_taken {p : Packet} {s : State} {i : Int} (taken : safeSetBeginSpec.verdict p s = .take i) :
    (s.chan p.ch).set = none := by
  obtain ⟨passes, late⟩ := CmdSpec.early_late_of_take taken
  simpa [safeSetBeginSpec] using CmdSpec.own_of_late late (safeSetBegin_not_more passes)

theorem safeSetBegin_busy {p : Packet} {s : State} (passes : safeSetBeginSpec.early p s = none) (acts : s.executesPair = true)
    (handle : p.handle = 0) (bare : p.params = []) (untimed : p.apply = 0) (isOpen : (s.chan p.ch).set ≠ none) :
    safeSetBeginSpec.verdict p s = .denyLate busyDeny := by
  have last := safeSetBegin_not_more passes
  have busy : denyIf (s.chan p.ch).set.isSome busyDeny = some busyDeny := if_pos (Option.isSome_iff_ne_none.2 isOpen)
  have late : safeSetBeginSpec.late p s = .denyLate busyDeny := by
    simp [CmdSpec.late, CmdSpec.index, safeSetBeginSpec, noHandle, lenIs, Packet.len, handle, bare, untimed, last, busy, firstDeny]
  simp [CmdSpec.verdict, passes, acts, late]

/-- Whatever SAFE_SET_BEGIN is answered, an open set stays. -/
theorem safeSetBegin_keeps_open_set {p : Packet} {s : State} (takes : s.takes = true) (single : p.group = false)
    (isOpen : (s.chan p.ch).set ≠ none) : ((safeSetBeginSpec.interpret p s).chan p.ch).set = (s.chan p.ch).set := by
  rw [CmdSpec.interpret_takes _ p s takes, ← breakChain_set s p safeSetBeginSpec.op] at *
  generalize breakChain safeSetBeginSpec.op p s = u at *
  cases verdict : safeSetBeginSpec.verdict p u with
  | deny d => exact (CmdSpec.denied_set u p _ d).trans (by rw [State.memberFailed_of_single u p single])
  | denyLate d => exact (CmdSpec.denied_set u p _ d).trans (by rw [State.memberFailed_of_single u p single])
  | forward => exact CmdSpec.forwarded_set u p _
  | take i => exact absurd (set_none_of_safeSetBegin_taken verdict) isOpen

/-- Settles O12: the command's own condition is that no set is open, and no refusal touches the set. -/
theorem safeSetOpens : Obligations.SafeSetOpens :=
  ⟨safeSetBeginDoes_holds, fun _ _ _ => set_none_of_safeSetBegin_taken, fun _ _ => safeSetBegin_busy, fun _ _ => safeSetBegin_keeps_open_set⟩

/-! ### GROUP packets -/

/-- Without an open set a GROUP packet that passes the checks before is refused with WRONG_STATE. -/
theorem CmdSpec.verdict_of_no_set {c : CmdSpec} {p : Packet} {s : State} (member : p.group = true) (flags : c.flags p = none)
    (chain : c.chainDeny p s = none) (run : runDeny c.op s = none) (state : c.state p s = none) (noSet : (s.chan p.ch).set = none) :
    c.verdict p s = .deny ⟨.wrongState, 0⟩ := by
  simp [CmdSpec.verdict, CmdSpec.early, flags, chain, run, state, member, noSet, firstDeny, denyIf, stateDeny]

/-- Settles O13: every refusal does to the set what a failed member does, and that adds one to its refused members. -/
theorem groupNeedsASet : Obligations.GroupNeedsASet := by
  unfold Obligations.GroupNeedsASet
  refine ⟨fun _ _ _ => CmdSpec.verdict_of_no_set, fun c p d s g member isOpen => ?_, fun p kind r s g member isOpen => ?_,
    fun op p r s g stale refused member isOpen => ?_, fun op p s g unknown new member isOpen => ?_⟩
  · rw [CmdSpec.denied_set, s.memberFailed_set p member isOpen]
  · rw [State.turnAway_set, s.memberFailed_set p member isOpen]
  · rw [State.takePacketOf_set_of_stale stale refused, s.memberFailed_set p member isOpen]
  · rw [State.takePacketOf_set_of_unknown new unknown, State.memberFailed_set _ p member ((breakChain_set s p op).trans isOpen)]

/-! ### Members and chains -/

theorem CmdSpec.accept_of_group (c : CmdSpec) {p : Packet} (s : State) (i : Int) (forced : Option (List Word)) (member : p.group = true) :
    c.accept p s i forced =
      { s := s.updChan p.ch fun k => { k with set := k.set.map fun g => { g with members := g.members ++ [(c.op, p)] } }, time := some s.index } :=
  if_pos member

theorem CmdSpec.accept_of_more (c : CmdSpec) {p : Packet} (s : State) (i : Int) (forced : Option (List Word)) (single : p.group = false)
    (more : p.more = true) :
    c.accept p s i forced =
      { s := s.updChan p.ch fun k =>
          { k with chain := some { op := c.op, handle := p.handle, apply := p.apply, packets := (k.chain.elim [] (·.packets)) ++ [p] } },
        time := some s.index } := by
  rw [CmdSpec.accept, if_neg (by simp [single]), if_pos more]

theorem CmdSpec.okStatus_of_more (c : CmdSpec) {p : Packet} (more : p.more = true) : c.okStatus p = .ok := by
  simp [CmdSpec.okStatus, more]

theorem chainOf_of_open {op : Nat} {p : Packet} {s : State} {k : Chain} (isOpen : (s.chan p.ch).chain = some k) (same : k.op = op) :
    chainOf op p s = k.packets ++ [p] := by
  simp [chainOf, isOpen, same]

theorem closeChain_chain (c : CmdSpec) {p : Packet} (s : State) (continued : c.continued = true) (last : p.more = false) :
    ((closeChain c p s).chan p.ch).chain = none := by
  simp [closeChain, continued, last]

/-- Settles O14: a member and a chain packet change their channel alone, and the last packet closes the chain that it carries. -/
theorem setsAndChainsCollect : Obligations.SetsAndChainsCollect := by
  unfold Obligations.SetsAndChainsCollect
  refine ⟨fun c p i s g member isOpen => ?_, fun c p i s single more => ?_, fun _ _ _ _ => chainOf_of_open, fun c _ s => closeChain_chain c s⟩
  · rw [c.accept_of_group s i none member]
    exact ⟨by simp [isOpen], rfl, fun _ other => s.chan_updChan_other _ other, rfl⟩
  · rw [c.accept_of_more s i none single more]
    exact ⟨by simp, rfl, fun _ other => s.chan_updChan_other _ other, rfl, c.okStatus_of_more more⟩

end Sys2Proof.Machine
end

section
/-! SUPPORT. Indices and the order of changes (R57 to R64). -/
namespace Sys2Proof.Machine

/-! ### The earliest index (R57) -/

/-- A quotient rounded up is the lowest integer whose product with the divisor reaches the dividend. -/
theorem cdivI_le_iff {a b k : Int} (hb : 0 < b) : cdivI a b ≤ k ↔ a ≤ k * b := by
  have floor : -k ≤ Int.fdiv (-a) b ↔ -k * b ≤ -a := by
    rw [Int.fdiv_eq_ediv_of_nonneg _ hb.le]
    exact Int.le_ediv_iff_mul_le hb
  rw [Int.neg_mul] at floor
  unfold cdivI
  omega

theorem State.q_pos (s : State) : 0 < s.q := Nat.two_pow_pos s.logQ

/-- Settles O25: a quantum is ready late enough when its number reaches the quotient that the earliest index rounds up. -/
theorem earliestIndex : Obligations.EarliestIndex := by
  unfold Obligations.EarliestIndex
  intro s ready
  have period : (0 : Int) < s.q * (10 ^ 9 * nsUnit) := by
    have := s.q_pos
    unfold nsUnit
    positivity
  have ready_iff (j : Int) : ready j ↔
      cdivI ((s.time - s.tu.origin * nsUnit + 25000 * nsUnit) * s.fs - (s.q + 1) * (10 ^ 9 * nsUnit)) (s.q * (10 ^ 9 * nsUnit)) ≤ j := by
    have regrouped : (j * s.q + s.q + 1) * (10 ^ 9 * nsUnit) = j * (s.q * (10 ^ 9 * nsUnit)) + (s.q + 1) * (10 ^ 9 * nsUnit) := by ring
    rw [cdivI_le_iff period, sub_le_iff_le_add, ← regrouped]
  exact ⟨_, rfl, (ready_iff _).2 le_rfl, fun j => (ready_iff j).1⟩

/-! ### The selected index (R58, R59) -/

theorem applyDelta_eq (a : Word) (e : Int) : (applyDelta a e : Int) = ((a.toNat : Int) - e) % 2 ^ 32 := by
  simp only [applyDelta, lo32, BitVec.toNat_sub, BitVec.toNat_ofInt]
  omega

theorem selectFrom_of_ne_zero {a : Word} (e : Int) (ha : a ≠ 0) :
    selectFrom a e = if applyDelta a e < 2 ^ 31 then some (e + applyDelta a e) else none := if_neg ha

section
variable {c : CmdSpec} (p : Packet) (s : State) (timed : c.timing ≠ .untimed)
include timed

theorem CmdSpec.index_of_selected {i : Int} (selected : selectFrom p.apply (s.earliestFor c.pair + c.lead) = some i) :
    c.index p s = .ok i := by
  unfold CmdSpec.index
  split
  · next untimed => exact absurd untimed timed
  · rw [selected]

theorem CmdSpec.index_of_none_selected (late : selectFrom p.apply (s.earliestFor c.pair + c.lead) = none) :
    c.index p s = .error lateDeny := by
  unfold CmdSpec.index
  split
  · next untimed => exact absurd untimed timed
  · rw [late]

end

/-- Settles O26: Δ is the difference of the apply time and E as a 32-bit word, and a timed command's index is the one selected. -/
theorem selectedIndex : Obligations.SelectedIndex := by
  unfold Obligations.SelectedIndex
  refine ⟨fun a e ha => ?_, fun e => rfl, fun c p s timed => ⟨fun i => CmdSpec.index_of_selected p s timed, fun late before => ?_⟩⟩
  · intro d
    have delta : (applyDelta a e : Int) = d := applyDelta_eq a e
    rw [selectFrom_of_ne_zero e ha, delta]
    exact ⟨fun near => if_pos (by omega), fun far => if_neg (by omega)⟩
  · simp only [CmdSpec.late, before, CmdSpec.index_of_none_selected p s timed late, lateDeny]

/-! ### The order of changes (R62) -/

section
variable (s : State)

/-- Where a change stands in the order of R62: its index, then quantum-exact first, then its order of acceptance. -/
def State.changeRank (c : Change) : Int ×ₗ Bool ×ₗ Nat := toLex (s.effIndex c, toLex (!c.quantum, c.order))

theorem State.changeRank_le_iff (a b : Change) : s.changeRank a ≤ s.changeRank b ↔
    s.effIndex a < s.effIndex b ∨ (s.effIndex a = s.effIndex b ∧
      ((a.quantum = true ∧ b.quantum = false) ∨ (a.quantum = b.quantum ∧ a.order ≤ b.order))) := by
  simp only [State.changeRank, Prod.Lex.toLex_le_toLex]
  cases a.quantum <;> cases b.quantum <;> simp

theorem State.changeBefore_iff (a b : Change) : s.changeBefore a b = true ↔ s.changeRank a ≤ s.changeRank b := by
  simp [State.changeBefore, s.changeRank_le_iff]

/-- The earlier of the change found so far and the next one. -/
def State.earlierChange (found : Option Change) (c : Change) : Option Change :=
  match found with
  | none => some c
  | some x => if s.changeBefore c x then some c else some x

theorem State.firstChange_eq_foldl (ok : Change → Bool) : s.firstChange ok = (s.changes.filter ok).foldl s.earlierChange none := rfl

/-- Of two changes the earlier one is kept. -/
theorem State.earlierChange_some (x c : Change) :
    ∃ y, s.earlierChange (some x) c = some y ∧ (y = x ∨ y = c) ∧ s.changeRank y ≤ s.changeRank x ∧ s.changeRank y ≤ s.changeRank c := by
  unfold State.earlierChange
  by_cases before : s.changeBefore c x = true
  · exact ⟨c, if_pos before, .inr rfl, (s.changeBefore_iff c x).1 before, le_rfl⟩
  · exact ⟨x, if_neg before, .inl rfl, le_rfl, (le_total _ _).resolve_right (before ∘ (s.changeBefore_iff c x).2)⟩

/-- Going through a list leaves one of its changes, and none before it. -/
theorem State.foldl_earlierChange (l : List Change) (x : Change) :
    ∃ c, l.foldl s.earlierChange (some x) = some c ∧ c ∈ x :: l ∧ ∀ y ∈ x :: l, s.changeRank c ≤ s.changeRank y := by
  induction l generalizing x with
  | nil => exact ⟨x, rfl, List.mem_singleton_self x, fun y hy => (congrArg s.changeRank (List.mem_singleton.1 hy)).ge⟩
  | cons z l ih =>
    obtain ⟨y, kept, which, le_x, le_z⟩ := s.earlierChange_some x z
    obtain ⟨c, found, mem, least⟩ := ih y
    refine ⟨c, by rw [List.foldl_cons, kept, found], ?_, ?_⟩
    · obtain rfl | rfl := which <;> grind
    · have le_y := least y List.mem_cons_self
      simp only [List.forall_mem_cons]
      exact ⟨le_y.trans le_x, le_y.trans le_z, fun w hw => least w (List.mem_cons_of_mem _ hw)⟩

/-- The change taken first is one that the test admits, and no other that it admits comes before it. -/
theorem State.firstChange_least {ok : Change → Bool} {c : Change} (first : s.firstChange ok = some c) :
    c ∈ s.changes.filter ok ∧ ∀ x ∈ s.changes.filter ok, s.changeRank c ≤ s.changeRank x := by
  rw [s.firstChange_eq_foldl] at first
  generalize s.changes.filter ok = l at *
  cases l with
  | nil => exact absurd first (Option.some_ne_none c).symm
  | cons x l =>
    obtain ⟨d, found, mem, least⟩ := s.foldl_earlierChange l x
    obtain rfl : d = c := Option.some_inj.1 (found.symm.trans first)
    exact ⟨mem, least⟩

end

/-- Settles O27: R62 is the order of ranks, and the change taken first has the least rank of those admitted. -/
theorem changesInOrder : Obligations.ChangesInOrder := by
  unfold Obligations.ChangesInOrder
  intro s ok c first
  obtain ⟨taken, least⟩ := s.firstChange_least first
  obtain ⟨waits, admitted⟩ := List.mem_filter.1 taken
  exact ⟨waits, admitted, fun x hx ok_x => (s.changeRank_le_iff c x).1 (least x (List.mem_filter.2 ⟨hx, ok_x⟩))⟩

end Sys2Proof.Machine
end

section
/-! SUPPORT. Commands that report (R74, R120, R187, R313, R369, R402, R442 to R444, R461, R464, R466, R567): each from what its acceptance gives. -/
namespace Sys2Proof.Machine
open Sys2Proof.Safety

/-- A command reports when its acceptance leaves the state and gives the words. -/
theorem reports_holds {row : Nat → Packet → Instr} {spec : CmdSpec} {words : Packet → State → List Word}
    (hr : ∀ t p s, exec (row t p) s = runRow spec t p s) (ha : ∀ p u i, spec.act p u i none = { s := u, words := words p u }) :
    (reports row spec words).Holds :=
  Command.holds_of_act _ hr ha

theorem pingDoes_holds : pingDoes.Holds := reports_holds exec_ping fun _ _ _ => rfl

theorem getInfoDoes_holds : getInfoDoes.Holds := reports_holds exec_getInfo fun _ _ _ => rfl

theorem getStatusDoes_holds : getStatusDoes.Holds := Command.holds_of_act _ exec_getStatus fun _ _ _ => rfl

theorem graphQueryCostDoes_holds : graphQueryCostDoes.Holds := reports_holds exec_graphQueryCost fun _ _ _ => rfl

theorem pathLatencyDoes_holds : pathLatencyDoes.Holds := reports_holds exec_pathLatency fun _ _ _ => rfl

/-- The reply describes the object that HANDLE names, if there is one. -/
theorem objectQueryDoes_holds : objectQueryDoes.Holds :=
  reports_holds exec_objectQuery fun p u i => by
    simp only [objectQuerySpec]
    cases u.objNamed p with
    | none => rfl
    | some x => rfl

theorem timeQueryDoes_holds : timeQueryDoes.Holds := reports_holds exec_timeQuery fun _ _ _ => rfl

theorem twinStatusDoes_holds : twinStatusDoes.Holds := reports_holds exec_twinStatus fun _ _ _ => rfl

theorem keepReadDoes_holds : keepReadDoes.Holds := reports_holds exec_keepRead fun _ _ _ => rfl

theorem eventReadDoes_holds : eventReadDoes.Holds := Command.holds_of_act _ exec_eventRead fun _ _ _ => rfl

theorem zenTopologyDoes_holds : zenTopologyDoes.Holds := reports_holds exec_zenTopology fun _ _ _ => rfl

/-- The reply describes the convolution operation of the graph in force, if it has one under the number asked for. -/
theorem convQueryDoes_holds : convQueryDoes.Holds :=
  reports_holds exec_convQuery fun p u i => by
    simp only [convQuerySpec]
    cases (u.graphAt u.index).convOp (fld (p.w 4) 13 0) with
    | none => rfl
    | some o => rfl

theorem counterReadDoes_holds : counterReadDoes.Holds := Command.holds_of_act _ exec_counterRead fun _ _ _ => rfl

/-- Settles O34, command by command: only OBJECT_QUERY and CONV_QUERY look first for what they are to describe. -/
theorem queriesReport : Obligations.QueriesReport := by
  unfold Obligations.QueriesReport
  simp only [List.forall_mem_cons]
  exact ⟨pingDoes_holds, getInfoDoes_holds, getStatusDoes_holds, graphQueryCostDoes_holds, pathLatencyDoes_holds, objectQueryDoes_holds,
    timeQueryDoes_holds, twinStatusDoes_holds, keepReadDoes_holds, eventReadDoes_holds, zenTopologyDoes_holds, convQueryDoes_holds,
    counterReadDoes_holds, List.forall_mem_nil _⟩

end Sys2Proof.Machine
end

section
/-! SUPPORT. Timed commands whose acceptance enters a change (R60, R63, R86, R269, R342, R352, Table 02-5). -/
namespace Sys2Proof.Machine
open Sys2Proof.Safety

/-- The acceptance of a timed command with no work of its own is the wait of its change. -/
theorem enqueueAct_eq_waits (op : Nat) (quantum : Bool) (p : Packet) (u : State) (i : Int) (data : List Int) :
    enqueueAct op quantum p u i data = { s := waits op quantum p u i data } := rfl

/-- A command enters its change and does nothing else when that is its acceptance. -/
theorem entersChange_holds {row : Nat → Packet → Instr} {spec : CmdSpec} {op : Nat} {quantum : Bool}
    (hr : ∀ t p s, exec (row t p) s = runRow spec t p s) (ha : ∀ p u i, spec.act p u i none = enqueueAct op quantum p u i) :
    (entersChange row spec op quantum).Holds :=
  Command.holds_of_act _ hr fun p u i => (ha p u i).trans (enqueueAct_eq_waits op quantum p u i [])

theorem sampleExact_hold : ∀ c ∈ sampleExact, c.Holds := by
  unfold sampleExact
  simp only [List.forall_mem_cons]
  exact ⟨entersChange_holds exec_objectParams fun _ _ _ => rfl, entersChange_holds exec_zoneMask fun _ _ _ => rfl,
    entersChange_holds exec_soundSpeed fun _ _ _ => rfl, entersChange_holds exec_routeSet fun _ _ _ => rfl,
    entersChange_holds exec_routeClear fun _ _ _ => rfl, entersChange_holds exec_xpointSet fun _ _ _ => rfl,
    entersChange_holds exec_xpointBlock fun _ _ _ => rfl, entersChange_holds exec_gainSet fun _ _ _ => rfl,
    entersChange_holds exec_fadeParams fun _ _ _ => rfl, entersChange_holds exec_dikeConfig fun _ _ _ => rfl,
    entersChange_holds exec_outputMute fun _ _ _ => rfl, entersChange_holds exec_ditherConfig fun _ _ _ => rfl,
    entersChange_holds exec_outputDelay fun _ _ _ => rfl, List.forall_mem_nil _⟩

/-- Settles O39: none of the thirteen does anything at its acceptance but wait. -/
theorem sampleExactCommandsWait : Obligations.SampleExactCommandsWait := sampleExact_hold

theorem quantumExact_hold : ∀ c ∈ quantumExact, c.Holds := by
  unfold quantumExact
  simp only [List.forall_mem_cons]
  exact ⟨entersChange_holds exec_startProcessing fun _ _ _ => rfl, entersChange_holds exec_stopProcessing fun _ _ _ => rfl,
    entersChange_holds exec_opCancel fun _ _ _ => rfl, entersChange_holds exec_layoutLoad fun _ _ _ => rfl,
    entersChange_holds exec_meshLoad fun _ _ _ => rfl, entersChange_holds exec_busCreate fun _ _ _ => rfl,
    entersChange_holds exec_tapConfig fun _ _ _ => rfl, entersChange_holds exec_streamRxAdd fun _ _ _ => rfl,
    entersChange_holds exec_streamRemove fun _ _ _ => rfl, entersChange_holds exec_zenDrop fun _ _ _ => rfl,
    entersChange_holds exec_zenInsert fun _ _ _ => rfl, List.forall_mem_nil _⟩

/-- Whether the object is released or created, one change waits; only a creation takes a handle. -/
theorem objectCreateDoes_holds : objectCreateDoes.Holds := Command.holds_of_act _ exec_objectCreate fun _ _ _ => rfl

/-- The stream's SSRC is a free value or the one asked for; either goes with the change. -/
theorem streamTxAddDoes_holds : streamTxAddDoes.Holds :=
  Command.holds_of_act _ exec_streamTxAdd fun p u i => by
    simp only [streamTxAddSpec, streamTxAddDoes, enqueueAct_eq_waits]
    by_cases chosen : p.w 8 = 0
    · simp only [chosen, if_true]
    · simp only [chosen, if_false]

theorem zenMapDoes_holds : zenMapDoes.Holds := Command.holds_of_act _ exec_zenMap fun _ _ _ => rfl

/-- The groups that will stop are fixed at acceptance: the model's choice (log entry 47). -/
theorem sapStopDoes_holds : sapStopDoes.Holds := Command.holds_of_act _ exec_sapStop fun _ _ _ => rfl

/-- Settles O40: eleven commands only wait, and four also give words or fix what their change will need. -/
theorem quantumExactCommandsWait : Obligations.QuantumExactCommandsWait := by
  unfold Obligations.QuantumExactCommandsWait
  simp only [List.forall_mem_append, List.forall_mem_cons]
  exact ⟨quantumExact_hold, objectCreateDoes_holds, streamTxAddDoes_holds, zenMapDoes_holds, sapStopDoes_holds, List.forall_mem_nil _⟩

end Sys2Proof.Machine
end

section
/-! SUPPORT. Commands of the build area, of trajectories and of filters (R51 to R53, R90 to R95, R170 to R175, R179). -/
namespace Sys2Proof.Machine
open Sys2Proof.Safety

theorem graphBeginDoes_holds : graphBeginDoes.Holds := Command.holds_of_act _ exec_graphBegin fun _ _ _ => rfl

theorem graphAddOpDoes_holds : graphAddOpDoes.Holds := Command.holds_of_act _ exec_graphAddOp fun _ _ _ => rfl

theorem graphConnectDoes_holds : graphConnectDoes.Holds := Command.holds_of_act _ exec_graphConnect fun _ _ _ => rfl

/-- The graph waits for its boundary while RUNNING, and is in force at once otherwise. -/
theorem graphCommitDoes_holds : graphCommitDoes.Holds := Command.holds_of_act _ exec_graphCommit fun _ _ _ => rfl

/-- The segments enter the queue of an object that is there, if they can; whether any is late decides what is counted and logged. -/
theorem trajAppendDoes_holds : trajAppendDoes.Holds := Command.holds_of_act _ exec_trajAppend fun _ _ _ => rfl

theorem trajFlushDoes_holds : trajFlushDoes.Holds := Command.holds_of_act _ exec_trajFlush fun _ _ _ => rfl

theorem filterLoadBeginDoes_holds : filterLoadBeginDoes.Holds := Command.holds_of_act _ exec_filterLoadBegin fun _ _ _ => rfl

theorem filterLoadDataDoes_holds : filterLoadDataDoes.Holds := Command.holds_of_act _ exec_filterLoadData fun _ _ _ => rfl

theorem filterLoadEndDoes_holds : filterLoadEndDoes.Holds := Command.holds_of_act _ exec_filterLoadEnd fun _ _ _ => rfl

/-- In READY the filter is in force at once; else the change waits while the incoming filter runs along. -/
theorem filterSwapDoes_holds : filterSwapDoes.Holds := Command.holds_of_act _ exec_filterSwap fun _ _ _ => rfl

/-- Settles O36, command by command: whether the graph or the filter waits, and whether its object or slot is there, the acceptance decides alike. -/
theorem graphAndObjectCommandsAct : Obligations.GraphAndObjectCommandsAct := by
  unfold Obligations.GraphAndObjectCommandsAct
  simp only [List.forall_mem_cons]
  exact ⟨graphBeginDoes_holds, graphAddOpDoes_holds, graphConnectDoes_holds, graphCommitDoes_holds, trajAppendDoes_holds,
    trajFlushDoes_holds, filterLoadBeginDoes_holds, filterLoadDataDoes_holds, filterLoadEndDoes_holds, filterSwapDoes_holds,
    List.forall_mem_nil _⟩

end Sys2Proof.Machine
end

section
/-! SUPPORT. Time sources, steps of device time and clocks: what each event does in each case of the state (R36, R294 to R310, R445,
R522), and the rows. -/
namespace Sys2Proof.Machine
open Sys2Proof.Safety

/-! ### Sources and steps -/

theorem ppsInEdge_of_selected {s : State} (pps : s.tu.source = .pps) : ppsInEdge s = pulseMeasures.effect s := if_pos pps

theorem ppsInEdge_of_other {s : State} (other : s.tu.source ≠ .pps) : ppsInEdge s = pulseStamped.effect s := if_neg other

theorem clockBlock_of_selected {s : State} {key : Nat} (clock : s.tu.source = .wclk ∨ s.tu.source = .mclk) (input : s.tu.clockKey = key) :
    clockBlock key s = (blockMeasures key).effect s := by
  have acts : ((decide (s.tu.source = .wclk) || decide (s.tu.source = .mclk)) && decide (s.tu.clockKey = key)) = true := by
    simp [clock, input]
  exact if_pos acts

/-- Without a step that waits, a source event acts at once (R300). -/
theorem State.sourceEvent_of_no_step {s : State} (e : SourceEvent) (noStep : s.tu.servo.step = none) : s.sourceEvent e = s.sourceAct e :=
  if_neg (by simp [noStep])

/-- While a step waits for its boundary, a source event waits with it (R300). -/
theorem State.sourceEvent_of_step {s : State} (e : SourceEvent) (step : s.tu.servo.step ≠ none) :
    s.sourceEvent e = s.updServo fun v => { v with waiting := v.waiting ++ [e] } :=
  if_pos (Option.isSome_iff_ne_none.2 step)

theorem timeSourceLost_of_due {s : State} (due : s.sourceLostDue = true) : timeSourceLost s = s.sourceEvent .lost := if_pos due

/-- A step with no source events behind it is taken at its boundary. -/
theorem timeStepApply_of_alone {s : State} {st : PendingStep} (step : s.tu.servo.step = some st) (alone : s.tu.servo.waiting = [])
    (reached : st.boundary ≤ s.index) :
    timeStepApply s = (s.updServo fun v => { v with step := none, waiting := [], lastAt := none }).stepNow st.delta := by
  simp only [timeStepApply, step, alone, reached, if_true, List.map_nil, List.foldl_nil]

/-- The labels of the samples under way move with the step (R36). -/
theorem timeStepRow_of_reached {s : State} {st : PendingStep} (step : s.tu.servo.step = some st) (reached : st.boundary ≤ s.index) :
    timeStepRow s = (timeStepApply s).relabelled st.boundary (s.quantaOf st.delta * s.q) := by
  simp only [timeStepRow, step, reached, if_true]

/-! ### REFCLK, PLLs and outputs -/

theorem refclkLost_of_there {s : State} (there : s.tu.refLost = false) : refclkLost s = referenceLost.effect s :=
  if_neg (by simp [there])

theorem refclkReturn_of_lost {s : State} (lost : s.tu.refLost = true) : refclkReturn s = referenceBack.effect s := if_pos lost

section
variable {s : State} {p : Nat}

theorem pllLockLoss_of_no_domain (locked : s.tu.locks.getD p false = true) (alone : pllDomain p = none) : pllLockLoss p s = lockFalls p s := by
  simp only [pllLockLoss, locked, alone, Bool.not_true, Bool.false_eq_true, if_false, lockFalls]

theorem pllLockLoss_of_domain {d : Nat} (lost : (pllLost p d).guard s) : pllLockLoss p s = (pllLost p d).effect s := by
  obtain ⟨locked, domain, notControl, new⟩ := lost
  unfold pllLockLoss
  rw [locked, domain]
  exact ((if_neg Bool.false_ne_true).trans (if_neg (ne_true_of_eq_false new))).trans (if_neg notControl)

end

theorem wclkOutModeSwitch_of_reached {s : State} {m : Nat} {i : Int} (next : s.tu.wclkNext = some (m, i)) (reached : i ≤ s.index) :
    wclkOutModeSwitch s = (wordClockSwitches m i).effect s := by
  simp only [wclkOutModeSwitch, next, reached, if_true]

/-- The settings of PPS_OUT from the next second on are the pending ones, else those in force. -/
theorem ppsNext_elim_eq {u : TimeUnit} {on : Bool} {width : Nat} (settings : u.ppsNext.getD (u.ppsEnable, u.ppsWidth) = (on, width)) :
    u.ppsNext.elim u.ppsEnable Prod.fst = on ∧ u.ppsNext.elim u.ppsWidth Prod.snd = width := by
  cases pending : u.ppsNext with
  | none => simpa [pending] using settings
  | some x =>
    obtain rfl : x = (on, width) := by simpa [pending] using settings
    exact ⟨rfl, rfl⟩

section
variable {s : State} {on : Bool} {width : Nat} (later : s.tu.ppsSecond < Int.fdiv s.ns (10 ^ 9))
  (settings : s.tu.ppsNext.getD (s.tu.ppsEnable, s.tu.ppsWidth) = (on, width))
include later settings

theorem ppsOutSecond_of_valid_time (valid : s.tu.servo.state ≠ .free ∨ s.tu.servo.everAccepted = true) :
    ppsOutSecond s = (secondPulses on width).effect s := by
  obtain ⟨enable, wide⟩ := ppsNext_elim_eq settings
  have loud : (decide (s.tu.servo.state = .free) && !s.tu.servo.everAccepted) = false := by
    obtain steered | accepted := valid
    · simp [steered]
    · simp [accepted]
  simp only [ppsOutSecond, later.not_ge, enable, wide, loud, Bool.not_false, Bool.and_true, if_false]

theorem ppsOutSecond_of_free (free : s.tu.servo.state = .free) (never : s.tu.servo.everAccepted = false) :
    ppsOutSecond s = (secondSilent on width).effect s := by
  obtain ⟨enable, wide⟩ := ppsNext_elim_eq settings
  simp only [ppsOutSecond, later.not_ge, enable, wide, free, never, decide_true, Bool.not_false, Bool.and_self, Bool.not_true, Bool.and_false,
    Bool.false_eq_true, if_false]

end

/-! ### The rows -/

theorem pulseMeasures_holds : pulseMeasures.Holds :=
  Rule.holds_of_event _ ppsInEdge exec_ppsInEdge fun _ pps => ppsInEdge_of_selected pps

theorem pulseStamped_holds : pulseStamped.Holds :=
  Rule.holds_of_event _ ppsInEdge exec_ppsInEdge fun _ other => ppsInEdge_of_other other

theorem blockMeasures_holds (key : Nat) : (blockMeasures key).Holds :=
  Rule.holds_of_event _ (clockBlock key) (fun t s => exec_clockBlockMeasure t key s) fun _ ⟨clock, input⟩ => clockBlock_of_selected clock input

theorem sourceLost_holds : sourceLost.Holds :=
  Rule.holds_of_event _ timeSourceLost exec_timeSourceLost fun _ ⟨due, noStep⟩ =>
    (timeSourceLost_of_due due).trans (State.sourceEvent_of_no_step .lost noStep)

theorem sourceLossWaits_holds : sourceLossWaits.Holds :=
  Rule.holds_of_event _ timeSourceLost exec_timeSourceLost fun _ ⟨due, step⟩ =>
    (timeSourceLost_of_due due).trans (State.sourceEvent_of_step .lost step)

theorem stepTaken_holds (st : PendingStep) : (stepTaken st).Holds :=
  Rule.holds_of_event _ timeStepRow exec_timeStepApply fun _ ⟨step, alone, reached⟩ => by
    rw [timeStepRow_of_reached step reached, timeStepApply_of_alone step alone reached]

theorem referenceLost_holds : referenceLost.Holds :=
  Rule.holds_of_event _ refclkLost exec_refclkLost fun _ there => refclkLost_of_there there

theorem referenceBack_holds : referenceBack.Holds :=
  Rule.holds_of_event _ refclkReturn exec_refclkReturn fun _ lost => refclkReturn_of_lost lost

theorem counterPllLost_holds (p : Nat) : (counterPllLost p).Holds :=
  Rule.holds_of_event _ (pllLockLoss p) (fun t s => exec_pllLockLoss t p s) fun _ ⟨locked, alone⟩ => pllLockLoss_of_no_domain locked alone

theorem pllLost_holds (p d : Nat) : (pllLost p d).Holds :=
  Rule.holds_of_event _ (pllLockLoss p) (fun t s => exec_pllLockLoss t p s) fun _ lost => pllLockLoss_of_domain lost

theorem wordClockSwitches_holds (m : Nat) (i : Int) : (wordClockSwitches m i).Holds :=
  Rule.holds_of_event _ wclkOutModeSwitch exec_wclkOutModeSwitch fun _ ⟨next, reached⟩ => wclkOutModeSwitch_of_reached next reached

theorem secondPulses_holds (on : Bool) (width : Nat) : (secondPulses on width).Holds :=
  Rule.holds_of_event _ ppsOutSecond exec_ppsOutSecond fun _ ⟨later, settings, valid⟩ => ppsOutSecond_of_valid_time later settings valid

theorem secondSilent_holds (on : Bool) (width : Nat) : (secondSilent on width).Holds :=
  Rule.holds_of_event _ ppsOutSecond exec_ppsOutSecond fun _ ⟨later, settings, free, never⟩ => ppsOutSecond_of_free later settings free never

/-- Settles O48, row by row, each under the condition on its source, its step, its clock or its second. -/
theorem timeAndClocksMove : Obligations.TimeAndClocksMove :=
  ⟨pulseMeasures_holds, pulseStamped_holds, blockMeasures_holds, sourceLost_holds, sourceLossWaits_holds, stepTaken_holds,
    referenceLost_holds, referenceBack_holds, counterPllLost_holds, pllLost_holds, wordClockSwitches_holds, secondPulses_holds,
    secondSilent_holds⟩

end Sys2Proof.Machine
end

section
/-! SUPPORT. Rounding, ramps and crossfades: gains at each index, and the Sluice's routes as they change (R132 to R141, R210). -/
namespace Sys2Proof.Machine

/-! ### Rounding half to even (R210) -/

section
variable {a b : Int} (hb : 0 < b)
include hb

theorem rhe_nearest : 2 * |rhe a b * b - a| ≤ b ∧ (2 * |rhe a b * b - a| = b → rhe a b % 2 = 0) := by
  have low := Int.emod_nonneg a hb.ne'
  have high := Int.emod_lt_of_pos a hb
  have remainder : a - a / b * b = a % b := by rw [Int.emod_def, mul_comm]
  simp only [rhe, Int.fdiv_eq_ediv_of_nonneg _ hb.le, remainder]
  split_ifs <;> grind

/-- No two integers that are nearest to a quotient lie more than 1 apart. -/
theorem le_add_one_of_nearest {r r' : Int} (near : 2 * |r * b - a| ≤ b) (near' : 2 * |r' * b - a| ≤ b) : r ≤ r' + 1 := by
  refine le_of_mul_le_mul_right ?_ hb
  grind

/-- Rounding half to even gives the one integer that is nearest, and even where two are. -/
theorem rhe_eq_iff {r : Int} : rhe a b = r ↔ 2 * |r * b - a| ≤ b ∧ (2 * |r * b - a| = b → r % 2 = 0) := by
  obtain ⟨near', even'⟩ := rhe_nearest (a := a) hb
  constructor
  · rintro rfl
    exact ⟨near', even'⟩
  · rintro ⟨near, even⟩
    have le := le_add_one_of_nearest hb near near'
    have ge := le_add_one_of_nearest hb near' near
    obtain same | above | below : rhe a b = r ∨ rhe a b = r + 1 ∨ r = rhe a b + 1 := by omega
    · exact same
    · rw [above] at near' even'
      grind
    · rw [below] at near even
      grind

theorem rhe_mul_self (k : Int) : rhe (k * b) b = k := (rhe_eq_iff hb).2 ⟨by simpa using hb.le, by simp [hb.ne]⟩

/-- Rounding half to even is symmetric about the half of an even integer. -/
theorem rhe_mul_sub {k : Int} (even : k % 2 = 0) : rhe (k * b - a) b = k - rhe a b := by
  obtain ⟨near, tie⟩ := rhe_nearest (a := a) hb
  have mirrored : |(k - rhe a b) * b - (k * b - a)| = |rhe a b * b - a| := by
    rw [← abs_neg]
    ring_nf
  rw [rhe_eq_iff hb, mirrored]
  exact ⟨near, fun half => by have := tie half; omega⟩

theorem rhe_nonneg (ha : 0 ≤ a) : 0 ≤ rhe a b := by
  have near := (rhe_nearest (a := a) hb).1
  by_contra! neg
  have : rhe a b * b ≤ -1 * b := mul_le_mul_of_nonneg_right (by omega) hb.le
  grind

end

/-! ### Gain ramps (R141) -/

/-- Ramps that start at n or later say nothing about the indices before n. -/
theorem Track.at_filter_before (t : Track) (d : Int) {m n : Int} (hm : m < n) :
    Track.at_ (t.filter fun r => decide (r.start < n)) d m = Track.at_ t d m := by
  induction t with
  | nil => rfl
  | cons r t ih =>
    by_cases kept : r.start < n
    · simp [kept, Track.at_, ih]
    · have later : ¬ r.start ≤ m := by omega
      simp [kept, Track.at_, later, ih]

section
variable (t : Track) (d n : Int) (len : Nat) (g1 : Int)

theorem Track.at_push_before {m : Int} (hm : m < n) : Track.at_ (t.push d n len g1) d m = Track.at_ t d m := by
  have later : ¬ n ≤ m := by omega
  simp only [Track.push, Track.at_, later, if_false]
  exact t.at_filter_before d hm

/-- From its index on a pushed change is the ramp from the gain in force just before. -/
theorem Track.at_push_from {m : Int} (hm : n ≤ m) :
    Track.at_ (t.push d n len g1) d m = Ramp.at_ ⟨n, len, Track.at_ t d (n - 1), g1⟩ m := by
  simp only [Track.push, Track.at_, hm, if_true, t.at_filter_before d (show n - 1 < n by omega)]

end

theorem Ramp.at_of_lt (r : Ramp) {j : Nat} (hj : j < r.len) : r.at_ (r.start + j) = r.g0 + rhe ((r.g1 - r.g0) * (j + 1)) r.len := by
  have running : r.start + (j : Int) < r.start + r.len := by omega
  simp [Ramp.at_, running]

/-- A ramp is at its target from its last sample on. -/
theorem Ramp.at_of_ge (r : Ramp) {m : Int} (hs : r.start ≤ m) (hm : r.start + r.len - 1 ≤ m) : r.at_ m = r.g1 := by
  unfold Ramp.at_
  split
  · next running =>
    have last : m - r.start + 1 = r.len := by omega
    rw [last, rhe_mul_self (by omega)]
    omega
  · rfl

/-- Settles O28: before n the older ramps answer, from n on the pushed one, which is at its target from its last sample on. -/
theorem gainRamps : Obligations.GainRamps := by
  unfold Obligations.GainRamps
  intro t d n g1 len
  refine ⟨fun j hj => ?_, fun m last from_n => ?_, fun m before => t.at_push_before d n len g1 before⟩
  · rw [t.at_push_from d n len g1 (by omega)]
    exact Ramp.at_of_lt _ hj
  · rw [t.at_push_from d n len g1 from_n]
    exact Ramp.at_of_ge _ from_n last

/-! ### Weights of linear crossfades (R135) -/

/-- The incoming weight of a linear crossfade. -/
def linearIn (len j : Nat) : Int := rhe ((2 * j + 1) * 2 ^ 30) (2 * len)

theorem fadeWeights_linear (len j : Nat) : fadeWeights .linear len j = (linearIn len j, 2 ^ 30 - linearIn len j) := rfl

section
variable {len j : Nat} (hj : j < len)
include hj

theorem linearIn_nonneg : 0 ≤ linearIn len j := rhe_nonneg (by omega) (by positivity)

/-- Counted from the end of the crossfade, the positions are 1 − u, and so are the weights. -/
theorem linearIn_mirror : linearIn len (len - 1 - j) = 2 ^ 30 - linearIn len j := by
  have positions : (2 * ((len - 1 - j : Nat) : Int) + 1) * 2 ^ 30 = 2 ^ 30 * (2 * len) - (2 * j + 1) * 2 ^ 30 := by omega
  unfold linearIn
  rw [positions]
  exact rhe_mul_sub (by omega) (by decide)

end

/-- Settles O29: the outgoing weight is by definition what is left of 1, and by symmetry the incoming weight at the mirrored position. -/
theorem linearFadesAreSymmetric : Obligations.LinearFadesAreSymmetric := by
  unfold Obligations.LinearFadesAreSymmetric
  intro len j hj
  have mirror := linearIn_mirror hj
  have mirror_nonneg := linearIn_nonneg (show len - 1 - j < len by omega)
  simp only [fadeWeights_linear, mirror]
  exact ⟨rfl, by omega, linearIn_nonneg hj, by omega, by simp⟩

/-! ### Routes (R132 to R136) -/

/-- A signal onto which a crossfade is laid: the signal before it starts, the mix while it runs, the incoming side after it (R136, R137). -/
def Fade.over (f : Fade (Option RouteSide)) (y n : Int) (samples : Nat → Int) : Int :=
  if n < f.start then y
  else if n < f.start + f.len then fadeMix y (sideTerm f.incoming n samples) (fadeWeights f.curve f.len (n - f.start).toNat)
  else sideTerm f.incoming n samples

section
variable (f : Fade (Option RouteSide)) (y : Int) (samples : Nat → Int)

theorem Fade.over_before {m : Int} (hm : m < f.start) : f.over y m samples = y := if_pos hm

theorem Fade.over_during {j : Nat} (hj : j < f.len) :
    f.over y (f.start + j) samples = fadeMix y (sideTerm f.incoming (f.start + j) samples) (fadeWeights f.curve f.len j) := by
  simp [Fade.over, hj]

theorem Fade.over_after {m : Int} (hm : f.start + f.len ≤ m) : f.over y m samples = sideTerm f.incoming m samples := by
  have started : ¬ m < f.start := by omega
  simp [Fade.over, started, hm.not_gt]

end

/-- A crossfade is laid onto what the sink gives without the changes at or after its start. -/
theorem Sink.value_fadeTo (k : Sink) (f : Fade (Option RouteSide)) (n : Int) (samples : Nat → Int) :
    (k.fadeTo f).value n samples = f.over ((k.before f.start).value n samples) n samples := by
  simp only [Sink.value, Sink.fadeTo, List.foldl_append]
  rfl

section
variable (l : Sluice) (x : Nat) (w : Word) (n : Int)

theorem Sluice.sink_fadeSink_same (side : Option RouteSide) :
    (l.fadeSink x w n side).1.sink x = (l.sink x).fadeTo (newFade w (l.fadeLen, l.fadeCurve) n ((l.sink x).startFor n) side) :=
  AMap.getD_put_same _ _ _ _

theorem Sluice.sink_fadeSink_other (side : Option RouteSide) {y : Nat} (other : y ≠ x) : (l.fadeSink x w n side).1.sink y = l.sink y :=
  AMap.getD_put_other _ _ _ other

/-- A crossfade to a side changes nothing of the Sluice but its sinks. -/
theorem Sluice.fadeSink_frame (side : Option RouteSide) : ({ (l.fadeSink x w n side).1 with sinks := l.sinks } : Sluice) = l := rfl

/-- ROUTE_SET to a source that is not the current one, or to the current one once it is dying, starts a crossfade (R133, R149). -/
theorem Sluice.routeSet_eq_fadeSink {src : Nat} (g : Int)
    (elsewhere : ∀ r, ((l.sink x).before n).current = some r → r.src ≠ src ∨ r.dead ≠ none) :
    l.routeSet x src g w n = l.fadeSink x w n (some ⟨src, Gain.const g, none⟩) := by
  unfold Sluice.routeSet
  cases now : ((l.sink x).before n).current with
  | none => simp only [now]
  | some r =>
    have elsewhere := elsewhere r now
    simp only [now]
    exact if_neg (by grind)

/-- The crossfade to a source with a constant gain that begins where the change is due (R133, R135). -/
def Sluice.takeover (src : Nat) (g : Int) : Fade (Option RouteSide) := newFade w (l.fadeLen, l.fadeCurve) n n (some ⟨src, Gain.const g, none⟩)

/-- ROUTE_SET to another source that is not deferred lays its crossfade over the outgoing signal (R133, R136, R138). -/
theorem Sluice.value_routeSet {src : Nat} (g : Int) (samples : Nat → Int)
    (elsewhere : ∀ r, ((l.sink x).before n).current = some r → r.src ≠ src ∨ r.dead ≠ none) (prompt : (l.sink x).startFor n = n) (m : Int) :
    ((l.routeSet x src g w n).1.sink x).value m samples =
      (l.takeover w n src g).over (((l.sink x).before n).value m samples) m samples := by
  rw [l.routeSet_eq_fadeSink x w n g elsewhere, Sluice.sink_fadeSink_same, prompt]
  exact Sink.value_fadeTo _ _ _ _

end

/-- Settles O30: before, during and after the crossfade that the change lays over its sink's signal; nothing else is touched. -/
theorem routeTakesOver : Obligations.RouteTakesOver := by
  unfold Obligations.RouteTakesOver
  intro l x src g w n samples old elsewhere prompt
  have value := l.value_routeSet x w n g samples elsewhere prompt
  rw [l.routeSet_eq_fadeSink x w n g elsewhere] at value ⊢
  refine ⟨fun m before => ?_, fun j during => ?_, fun m after => ?_, fun y => l.sink_fadeSink_other x w n _, l.fadeSink_frame x w n _⟩
  · exact (value m).trans (Fade.over_before _ _ _ before)
  · exact (value _).trans (Fade.over_during _ _ _ during)
  · exact (value m).trans (Fade.over_after _ _ _ after)

end Sys2Proof.Machine
end

section
/-! SUPPORT. What reset leaves (R154, R446, R467). -/
namespace Sys2Proof.Machine

theorem State.reg_of_not_stored {s : State} {a : Nat} (none_stored : AMap.find s.regs a = none) : s.reg a = regReset a := by
  simp [State.reg, none_stored]

theorem State.chan_reset (n : Nat) : State.reset.chan n = {} := rfl

/-- Settles O2: no register is stored and no channel is kept at reset, so each reads its Reset column or is empty; the rest is read off. -/
theorem resetLeaves : Obligations.ResetLeaves := by
  unfold Obligations.ResetLeaves
  refine ⟨rfl, rfl, rfl, fun a => State.reg_of_not_stored rfl, rfl, rfl, rfl, rfl, fun n _ => ?_, rfl⟩
  simp [State.chan_reset]

end Sys2Proof.Machine
end

section
/-! SUPPORT. Saturation (R210). -/
namespace Sys2Proof.Machine

theorem clampI_eq_max_min {lo hi : Int} (nonempty : lo ≤ hi) (x : Int) : clampI lo hi x = max lo (min hi x) := by
  unfold clampI
  split_ifs with below above
  · rw [min_eq_right (below.le.trans nonempty), max_eq_left below.le]
  · rw [min_eq_left above.le, max_eq_right nonempty]
  · rw [min_eq_right (not_lt.1 above), max_eq_right (not_lt.1 below)]

theorem satBits_eq_max_min (n : Nat) (x : Int) : satBits n x = max (-2 ^ (n - 1)) (min (2 ^ (n - 1) - 1) x) := by
  have positive : (0 : Int) < 2 ^ (n - 1) := by positivity
  exact clampI_eq_max_min (by omega) x

/-- Settles O24: rounding by what the remainder of the division leaves, sat40 and sat32 as saturation to 40 and to 32 bits. -/
theorem roundingAndSaturation : Obligations.RoundingAndSaturation := by
  unfold Obligations.RoundingAndSaturation
  exact ⟨fun _ _ positive => rhe_nearest positive, fun v => ⟨satBits_eq_max_min 40 v, satBits_eq_max_min 32 v⟩⟩

end Sys2Proof.Machine
end

section
/-! SUPPORT. Port words (R260, R261): a word that a port takes fits the width in which a port of the same width sends it. -/
namespace Sys2Proof.Machine

/-- The two's-complement pattern of n bits gives an n-bit signed value. -/
theorem asSigned_bounds {n : Nat} (positive : 0 < n) (v : Nat) : -2 ^ (n - 1) ≤ asSigned n v ∧ asSigned n v < 2 ^ (n - 1) := by
  have halves : (2 : Int) ^ n = 2 * 2 ^ (n - 1) := (mul_pow_sub_one positive.ne' 2).symm
  have below : ((v % 2 ^ n : Nat) : Int) < 2 ^ n := mod_cast Nat.mod_lt v (by positivity)
  unfold asSigned
  split_ifs with low
  · have low : ((v % 2 ^ n : Nat) : Int) < 2 ^ (n - 1) := mod_cast low
    omega
  · have high : (2 : Int) ^ (n - 1) ≤ ((v % 2 ^ n : Nat) : Int) := mod_cast not_lt.1 low
    omega

section
variable {n : Nat} {x : Int} (low : -2 ^ (n - 1) ≤ x) (high : x < 2 ^ (n - 1))
include low high

theorem satBits_of_fits : satBits n x = x := by
  rw [satBits_eq_max_min, min_eq_right (by omega), max_eq_right low]

theorem overBits_of_fits : overBits n x = false := by
  simp only [overBits, low.not_gt, decide_false, Bool.false_or, decide_eq_false_iff_not]
  omega

end

section
variable {dw : Nat} (positive : 0 < dw) (narrow : dw ≤ 32)
include positive narrow

/-- A received word stands at scale 2^31, so it fits 32 bits (R260). -/
theorem rxValue_bounds (w : Word) : -2 ^ (32 - 1) ≤ rxValue dw w ∧ rxValue dw w < 2 ^ (32 - 1) := by
  obtain ⟨low, high⟩ := asSigned_bounds positive w.toNat
  have scale : (0 : Int) < 2 ^ (32 - dw) := by positivity
  have full : (2 : Int) ^ (32 - 1) = 2 ^ (dw - 1) * 2 ^ (32 - dw) := by
    rw [← pow_add]
    congr 1
    omega
  rw [full, ← neg_mul]
  exact ⟨mul_le_mul_of_nonneg_right low scale.le, mul_lt_mul_of_pos_right high scale⟩

/-- At one width the scale of reception and that of transmission cancel, and nothing is clipped (R260, R261). -/
theorem txValue_rxValue (w : Word) : txValue dw (rxValue dw w) = (asSigned dw w.toNat, false) := by
  obtain ⟨low, high⟩ := rxValue_bounds positive narrow w
  rw [txValue, satBits_of_fits low high, overBits_of_fits low high, rxValue, fdivI, Int.mul_fdiv_cancel _ (by positivity)]

end

/-- Settles O31: the three data widths are widths of at most 32 bits, at which a word comes through unchanged. -/
theorem portWordsRoundTrip : Obligations.PortWordsRoundTrip := by
  unfold Obligations.PortWordsRoundTrip
  intro dw width w
  have range : 0 < dw ∧ dw ≤ 32 := by
    simp only [List.mem_cons, List.not_mem_nil, or_false] at width
    omega
  exact txValue_rxValue range.1 range.2 w

end Sys2Proof.Machine
end

section
/-! SUPPORT. Untimed commands of the serial ports, of time and of the media network, and SAP_ARM (R255, R265 to R267, R293, R294, R299, R302,
R307, R308, R311, R318, R319, R323, R341). -/
namespace Sys2Proof.Machine
open Sys2Proof.Safety

theorem sapConfigDoes_holds : sapConfigDoes.Holds := Command.holds_of_act _ exec_sapConfig fun _ _ _ => rfl

/-- The set takes the lowest free number when no reply of the partner fixes one; a timed SAP_ARM also enters its change. -/
theorem sapArmDoes_holds : sapArmDoes.Holds := Command.holds_of_act _ exec_sapArm fun _ _ _ => rfl

theorem timeConfigDoes_holds : timeConfigDoes.Holds := Command.holds_of_act _ exec_timeConfig fun _ _ _ => rfl

theorem ptpConfigDoes_holds : ptpConfigDoes.Holds := Command.holds_of_act _ exec_ptpConfig fun _ _ _ => rfl

theorem mediaClockDoes_holds : mediaClockDoes.Holds := Command.holds_of_act _ exec_mediaClock fun _ _ _ => rfl

/-- Whether the MAC's own channel carried the packet decides when a disabled channel is reset. -/
theorem macConfigDoes_holds : macConfigDoes.Holds := Command.holds_of_act _ exec_macConfig fun _ _ _ => rfl

theorem shaperSetDoes_holds : shaperSetDoes.Holds := Command.holds_of_act _ exec_shaperSet fun _ _ _ => rfl

theorem pauseConfigDoes_holds : pauseConfigDoes.Holds := Command.holds_of_act _ exec_pauseConfig fun _ _ _ => rfl

/-- Settles O37, command by command: the acceptance of each gives its effect in every state. -/
theorem portTimeAndNetworkCommandsAct : Obligations.PortTimeAndNetworkCommandsAct := by
  unfold Obligations.PortTimeAndNetworkCommandsAct
  simp only [List.forall_mem_cons]
  exact ⟨sapConfigDoes_holds, sapArmDoes_holds, timeConfigDoes_holds, ptpConfigDoes_holds, mediaClockDoes_holds, macConfigDoes_holds,
    shaperSetDoes_holds, pauseConfigDoes_holds, List.forall_mem_nil _⟩

end Sys2Proof.Machine
end

section
/-! SUPPORT. Serial audio groups: start and stop of sets, START_IN, stopped clocks, rate checks and rejoining, each event in each case of the
state (R265 to R269, R275 to R277, R392), and the rows. -/
namespace Sys2Proof.Machine
open Sys2Proof.Safety

/-! ### Start and stop -/

theorem sapClockStart_of_armed {s : State} {g n : Nat} {y : SapSet} (inSet : (s.sapGroup g).set = some n)
    (there : AMap.find s.sap.sets n = some y) (armed : (s.sapGroup g).state = .armed) (placed : y.waiting = false) (reached : y.nc ≤ s.index) :
    sapClockStart g s = (groupQuiet g n y).effect s := by
  have found : ((s.sapGroup g).set.bind fun n => AMap.find s.sap.sets n) = some y := by rw [inSet, Option.bind_some, there]
  simp only [sapClockStart, found, armed, placed, reached, decide_true, Bool.not_false, Bool.and_self, if_true]

theorem sapDataEnable_of_clocked {s : State} {n : Nat} {y : SapSet} (there : AMap.find s.sap.sets n = some y) (placed : y.waiting = false)
    (first : y.enabled = false) (reached : y.nd ≤ s.index) (clocked : ∀ g ∈ s.setGroups n, (s.sapGroup g).state ≠ .armed) :
    sapDataEnable n s = (setRuns n y).effect s := by
  have noneArmed : ((s.setGroups n).any fun g => decide ((s.sapGroup g).state = .armed)) = false := by
    simpa only [List.any_eq_false, decide_eq_true_eq] using clocked
  simp only [sapDataEnable, there, placed, first, reached.not_gt, noneArmed, decide_false, Bool.or_self, Bool.false_eq_true, if_false]

theorem startInEdge_of_own {s : State} (own : s.twin.enabled = false ∨ s.twin.state = .active) : startInEdge s = startInStarts.effect s :=
  if_neg (by
    obtain alone | active := own
    · simp [alone]
    · simp [active])

theorem startInEdge_of_partner {s : State} (twin : s.twin.enabled = true) (partner : s.twin.state ≠ .active) : startInEdge s = s :=
  if_pos (by simp only [twin, partner, ne_eq, not_false_eq_true, decide_true, Bool.and_self])

theorem sapCloseDone_of_due {s : State} {g : Nat} (closing : (s.sapGroup g).state = .closing)
    (due : (s.sapGroup g).closeAt + (s.sapGroup g).quiet ≤ s.index) : sapCloseDone g s = s.sapOff g :=
  if_pos (by simp only [closing, due, decide_true, Bool.and_self])

/-! ### Clock conditions -/

theorem sapClockStopped_of_labelled {s : State} {g : Nat} {l : Int} (watched : (s.sapGroup g).state.watched = true)
    (label : (s.sapGroup g).label = some l) : sapClockStopped g s = (clockStops g l).effect s := by
  simp only [sapClockStopped, watched, label, Option.map_some, Option.getD_some, if_true]

/-- A check at the end of a block of 256 frames shows the deviation, and holds a group that is too far off (R275). -/
theorem sapRateCheck_of_block_end {s : State} {g : Nat} (sum : Nat) {n : Int} (label : (s.sapGroup g).label = some n)
    (watched : (s.sapGroup g).state.watched = true) (last : n % 256 = 255) :
    sapRateCheck g sum s =
      if 500 * (2048 * 10 ^ 9) < (s.blockDev sum).natAbs * 1000000 then (rateHolds g sum n).effect s else rateShown g sum s := by
  simp only [sapRateCheck, label, watched, last, ne_eq, not_true_eq_false, decide_false, Bool.not_true, Bool.or_self, Bool.false_eq_true,
    if_false, rateShown]

theorem sapRejoinStart_of_autorej {s : State} {g : Nat} (lost : (s.sapGroup g).state = .stopped ∨ (s.sapGroup g).state = .ratehold)
    (again : (s.sapGroup g).autorej = true) : sapRejoinStart g s = (rejoinStarts g).effect s :=
  if_pos (by
    obtain stopped | held := lost
    · simp [stopped, again]
    · simp [held, again])

theorem sapRejoinDone_of_reached {s : State} {g : Nat} {b : Int} (due : (s.sapGroup g).enableAt = some b)
    (rejoin : (s.sapGroup g).state = .rejoin) (reached : b ≤ s.index) : sapRejoinDone g s = (rejoinEnds g b).effect s := by
  simp only [sapRejoinDone, due, rejoin, reached, decide_true, Bool.and_self, if_true]

/-! ### The rows -/

theorem groupQuiet_holds (g n : Nat) (y : SapSet) : (groupQuiet g n y).Holds :=
  Rule.holds_of_event _ (sapClockStart g) (fun t s => exec_sapClockStart t g s) fun _ ⟨inSet, there, armed, placed, reached⟩ =>
    sapClockStart_of_armed inSet there armed placed reached

theorem setRuns_holds (n : Nat) (y : SapSet) : (setRuns n y).Holds :=
  Rule.holds_of_event _ (sapDataEnable n) (fun t s => exec_sapDataEnable t n s) fun _ ⟨there, placed, first, reached, clocked⟩ =>
    sapDataEnable_of_clocked there placed first reached clocked

theorem startInStarts_holds : startInStarts.Holds :=
  Rule.holds_of_event _ startInEdge exec_startInEdge fun _ own => startInEdge_of_own own

theorem startInIgnored_holds : startInIgnored.Holds :=
  Rule.holds_of_event _ startInEdge exec_startInEdge fun _ ⟨twin, partner⟩ => startInEdge_of_partner twin partner

theorem groupOff_holds (g : Nat) : (groupOff g).Holds :=
  Rule.holds_of_event _ (sapCloseDone g) (fun t s => exec_sapCloseDone t g s) fun _ ⟨closing, due⟩ => sapCloseDone_of_due closing due

theorem clockStops_holds (g : Nat) (l : Int) : (clockStops g l).Holds :=
  Rule.holds_of_event _ (sapClockStopped g) (fun t s => exec_sapClockStopped t g s) fun _ ⟨watched, label⟩ =>
    sapClockStopped_of_labelled watched label

theorem rateHolds_holds (g sum : Nat) (n : Int) : (rateHolds g sum n).Holds :=
  Rule.holds_of_event _ (sapRateCheck g sum) (fun t s => exec_sapRateCheck t g sum s) fun _ ⟨label, watched, last, far⟩ =>
    (sapRateCheck_of_block_end sum label watched last).trans (if_pos far)

theorem rateGood_holds (g sum : Nat) (n : Int) : (rateGood g sum n).Holds :=
  Rule.holds_of_event _ (sapRateCheck g sum) (fun t s => exec_sapRateCheck t g sum s) fun _ ⟨label, watched, last, near⟩ =>
    (sapRateCheck_of_block_end sum label watched last).trans (if_neg near.not_gt)

theorem rejoinStarts_holds (g : Nat) : (rejoinStarts g).Holds :=
  Rule.holds_of_event _ (sapRejoinStart g) (fun t s => exec_sapRejoinStart t g s) fun _ ⟨lost, again⟩ => sapRejoinStart_of_autorej lost again

theorem rejoinEnds_holds (g : Nat) (b : Int) : (rejoinEnds g b).Holds :=
  Rule.holds_of_event _ (sapRejoinDone g) (fun t s => exec_sapRejoinDone t g s) fun _ ⟨due, rejoin, reached⟩ =>
    sapRejoinDone_of_reached due rejoin reached

/-- Settles O45, row by row, each under the condition on its group, its set or the twin. -/
theorem sapGroupsStartAndStop : Obligations.SapGroupsStartAndStop :=
  ⟨groupQuiet_holds, setRuns_holds, startInStarts_holds, startInIgnored_holds, groupOff_holds, clockStops_holds, rateHolds_holds,
    rateGood_holds, rejoinStarts_holds, rejoinEnds_holds⟩

end Sys2Proof.Machine
end

section
/-! SUPPORT. Frames of the serial audio ports by the state in which they stand, and blocks of the taps (R260 to R264, R270 to R280, R284 to
R287), and the rows. -/
namespace Sys2Proof.Machine
open Sys2Proof.Safety

/-! ### Frames -/

/-- What a received frame does once it is checked, by the state in which it stands (R260, R266, R269, R276 to R278). -/
def frameOutcome (g : Nat) (f : SapFrame) (bits : List (List Bool)) (full : Nat) (u : State) : SapState → State
  | .run =>
    if (groupThen g f u).glitched then (checked g f u).substGroup g (labelOf g f u)
    else if misframed g f u then (checked g f u).zeroGroup g (labelOf g f u)
    else (frameTaken g f bits full).effect u
  | .quiet =>
    if (groupThen g f u).glitched then (checked g f u).substGroup g (labelOf g f u) else (checked g f u).zeroGroup g (labelOf g f u)
  | .closing => (checked g f u).zeroGroup g (labelOf g f u)
  | .rejoin => (checked g f u).rejoinFrame g f
  | _ => checked g f u

section
variable {g : Nat} {u : State} (ends : frameEnds g u)
include ends

theorem not_passed_over_of_frameEnds : ¬ (decide ((u.sapGroup g).state = .off) || decide (12 ≤ g)) = true := by
  obtain ⟨known, live⟩ := ends
  simp only [live, known.not_ge, decide_false, Bool.or_self, Bool.false_eq_true, not_false_eq_true]

/-- A frame that took a new label does what its state asks for. -/
theorem sapReceiveFrame_of_new_label {f : SapFrame} (bits : List (List Bool)) (full : Nat) (new : (groupThen g f u).repeated = false) :
    sapReceiveFrame g f bits full u = frameOutcome g f bits full u (stateThen g f u) := by
  have acts : sapReceiveFrame g f bits full u =
      if (groupThen g f u).repeated then checked g f u else frameOutcome g f bits full u (stateThen g f u) :=
    if_neg (not_passed_over_of_frameEnds ends)
  rw [acts, new, if_neg Bool.false_ne_true]

theorem sapTransmitFrame_of_frameEnds (f : SapFrame) (starved : Nat) : sapTransmitFrame g f starved u = (frameSent g f starved).effect u :=
  if_neg (not_passed_over_of_frameEnds ends)

end

/-! ### Blocks of the taps -/

section
variable {s : State} {t0 : Nat} {k : Int} {x : TapStream}

section
variable (block : List Word) (there : AMap.find s.sap.taps (tapStreamKey 0 t0) = some x) (ended : k * s.q + s.q - 1 ≤ s.index)
include there ended

/-- Once the quantum is over, a block is read, or missed without a link or when its header names another quantum (R286). -/
theorem tapBlockRead_of_over :
    tapBlockRead t0 k block s =
      if s.pcie = true ∧ block.getD 0 0 = lo32 (k * s.q) ∧ block.getD 1 0 = hi32 (k * s.q) then (blockRead t0 k block x).effect s
      else (blockMissing t0 k block x).effect s := by
  simp only [tapBlockRead, there, ended.not_gt, if_false, Bool.and_eq_true, decide_eq_true_eq, and_assoc]

end

section
variable (there : AMap.find s.sap.taps (tapStreamKey 1 t0) = some x) (due : s.deadlineIndex k ≤ s.index) (first : s.sap.tapDone.1 ≠ k)
include there due first

/-- The first block of a quantum that is dealt with at its sink deadline is written, or lost without a link (R72, R286). -/
theorem tapBlockWrite_of_due :
    tapBlockWrite t0 k s = if s.pcie then (blockWritten t0 k x).effect s else (blockLost t0 k x).effect s := by
  simp only [tapBlockWrite, there, due.not_gt, first, decide_false, Bool.false_and, Bool.or_self, Bool.false_eq_true, if_false]

end
end

/-! ### The rows -/

section
variable (g : Nat) (f : SapFrame) (bits : List (List Bool)) (full : Nat)

/-- A row of received frames holds once what it says is the outcome in the states that meet its guard. -/
theorem receives_holds (guard : State → Prop) (effect : State → State) (live : ∀ u, guard u → frameEnds g u ∧ (groupThen g f u).repeated = false)
    (outcome : ∀ u, guard u → frameOutcome g f bits full u (stateThen g f u) = effect u) :
    (⟨fun t => .sapReceiveFrame t g f bits full, guard, effect⟩ : Rule).Holds :=
  Rule.holds_of_event _ (sapReceiveFrame g f bits full) (fun t s => exec_sapReceiveFrame t g f bits full s) fun u met => by
    obtain ⟨ends, new⟩ := live u met
    exact (sapReceiveFrame_of_new_label ends bits full new).trans (outcome u met)

theorem frameTaken_holds : (frameTaken g f bits full).Holds :=
  receives_holds g f bits full _ _ (fun _ ⟨ends, _, _, new, _⟩ => ⟨ends, new⟩) fun _ ⟨_, run, clean, _, framed⟩ => by
    simp only [run, frameOutcome, clean, framed, Bool.false_eq_true, if_false]

theorem frameMisframed_holds : (frameMisframed g f bits full).Holds :=
  receives_holds g f bits full _ _ (fun _ ⟨ends, _, _, new, _⟩ => ⟨ends, new⟩) fun _ ⟨_, run, clean, _, bad⟩ => by
    simp only [run, frameOutcome, clean, bad, Bool.false_eq_true, if_false, if_true]

theorem frameGlitched_holds : (frameGlitched g f bits full).Holds :=
  receives_holds g f bits full _ _ (fun _ ⟨ends, _, _, new⟩ => ⟨ends, new⟩) fun _ ⟨_, state, glitched, _⟩ => by
    obtain run | quiet := state
    · simp only [run, frameOutcome, glitched, if_true]
    · simp only [quiet, frameOutcome, glitched, if_true]

theorem frameQuiet_holds : (frameQuiet g f bits full).Holds :=
  receives_holds g f bits full _ _ (fun _ ⟨ends, _, new⟩ => ⟨ends, new⟩) fun _ ⟨_, state, _⟩ => by
    obtain ⟨quiet, clean⟩ | closing := state
    · simp only [quiet, frameOutcome, clean, Bool.false_eq_true, if_false]
    · simp only [closing, frameOutcome]

theorem frameRejoins_holds : (frameRejoins g f bits full).Holds :=
  receives_holds g f bits full _ _ (fun _ ⟨ends, _, new⟩ => ⟨ends, new⟩) fun _ ⟨_, rejoin, _⟩ => by simp only [rejoin, frameOutcome]

end

theorem frameSent_holds (g : Nat) (f : SapFrame) (starved : Nat) : (frameSent g f starved).Holds :=
  Rule.holds_of_event _ (sapTransmitFrame g f starved) (fun t s => exec_sapTransmitFrame t g f starved s) fun _ ends =>
    sapTransmitFrame_of_frameEnds ends f starved

theorem blockRead_holds (t0 : Nat) (k : Int) (block : List Word) (x : TapStream) : (blockRead t0 k block x).Holds :=
  Rule.holds_of_event _ (tapBlockRead t0 k block) (fun t s => exec_tapBlockRead t t0 k block s) fun _ ⟨there, ended, named⟩ =>
    (tapBlockRead_of_over block there ended).trans (if_pos named)

theorem blockMissing_holds (t0 : Nat) (k : Int) (block : List Word) (x : TapStream) : (blockMissing t0 k block x).Holds :=
  Rule.holds_of_event _ (tapBlockRead t0 k block) (fun t s => exec_tapBlockRead t t0 k block s) fun _ ⟨there, ended, missing⟩ =>
    (tapBlockRead_of_over block there ended).trans (if_neg fun ⟨link, low, high⟩ => by
      obtain noLink | notLow | notHigh := missing
      · exact Bool.false_ne_true (noLink.symm.trans link)
      · exact notLow low
      · exact notHigh high)

theorem blockWritten_holds (t0 : Nat) (k : Int) (x : TapStream) : (blockWritten t0 k x).Holds :=
  Rule.holds_of_event _ (tapBlockWrite t0 k) (fun t s => exec_tapBlockWrite t t0 k s) fun _ ⟨there, due, first, link⟩ =>
    (tapBlockWrite_of_due there due first).trans (if_pos link)

theorem blockLost_holds (t0 : Nat) (k : Int) (x : TapStream) : (blockLost t0 k x).Holds :=
  Rule.holds_of_event _ (tapBlockWrite t0 k) (fun t s => exec_tapBlockWrite t t0 k s) fun _ ⟨there, due, first, noLink⟩ =>
    (tapBlockWrite_of_due there due first).trans (if_neg (Bool.eq_false_iff.1 noLink))

/-- Settles O46, row by row: a frame by the state in which it stands, a block by its header and the link. -/
theorem sapFramesAndTapsMove : Obligations.SapFramesAndTapsMove :=
  ⟨frameTaken_holds, frameMisframed_holds, frameGlitched_holds, frameQuiet_holds, frameRejoins_holds, frameSent_holds, blockRead_holds,
    blockMissing_holds, blockWritten_holds, blockLost_holds⟩

end Sys2Proof.Machine
end

section
/-! SUPPORT. Rows for single registers: what a write that its block takes does (R315, R338 to R340, R410, R411, R480, R484, R535, Table 09-7),
the PCIe link (R436, R480), and the rows. -/
namespace Sys2Proof.Machine
open Sys2Proof.Safety

/-! ### A write that is taken -/

theorem State.rowWrite_of_taken {s : State} {a : Nat} (write : taken a s) (f : State → State) : s.rowWrite a f = f s := by
  obtain ⟨⟨on, block⟩, idle⟩ := write
  simp only [State.rowWrite, on, block, idle, Bool.not_true, Bool.false_eq_true, if_false]

/-- A rule of a register's own row holds once its guard takes the write and the row's meaning then agrees with the rule's effect. -/
theorem Rule.holds_of_rowWrite (r : Rule) {a : Nat} (f : State → State) (row : ∀ t s, exec (r.row t) s = eventRow (fun s => s.rowWrite a f) t s)
    (write : ∀ u, r.guard u → taken a u) (effect : ∀ u, r.guard u → f u = r.effect u) : r.Holds :=
  Rule.holds_of_event r _ row fun u met => (State.rowWrite_of_taken (write u met) f).trans (effect u met)

/-! ### Ring indices (R410, R411) -/

section
variable {s : State} {n : Nat} {v : BitVec 16} (known : n < 8)
include known

theorem cmdCtailWrite_of_room (room : (v - (s.chan n).chead).toNat ≤ s.ringK n) : cmdCtailWrite n v s = (tailTaken n v).effect s :=
  (if_pos known).trans (if_neg room.not_gt)

theorem cmdCtailWrite_of_beyond (beyond : s.ringK n < (v - (s.chan n).chead).toNat) : cmdCtailWrite n v s = (tailRefused n v).effect s :=
  (if_pos known).trans (if_pos beyond)

theorem cmdRconsWrite_of_room (room : ((s.chan n).rprod - v).toNat ≤ s.ringK n) : cmdRconsWrite n v s = (consumed n v).effect s :=
  (if_pos known).trans (if_neg room.not_gt)

theorem cmdRconsWrite_of_beyond (beyond : s.ringK n < ((s.chan n).rprod - v).toNat) : cmdRconsWrite n v s = (consumedRefused n v).effect s :=
  (if_pos known).trans (if_pos beyond)

end

/-! ### CMD_CFGn (R484) -/

theorem bitOf_w32 (m i : Nat) : bitOf (w32 m) i = decide (m % 2 ^ 32 / 2 ^ i % 2 = 1) := by
  simp only [bitOf, w32, BitVec.toNat_ofNat, Nat.testBit_eq_decide_div_mod_eq]

theorem fld_w32 (m hi lo : Nat) : fld (w32 m) hi lo = m % 2 ^ 32 / 2 ^ lo % 2 ^ (hi + 1 - lo) := by
  simp only [fld, w32, BitVec.toNat_ofNat]

/-- The word that CMD_CHANNEL_ENABLE writes: EN, IEN and LOG2K. -/
def enableWord (ien : Bool) (log2k : Nat) : Word := w32 (1 + flagBit ien 1 + log2k % 16 * 2 ^ 4)

/-- The word that CMD_CHANNEL_DISABLE writes: IEN alone. -/
def disableWord (ien : Bool) : Word := w32 (flagBit ien 1)

section
variable (ien : Bool) (log2k : Nat)

theorem flagBit_eq (i : Nat) : flagBit ien i = b2n ien * 2 ^ i := by cases ien <;> simp [flagBit, b2n]

theorem bitOf_enableWord_en : bitOf (enableWord ien log2k) 0 = true := by
  rw [enableWord, bitOf_w32, flagBit_eq, decide_eq_true_eq]
  omega

theorem bitOf_enableWord_ien : bitOf (enableWord ien log2k) 1 = ien := by
  rw [enableWord, bitOf_w32]
  cases ien with
  | false => exact decide_eq_false (by simp only [flagBit, Bool.false_eq_true, if_false]; omega)
  | true => exact decide_eq_true (by simp only [flagBit, if_true]; omega)

theorem fld_enableWord_log2k : fld (enableWord ien log2k) 7 4 = log2k % 16 := by
  have low : b2n ien ≤ 1 := by cases ien <;> decide
  rw [enableWord, fld_w32, flagBit_eq]
  omega

theorem bitOf_disableWord_en : bitOf (disableWord ien) 0 = false := by cases ien <;> decide

theorem bitOf_disableWord_ien : bitOf (disableWord ien) 1 = ien := by cases ien <;> decide

end

section
variable {s : State} {n : Nat}

/-- EN rises with IEN and LOG2K of the same write. -/
theorem State.writeCmdCfg_of_rising {v : Word} (off : bitOf (s.reg (rCmdCfg + 32 * n)) 0 = false) (rises : bitOf v 0 = true) :
    s.writeCmdCfg n v =
      ((s.setFld (rCmdCfg + 32 * n) 1 1 (b2n (bitOf v 1))).setFld (rCmdCfg + 32 * n) 7 4 (fld v 7 4)).channelOn n := by
  simp only [State.writeCmdCfg, off, rises, Bool.not_false, Bool.and_self, Bool.false_eq_true, if_false, if_true]

/-- EN falls with IEN of the same write, and LOG2K stays. -/
theorem State.writeCmdCfg_of_falling {v : Word} (on : bitOf (s.reg (rCmdCfg + 32 * n)) 0 = true) (falls : bitOf v 0 = false) :
    s.writeCmdCfg n v = (s.setFld (rCmdCfg + 32 * n) 1 1 (b2n (bitOf v 1))).channelOff n := by
  simp only [State.writeCmdCfg, on, falls, Bool.not_true, Bool.not_false, Bool.and_self, Bool.false_eq_true, if_false, if_true]

theorem State.channelOff_of_idle (idle : (s.chan n).hold = none) :
    s.channelOff n = ((s.updChan n fun c => { c with enabled := false }).clrReg (rCmdCfg + 32 * n) 1).resetChannel n :=
  if_neg (by simp [idle])

theorem State.channelOff_of_executing (executes : (s.chan n).hold.isSome = true) :
    s.channelOff n =
      ((s.updChan n fun c => { c with enabled := false }).clrReg (rCmdCfg + 32 * n) 1).updChan n fun c => { c with closing := true } :=
  if_pos executes

variable (known : n < 8) (ien : Bool)
include known

theorem cmdChannelEnable_of_off (log2k : Nat) (off : bitOf (s.reg (rCmdCfg + 32 * n)) 0 = false) :
    cmdChannelEnable n ien log2k s = (channelEnabled n ien log2k).effect s := by
  have word : cmdChannelEnable n ien log2k s = s.writeCmdCfg n (enableWord ien log2k) := if_pos known
  rw [word, State.writeCmdCfg_of_rising off (bitOf_enableWord_en ien log2k), bitOf_enableWord_ien, fld_enableWord_log2k, State.channelOn]

theorem cmdChannelDisable_of_on (on : bitOf (s.reg (rCmdCfg + 32 * n)) 0 = true) :
    cmdChannelDisable n ien s = (s.setFld (rCmdCfg + 32 * n) 1 1 (b2n ien)).channelOff n := by
  have word : cmdChannelDisable n ien s = s.writeCmdCfg n (disableWord ien) := if_pos known
  rw [word, State.writeCmdCfg_of_falling on (bitOf_disableWord_en ien), bitOf_disableWord_ien]

end

/-! ### Interrupt vectors, power requests and the link -/

/-- A vector of the table loses its mask, and then its pending bit unless its function is masked (R480). -/
theorem irqMsixUnmask_of_vector {i : Nat} (known : i < 32) (s : State) : irqMsixUnmask (some i) s = (vectorUnmasked i).effect s := if_pos known

theorem sapgWtpop_of_pop {v : Word} (pops : bitOf v 0 = true) (s : State) : sapgWtpop v s = (witnessPopped v).effect s := if_pos pops

theorem rpcPdreqWrite_of_refused {s : State} {v : Word} {d : Nat} {on : Bool}
    (refused : ((s.pdChanges v).find? fun x => s.pdRefused x.1 x.2) = some (d, on)) : rpcPdreqWrite v s = (domainsRefused v d on).effect s := by
  simp only [rpcPdreqWrite, refused]

theorem rpcPdreqWrite_of_granted {s : State} {v : Word} (granted : ((s.pdChanges v).find? fun x => s.pdRefused x.1 x.2) = none) :
    rpcPdreqWrite v s = (domainsRequested v).effect s := by
  simp only [rpcPdreqWrite, granted]

/-- The link comes up only while its domain is on (R436). -/
theorem pcieLinkChange_of_powered {s : State} {up : Bool} (enable mask : Bool) (powered : up = false ∨ s.powered 15 = true) :
    pcieLinkChange up enable mask s = (linkChanges up enable mask).effect s :=
  if_neg (by obtain down | on := powered <;> simp [*])

/-! ### The rows -/

theorem snapTaken_holds : snapTaken.Holds :=
  Rule.holds_of_rowWrite _ timSnap exec_timSnap (fun _ write => write) fun _ _ => rfl

theorem witnessPopped_holds (v : Word) : (witnessPopped v).Holds :=
  Rule.holds_of_rowWrite _ (sapgWtpop v) (fun t s => exec_sapgWtpop t v s) (fun _ ⟨write, _⟩ => write) fun u ⟨_, pops⟩ => sapgWtpop_of_pop pops u

theorem vectorsArmed_holds (v : Word) : (vectorsArmed v).Holds :=
  Rule.holds_of_rowWrite _ (irqEoi v) (fun t s => exec_irqEoi t v s) (fun _ write => write) fun _ _ => rfl

theorem vectorUnmasked_holds (i : Nat) : (vectorUnmasked i).Holds :=
  Rule.holds_of_rowWrite _ (irqMsixUnmask (some i)) (fun t s => exec_irqMsixUnmask t (some i) s) (fun _ ⟨write, _⟩ => write)
    fun u ⟨_, known⟩ => irqMsixUnmask_of_vector known u

theorem functionUnmasked_holds : functionUnmasked.Holds :=
  Rule.holds_of_rowWrite _ (irqMsixUnmask none) (fun t s => exec_irqMsixUnmask t none s) (fun _ write => write) fun _ _ => rfl

section
variable (n : Nat) (v : BitVec 16)

theorem tailTaken_holds : (tailTaken n v).Holds :=
  Rule.holds_of_rowWrite _ (cmdCtailWrite n v) (fun t s => exec_cmdCtailWrite t n v s) (fun _ ⟨write, _⟩ => write)
    fun _ ⟨_, known, room⟩ => cmdCtailWrite_of_room known room

theorem tailRefused_holds : (tailRefused n v).Holds :=
  Rule.holds_of_rowWrite _ (cmdCtailWrite n v) (fun t s => exec_cmdCtailWrite t n v s) (fun _ ⟨write, _⟩ => write)
    fun _ ⟨_, known, beyond⟩ => cmdCtailWrite_of_beyond known beyond

theorem consumed_holds : (consumed n v).Holds :=
  Rule.holds_of_rowWrite _ (cmdRconsWrite n v) (fun t s => exec_cmdRconsWrite t n v s) (fun _ ⟨write, _⟩ => write)
    fun _ ⟨_, known, room⟩ => cmdRconsWrite_of_room known room

theorem consumedRefused_holds : (consumedRefused n v).Holds :=
  Rule.holds_of_rowWrite _ (cmdRconsWrite n v) (fun t s => exec_cmdRconsWrite t n v s) (fun _ ⟨write, _⟩ => write)
    fun _ ⟨_, known, beyond⟩ => cmdRconsWrite_of_beyond known beyond

end

section
variable (n : Nat) (ien : Bool)

theorem channelEnabled_holds (log2k : Nat) : (channelEnabled n ien log2k).Holds :=
  Rule.holds_of_rowWrite _ (cmdChannelEnable n ien log2k) (fun t s => exec_cmdChannelEnable t n ien log2k s) (fun _ ⟨write, _⟩ => write)
    fun _ ⟨_, known, off⟩ => cmdChannelEnable_of_off known ien log2k off

theorem channelDisabled_holds : (channelDisabled n ien).Holds :=
  Rule.holds_of_rowWrite _ (cmdChannelDisable n ien) (fun t s => exec_cmdChannelDisable t n ien s) (fun _ ⟨write, _⟩ => write)
    fun _ ⟨_, known, on, idle⟩ => (cmdChannelDisable_of_on known ien on).trans (State.channelOff_of_idle idle)

theorem channelCloses_holds : (channelCloses n ien).Holds :=
  Rule.holds_of_rowWrite _ (cmdChannelDisable n ien) (fun t s => exec_cmdChannelDisable t n ien s) (fun _ ⟨write, _⟩ => write)
    fun _ ⟨_, known, on, executes⟩ => (cmdChannelDisable_of_on known ien on).trans (State.channelOff_of_executing executes)

end

theorem rxDescsGiven_holds (m r tail : Nat) (ds : List GivenDesc) : (rxDescsGiven m r tail ds).Holds :=
  Rule.holds_of_event _ _ (fun t s => exec_macRxtailWrite t m r tail ds s) fun _ ⟨mac, ring, write⟩ =>
    (if_pos ⟨mac, ring⟩).trans (State.rowWrite_of_taken write (macRxtailWrite m r tail ds))

theorem txDescsGiven_holds (m r tail : Nat) (ds : List GivenDesc) : (txDescsGiven m r tail ds).Holds :=
  Rule.holds_of_event _ _ (fun t s => exec_macTxtailWrite t m r tail ds s) fun _ ⟨mac, ring, write⟩ =>
    (if_pos ⟨mac, ring⟩).trans (State.rowWrite_of_taken write (macTxtailWrite m r tail ds))

theorem domainsRefused_holds (v : Word) (d : Nat) (on : Bool) : (domainsRefused v d on).Holds :=
  Rule.holds_of_rowWrite _ (rpcPdreqWrite v) (fun t s => exec_rpcPdreqWrite t v s) (fun _ ⟨write, _⟩ => write)
    fun _ ⟨_, refused⟩ => rpcPdreqWrite_of_refused refused

theorem domainsRequested_holds (v : Word) : (domainsRequested v).Holds :=
  Rule.holds_of_rowWrite _ (rpcPdreqWrite v) (fun t s => exec_rpcPdreqWrite t v s) (fun _ ⟨write, _⟩ => write)
    fun _ ⟨_, granted⟩ => rpcPdreqWrite_of_granted granted

theorem linkChanges_holds (up enable mask : Bool) : (linkChanges up enable mask).Holds :=
  Rule.holds_of_event _ (pcieLinkChange up enable mask) (fun t s => exec_pcieLinkChange t up enable mask s) fun _ powered =>
    pcieLinkChange_of_powered enable mask powered

/-- Settles O43, row by row, each under the condition on its register, its channel, its domains or the link. -/
theorem singleRegistersAct : Obligations.SingleRegistersAct :=
  ⟨snapTaken_holds, witnessPopped_holds, vectorsArmed_holds, vectorUnmasked_holds, functionUnmasked_holds, tailTaken_holds,
    tailRefused_holds, consumed_holds, consumedRefused_holds, channelEnabled_holds, channelDisabled_holds, channelCloses_holds,
    rxDescsGiven_holds, txDescsGiven_holds, domainsRefused_holds, domainsRequested_holds, linkChanges_holds⟩

end Sys2Proof.Machine
end

section
/-! SUPPORT. The PTP port: what each message heard, message sent and timeout does in each case of the state (R301 to R305, Table 10-5), and the
rows. -/
namespace Sys2Proof.Machine
open Sys2Proof.Safety

/-! ### Sync and Follow_Up -/

section
variable {s : State} {h : PtpHeader}

theorem ptpSyncReceived_of_foreign (two : Bool) (t1 : Int) (enabled : s.tu.ptp.enabled = true) (foreign : s.ptpForeign h = true) :
    ptpSyncReceived h two t1 s = s.bump rTimBadmsg := by
  simp only [ptpSyncReceived, enabled, foreign, Bool.not_true, Bool.false_eq_true, if_false, if_true]

section
variable (heard : hearsParent h s)
include heard

/-- A Sync of the parent completes the exchange or waits for its Follow_Up, if it is later than the last one. -/
theorem ptpSyncReceived_of_later (two : Bool) (t1 : Int) (later : seq16Later h.seq s.tu.ptp.lastSyncSeq = true) :
    ptpSyncReceived h two t1 s = if two then (syncWaits h t1).effect s else (syncMeasures h t1).effect s := by
  obtain ⟨⟨enabled, known⟩, follows, parent⟩ := heard
  simp only [ptpSyncReceived, enabled, known, follows, parent, later, Bool.and_self, Bool.not_true, Bool.false_eq_true, if_false, syncNoted]

theorem ptpSyncReceived_of_not_later (two : Bool) (t1 : Int) (stale : seq16Later h.seq s.tu.ptp.lastSyncSeq = false) :
    ptpSyncReceived h two t1 s = s.ptpSeqErr runSync := by
  obtain ⟨⟨enabled, known⟩, follows, parent⟩ := heard
  simp only [ptpSyncReceived, enabled, known, follows, parent, stale, Bool.and_self, Bool.not_true, Bool.not_false, Bool.false_eq_true, if_false,
    if_true]

end

section
variable (heard : hears h s)
include heard

theorem ptpFollowUpReceived_of_pending (t1 : Int) {q : PtpPending} (waits : s.tu.ptp.pending = some q)
    (same : q.clock = h.clock ∧ q.port = h.port ∧ q.seq = h.seq) : ptpFollowUpReceived h t1 s = (followUpMeasures h t1 q).effect s := by
  obtain ⟨enabled, known⟩ := heard
  obtain ⟨clock, port, seq⟩ := same
  simp only [ptpFollowUpReceived, enabled, known, waits, clock, port, seq, decide_true, Bool.and_self, Bool.not_true, Bool.false_eq_true, if_false,
    if_true]

theorem ptpFollowUpReceived_of_none_pending (t1 : Int) (alone : s.tu.ptp.pending = none) :
    ptpFollowUpReceived h t1 s = s.ptpSeqErr runFollowUp := by
  obtain ⟨enabled, known⟩ := heard
  simp only [ptpFollowUpReceived, enabled, known, alone, Bool.not_true, Bool.false_eq_true, if_false]

end
end

theorem State.syncAlone_of_pending {s : State} {q : PtpPending} (waits : s.tu.ptp.pending = some q) :
    s.syncAlone = (s.updPtp fun p => { p with pending := none }).ptpSeqErr runNoFollowUp :=
  if_pos (Option.isSome_of_eq_some waits)

theorem ptpFollowUpTimeout_of_due {s : State} {q : PtpPending} (waits : s.tu.ptp.pending = some q)
    (due : q.at_ + intervalTicks s.tu.ptp.logSync ≤ s.now) : ptpFollowUpTimeout s = s.syncAlone := by
  simp only [ptpFollowUpTimeout, waits, due, if_true]

/-! ### Path delays (R304) -/

/-- A path delay counts as the first, or within the outlier limit of the mean. -/
theorem State.takeDelay_of_counted {s : State} {d : Int}
    (counts : s.tu.ptp.delays = [] ∨ (d - s.tu.ptp.meanDelay).natAbs ≤ s.tu.outlier * 1000 * 2 ^ 32) :
    s.takeDelay d = s.updPtp fun p => { p with
      delays := (d :: s.tu.ptp.delays).take 8,
      meanDelay := Int.fdiv (isum ((d :: s.tu.ptp.delays).take 8)) ((d :: s.tu.ptp.delays).take 8).length } :=
  if_pos (by simpa only [Bool.or_eq_true, decide_eq_true_eq] using counts)

/-- The parent's answer to the request under way ends it, and gives a path delay once a Sync exchange has been measured. -/
theorem ptpDelayRespReceived_of_request {s : State} {h : PtpHeader} {c : Nat} {t3 o : Int} (t4 : Int) (heard : hearsParent h s) (own : s.clockId = c)
    (request : s.tu.ptp.delayReq = some (h.seq, some t3)) (offset : s.tu.ptp.lastOffset = some o) :
    ptpDelayRespReceived h c t4 s =
      if Int.fdiv (o + (t4 - t3)) 2 < 0 then (s.updPtp fun p => { p with delayReq := none }).countOutlier
      else (s.updPtp fun p => { p with delayReq := none }).takeDelay (Int.fdiv (o + (t4 - t3)) 2) := by
  obtain ⟨⟨enabled, known⟩, follows, parent⟩ := heard
  simp only [ptpDelayRespReceived, enabled, known, own, request, follows, parent, offset, ne_eq, not_true_eq_false, decide_false, Bool.and_self,
    Bool.not_true, Bool.or_self, Bool.false_eq_true, if_false]

/-- As master, within the second that its answers are counted in, the port answers 512 requests. -/
theorem ptpDelayReqReceived_of_master {s : State} {h : PtpHeader} (heard : hears h s) (master : s.tu.ptp.state = .master)
    (within : s.now < s.tu.ptp.answerFrom + 400000000) :
    ptpDelayReqReceived h s = if 512 ≤ s.tu.ptp.answered then s.bump rTimBadmsg else (delayAnswered h).effect s := by
  obtain ⟨enabled, known⟩ := heard
  simp only [ptpDelayReqReceived, enabled, known, master, within.not_ge, ne_eq, not_true_eq_false, decide_false, Bool.not_true, Bool.false_eq_true,
    if_false, State.updPtp]

/-! ### Announce (R301, R303) -/

section
variable {s : State} {h : PtpHeader} (a : PtpAnnounce) (heard : hears h s)
include heard

/-- The Announce of another clock than the parent is recorded; if the port's parent changes by it, the announce numbers begin again. -/
theorem ptpAnnounceReceived_of_other (other : s.fromParent h = false) :
    ptpAnnounceReceived h a s =
      if ((s.hearForeign h a).bmca).tu.ptp.parent = s.tu.ptp.parent then (announceHeard h a).effect s else (announceSelects h a).effect s := by
  obtain ⟨enabled, known⟩ := heard
  simp only [ptpAnnounceReceived, enabled, known, other, Bool.not_true, Bool.false_and, Bool.false_eq_true, if_false]

theorem ptpAnnounceReceived_of_not_later (parent : s.fromParent h = true) (stale : seq16Later h.seq s.tu.ptp.lastAnnSeq = false) :
    ptpAnnounceReceived h a s = s.ptpSeqErr runAnnounce := by
  obtain ⟨enabled, known⟩ := heard
  simp only [ptpAnnounceReceived, enabled, known, parent, stale, Bool.not_true, Bool.not_false, Bool.and_self, Bool.false_eq_true, if_false, if_true]

end

/-! ### Messages sent (R302) -/

section
variable {s : State} (enabled : s.tu.ptp.enabled = true)
include enabled

theorem ptpSyncSend_of_due (master : s.tu.ptp.state = .master) (due : due s.now s.tu.ptp.syncSentAt (intervalTicks s.tu.ptp.logSync) = true) :
    ptpSyncSend s = syncSent.effect s :=
  if_pos (by simp only [enabled, master, due, decide_true, Bool.and_self])

theorem ptpAnnounceSend_of_due (master : s.tu.ptp.state = .master)
    (due : due s.now s.tu.ptp.annSentAt (intervalTicks s.tu.ptp.logAnnounce) = true) : ptpAnnounceSend s = announceSent.effect s :=
  if_pos (by simp only [enabled, master, due, decide_true, Bool.and_self])

theorem ptpDelayReqSend_of_due (follows : s.ptpSlave = true)
    (due : due s.now s.tu.ptp.reqSentAt (intervalTicks s.tu.ptp.logDelayReq) = true) : ptpDelayReqSend s = delayAsked.effect s :=
  if_pos (by simp only [enabled, follows, due, Bool.and_self])

end

/-! ### A lost master, and a port that leads (R301, R303) -/

@[simp] theorem masterGone_servo (s : State) : (masterGone s).tu.servo = s.tu.servo := by
  unfold masterGone State.ptpTo
  split <;> rfl

theorem ptpMasterLost_of_due {s : State} (due : s.masterLostDue = true) :
    ptpMasterLost s = if s.tu.source = .ptp then (masterGone s).sourceEvent .lost else masterGone s := if_pos due

theorem ptpMasterLost_of_masterless {s : State} (notDue : s.masterLostDue = false) (masterless : s.masterless = true) :
    ptpMasterLost s = s.sourceEvent .lost := (if_neg (ne_true_of_eq_false notDue)).trans (if_pos masterless)

/-- The receipt timeout of R301: no Announce since the port began to listen, or in PASSIVE none from anyone. -/
theorem State.announceTimeout_iff (s : State) : s.announceTimeout = true ↔
    (s.tu.ptp.state = .listening ∨
      s.tu.ptp.state = .passive ∧ ∀ f ∈ s.tu.ptp.foreign, ∀ t ∈ f.heard, t + s.tu.ptp.timeout * intervalTicks s.tu.ptp.logAnnounce ≤ s.now) ∧
    s.tu.ptp.since + s.tu.ptp.timeout * intervalTicks s.tu.ptp.logAnnounce ≤ s.now := by
  simp only [State.announceTimeout, Bool.and_eq_true, Bool.or_eq_true, List.all_eq_true, decide_eq_true_eq]

theorem ptpQualificationTimeout_of_due {s : State} (enabled : s.tu.ptp.enabled = true) (leads : s.tu.ptp.slaveOnly = false)
    (due : s.tu.ptp.state = .preMaster ∨ s.announceTimeout = true) : ptpQualificationTimeout s = s.ptpTo .master := by
  have goes : (decide (s.tu.ptp.state = .preMaster) || s.announceTimeout) = true := by simpa only [Bool.or_eq_true, decide_eq_true_eq] using due
  simp only [ptpQualificationTimeout, enabled, leads, goes, Bool.not_true, Bool.or_self, Bool.false_eq_true, if_false, if_true]

/-! ### The rows -/

section
variable (h : PtpHeader)

section
variable (t1 : Int)

theorem syncMeasures_holds : (syncMeasures h t1).Holds :=
  Rule.holds_of_event _ (ptpSyncReceived h false t1) (fun t s => exec_ptpSyncReceived t h false t1 s) fun _ ⟨heard, later⟩ =>
    (ptpSyncReceived_of_later heard false t1 later).trans (if_neg Bool.false_ne_true)

theorem syncWaits_holds : (syncWaits h t1).Holds :=
  Rule.holds_of_event _ (ptpSyncReceived h true t1) (fun t s => exec_ptpSyncReceived t h true t1 s) fun _ ⟨heard, later⟩ =>
    (ptpSyncReceived_of_later heard true t1 later).trans (if_pos rfl)

theorem followUpMeasures_holds (q : PtpPending) : (followUpMeasures h t1 q).Holds :=
  Rule.holds_of_event _ (ptpFollowUpReceived h t1) (fun t s => exec_ptpFollowUpReceived t h t1 s) fun _ ⟨heard, waits, same⟩ =>
    ptpFollowUpReceived_of_pending heard t1 waits same

theorem followUpAlone_holds : (followUpAlone h t1).Holds :=
  Rule.holds_of_event _ (ptpFollowUpReceived h t1) (fun t s => exec_ptpFollowUpReceived t h t1 s) fun _ ⟨heard, alone⟩ =>
    ptpFollowUpReceived_of_none_pending heard t1 alone

end

theorem syncOutOfSequence_holds (two : Bool) (t1 : Int) : (syncOutOfSequence h two t1).Holds :=
  Rule.holds_of_event _ (ptpSyncReceived h two t1) (fun t s => exec_ptpSyncReceived t h two t1 s) fun _ ⟨heard, stale⟩ =>
    ptpSyncReceived_of_not_later heard two t1 stale

theorem syncForeign_holds (two : Bool) (t1 : Int) : (syncForeign h two t1).Holds :=
  Rule.holds_of_event _ (ptpSyncReceived h two t1) (fun t s => exec_ptpSyncReceived t h two t1 s) fun _ ⟨enabled, foreign⟩ =>
    ptpSyncReceived_of_foreign two t1 enabled foreign

theorem followUpMissed_holds (q : PtpPending) : (followUpMissed q).Holds :=
  Rule.holds_of_event _ ptpFollowUpTimeout exec_ptpFollowUpTimeout fun _ ⟨waits, due⟩ =>
    (ptpFollowUpTimeout_of_due waits due).trans (State.syncAlone_of_pending waits)

section
variable (c : Nat) (t4 t3 o : Int)

theorem delayMeasured_holds : (delayMeasured h c t4 t3 o).Holds :=
  Rule.holds_of_event _ (ptpDelayRespReceived h c t4) (fun t s => exec_ptpDelayRespReceived t h c t4 s)
    fun _ ⟨heard, own, request, offset, positive, counts⟩ =>
      ((ptpDelayRespReceived_of_request t4 heard own request offset).trans (if_neg positive.not_gt)).trans (State.takeDelay_of_counted counts)

theorem delayNegative_holds : (delayNegative h c t4 t3 o).Holds :=
  Rule.holds_of_event _ (ptpDelayRespReceived h c t4) (fun t s => exec_ptpDelayRespReceived t h c t4 s)
    fun _ ⟨heard, own, request, offset, negative⟩ => (ptpDelayRespReceived_of_request t4 heard own request offset).trans (if_pos negative)

end

theorem delayAnswered_holds : (delayAnswered h).Holds :=
  Rule.holds_of_event _ (ptpDelayReqReceived h) (fun t s => exec_ptpDelayReqReceived t h s) fun _ ⟨heard, master, within, few⟩ =>
    (ptpDelayReqReceived_of_master heard master within).trans (if_neg few.not_ge)

theorem delayUnanswered_holds : (delayUnanswered h).Holds :=
  Rule.holds_of_event _ (ptpDelayReqReceived h) (fun t s => exec_ptpDelayReqReceived t h s) fun _ ⟨heard, master, within, many⟩ =>
    (ptpDelayReqReceived_of_master heard master within).trans (if_pos many)

section
variable (a : PtpAnnounce)

theorem announceHeard_holds : (announceHeard h a).Holds :=
  Rule.holds_of_event _ (ptpAnnounceReceived h a) (fun t s => exec_ptpAnnounceReceived t h a s) fun _ ⟨heard, other, same⟩ =>
    (ptpAnnounceReceived_of_other a heard other).trans (if_pos same)

theorem announceSelects_holds : (announceSelects h a).Holds :=
  Rule.holds_of_event _ (ptpAnnounceReceived h a) (fun t s => exec_ptpAnnounceReceived t h a s) fun _ ⟨heard, other, changed⟩ =>
    (ptpAnnounceReceived_of_other a heard other).trans (if_neg changed)

theorem announceOutOfSequence_holds : (announceOutOfSequence h a).Holds :=
  Rule.holds_of_event _ (ptpAnnounceReceived h a) (fun t s => exec_ptpAnnounceReceived t h a s) fun _ ⟨heard, parent, stale⟩ =>
    ptpAnnounceReceived_of_not_later a heard parent stale

end
end

theorem syncSent_holds : syncSent.Holds :=
  Rule.holds_of_event _ ptpSyncSend exec_ptpSyncSend fun _ ⟨enabled, master, due⟩ => ptpSyncSend_of_due enabled master due

theorem announceSent_holds : announceSent.Holds :=
  Rule.holds_of_event _ ptpAnnounceSend exec_ptpAnnounceSend fun _ ⟨enabled, master, due⟩ => ptpAnnounceSend_of_due enabled master due

theorem delayAsked_holds : delayAsked.Holds :=
  Rule.holds_of_event _ ptpDelayReqSend exec_ptpDelayReqSend fun _ ⟨enabled, follows, due⟩ => ptpDelayReqSend_of_due enabled follows due

theorem masterLost_holds : masterLost.Holds :=
  Rule.holds_of_event _ ptpMasterLost exec_ptpMasterLost fun u ⟨due, ptp, noStep⟩ => by
    have goneNoStep : (masterGone u).tu.servo.step = none := by rw [masterGone_servo, noStep]
    rw [ptpMasterLost_of_due due, if_pos ptp, State.sourceEvent_of_no_step .lost goneNoStep, State.sourceAct]

theorem masterLostAside_holds : masterLostAside.Holds :=
  Rule.holds_of_event _ ptpMasterLost exec_ptpMasterLost fun _ ⟨due, other⟩ => (ptpMasterLost_of_due due).trans (if_neg other)

theorem masterNone_holds : masterNone.Holds :=
  Rule.holds_of_event _ ptpMasterLost exec_ptpMasterLost fun _ ⟨notDue, masterless, noStep⟩ =>
    (ptpMasterLost_of_masterless notDue masterless).trans (State.sourceEvent_of_no_step .lost noStep)

theorem portLeads_holds : portLeads.Holds :=
  Rule.holds_of_event _ ptpQualificationTimeout exec_ptpQualificationTimeout fun u ⟨enabled, leads, due⟩ =>
    ptpQualificationTimeout_of_due enabled leads (due.imp_right u.announceTimeout_iff.2)

/-- Settles O47, row by row, each under the condition on the message, the port's state and its intervals. -/
theorem ptpMessagesCount : Obligations.PtpMessagesCount :=
  ⟨syncMeasures_holds, syncWaits_holds, syncOutOfSequence_holds, syncForeign_holds, followUpMeasures_holds, followUpAlone_holds,
    followUpMissed_holds, delayMeasured_holds, delayNegative_holds, delayAnswered_holds, delayUnanswered_holds, announceHeard_holds,
    announceSelects_holds, announceOutOfSequence_holds, syncSent_holds, announceSent_holds, delayAsked_holds, masterLost_holds,
    masterLostAside_holds, masterNone_holds, portLeads_holds⟩

end Sys2Proof.Machine
end

section
/-! SUPPORT. The MACs and the media streams: what each frame, pause, link change, packet and timeout does in each case of the state (R316 to R326,
R330 to R336, R338 to R340, Tables 11-1, 11-3 and 11-5), and the rows. -/
namespace Sys2Proof.Machine
open Sys2Proof.Safety

/-! ### Frames received (R316, R317, R326) -/

/-- What an intact frame with an intact header does, by its consumer (R317). -/
def consumedBy (m : Nat) (f : RxFrame) (u : State) : Consumer → State
  | .flow => if f.control = 1 then u else u.macStat m 8
  | .ptp => u.macStat m 15
  | .control => if u.controlForeign m f then u else u.macStat m 16
  | .stream => u.macStat m 14
  | .aux r => u.auxReceive m r f
  | .dropped => u.macStat m 11

section
variable {s : State} {m : Nat} {f : RxFrame} {fill : Nat} (on : macOn m s)
include on

theorem not_ignored_of_macOn : ¬ (!(s.mac m).enabled || decide (4 ≤ m)) = true := by
  obtain ⟨enabled, known⟩ := on
  simp only [enabled, known.not_ge, decide_false, Bool.not_true, Bool.or_self, Bool.false_eq_true, not_false_eq_true]

theorem macFrameReceived_of_defects {i : Nat} {is : List Nat} (defects : (s.mac m).notIntact f fill = i :: is) :
    macFrameReceived m f fill s = (frameDefective m f fill i is).effect s := by
  simp only [macFrameReceived, if_neg (not_ignored_of_macOn on), defects, filled]

/-- A frame without defects is counted; then its VLAN, its header and its consumer decide. -/
theorem macFrameReceived_of_no_defects (whole : (s.mac m).notIntact f fill = []) :
    macFrameReceived m f fill s =
      if (s.mac m).otherVlan f then (frameOtherVlan m f fill).effect s
      else if f.ip.any fun h => !h.ok then (atConsumer m f fill s).macStat m 10
      else consumedBy m f (atConsumer m f fill s) ((atConsumer m f fill s).consumer m f) := by
  simp only [macFrameReceived, if_neg (not_ignored_of_macOn on), whole]
  rfl

end

/-- An intact frame of the MAC's VLAN, with an intact header if it has one, goes to its consumer. -/
theorem macFrameReceived_of_intact {s : State} {m : Nat} {f : RxFrame} {fill : Nat} (fine : intact m f fill s) :
    macFrameReceived m f fill s = consumedBy m f (atConsumer m f fill s) ((atConsumer m f fill s).consumer m f) := by
  obtain ⟨on, whole, vlan, headers⟩ := fine
  have header : (f.ip.any fun h => !h.ok) = false := by
    cases ip : f.ip with
    | none => rfl
    | some h => exact congrArg (!·) (headers h ip)
  rw [macFrameReceived_of_no_defects on whole, vlan, header, if_neg Bool.false_ne_true, if_neg Bool.false_ne_true]

/-! ### Pauses (R318, R319) -/

section
variable {s : State} {m : Nat} (enabled : (s.mac m).enabled = true)
include enabled

theorem pauseFrameReceived_of_not_honor (n : Nat) (ignored : (((pauseIgnored m n).effect s).mac m).honor = false) :
    pauseFrameReceived m n s = (pauseIgnored m n).effect s := by
  simp only [pauseFrameReceived, enabled, ignored, Bool.not_false, if_true]

/-- With HONOR and no frame on the line, a time that is not 0 holds transmission at once. -/
theorem pauseFrameReceived_of_honor {n : Nat} (given : n ≠ 0) (honoured : (((pauseIgnored m n).effect s).mac m).honor = true)
    (idle : (((pauseIgnored m n).effect s).mac m).sending = none) : pauseFrameReceived m n s = (pauseTaken m n).effect s := by
  simp only [pauseFrameReceived, enabled, given, honoured, idle, Option.isSome_none, Bool.not_true, Bool.false_eq_true, if_true, if_false]

end

section
variable {s : State} {m : Nat}

theorem pauseHoldExpiry_of_due {till : Nat} (held : (s.mac m).heldUntil = some till) (due : till ≤ s.now) : pauseHoldExpiry m s = s.endHold m := by
  simp only [pauseHoldExpiry, held, Option.any_some, due, decide_true, if_true]

/-- While the generator asserts pause, half of t_p after its last frame another is due. -/
theorem pauseRepeat_of_due {fill : Nat} (again : (pauseAgain m fill).guard s) : pauseRepeat m fill s = (pauseAgain m fill).effect s := by
  obtain ⟨pausing, due⟩ := again
  exact if_pos (by simp only [pausing, due, decide_true, Bool.and_self])

/-! ### Frames sent (R320 to R324, R338, R339) -/

theorem macFrameTransmit_of_pauseDue (free : lineFree m s) {n : Nat} (due : ((fresh m s).mac m).pauseDue = some n) :
    macFrameTransmit m s = (pauseStarts m n).effect s := by
  obtain ⟨idle, link, enabled⟩ := free
  simp only [fresh] at idle link enabled due
  simp only [macFrameTransmit, idle, link, enabled, due, Option.isSome_none, Bool.not_true, Bool.or_self, Bool.false_eq_true, if_false, fresh]

/-- Without a pause, due or received, the head of the highest queue that may start goes on the line. -/
theorem macFrameTransmit_of_head (free : lineFree m s) (noPause : ((fresh m s).mac m).pauseDue = none)
    (notHeld : ((fresh m s).mac m).heldUntil = none) {q : Nat} (chosen : [7, 6, 5, 4, 3, 2, 1, 0].find? ((fresh m s).mac m).mayStart = some q)
    {f : NetFrame} {rest : List NetFrame} (head : AMap.getD ((fresh m s).mac m).queues q [] = f :: rest) :
    macFrameTransmit m s = (frameStarts m q f rest).effect s := by
  obtain ⟨idle, link, enabled⟩ := free
  simp only [fresh] at idle link enabled noPause notHeld chosen head
  simp only [macFrameTransmit, idle, link, enabled, noPause, notHeld, chosen, head, Option.isSome_none, Bool.not_true, Bool.or_self,
    Bool.false_eq_true, if_false, fresh]

/-- The frame on the line leaves or is cut, and the line is free again. -/
theorem macFrameSent_of_sending {q start : Nat} {f : NetFrame} (aborted : Bool) (line : (s.mac m).sending = some (q, f, start))
    (noPause : (s.mac m).pendingPause = none) :
    macFrameSent m aborted s = if aborted then (frameAborted m q start f).effect s else (lineFreed m s).frameLeft m start f := by
  simp only [macFrameSent, Mac.creditedAll, line, noPause, lineFreed]

section
variable (m q start octets queued : Nat) (tag : Option (Nat × Nat))

/-- An auxiliary frame that leaves gives its descriptors back, and its ring's next chain comes (R338, R339). -/
theorem State.frameLeft_lineFreed_of_ring (s : State) (r : Nat) (ds : List AuxDesc) :
    (lineFreed m s).frameLeft m start ⟨.aux r ds, octets, queued, tag⟩ = (ringFrameLeaves m q start r octets queued tag ds).effect s := by
  simp only [State.frameLeft, countedSent, FrameBody.stat]

/-- A media packet that leaves is counted in its stream (R466). -/
theorem State.frameLeft_lineFreed_of_media (s : State) (x : MediaPacket) :
    (lineFreed m s).frameLeft m start ⟨.media x, octets, queued, tag⟩ = (mediaFrameLeaves m q start x octets queued tag).effect s := by
  simp only [State.frameLeft, countedSent, FrameBody.stat]

end

/-- A frame of no stream and no ring that leaves is counted, and nothing else. -/
theorem State.frameLeft_lineFreed_of_plain (m q start : Nat) (s : State) {f : NetFrame} (noStream : f.body.stat ≠ some 21)
    (noRing : f.body.stat ≠ some 23) : (lineFreed m s).frameLeft m start f = (frameLeaves m q start f).effect s := by
  obtain ⟨body, octets, queued, tag⟩ := f
  cases body with
  | media _ => exact absurd rfl noStream
  | aux _ _ => exact absurd rfl noRing
  | ptp _ => rfl
  | control _ _ _ _ => rfl
  | pause _ => rfl

/-! ### Links (R325) -/

theorem macLinkChange_of_rise (hiber : Bool) (down : ((s.mac m).creditedAll s.now).link = false) :
    macLinkChange m true hiber s = (linkRises m hiber).effect s := by
  simp only [macLinkChange, down, Bool.false_eq_true, if_false, if_true]

theorem macLinkChange_of_fall (hiber : Bool) (up : ((s.mac m).creditedAll s.now).link = true) :
    macLinkChange m false hiber s = (linkFalls m hiber).effect s :=
  have changes : ¬ ((s.mac m).creditedAll s.now).link = false := fun down => Bool.false_ne_true (down.symm.trans up)
  (if_neg changes).trans (if_neg Bool.false_ne_true)

end

/-! ### Streams (R330 to R336) -/

section
variable {s : State} {i : Nat} {x : RxStream}

section
variable {m : Nat} {r : RtpPacket} (takes : packetFor m i r x s)
include takes

theorem streamPacketReceived_of_bad (bad : x.bad r = true) : streamPacketReceived m r s = (packetBad m i r x).effect s := by
  obtain ⟨enabled, link, stream⟩ := takes
  simp only [streamPacketReceived, enabled, link, stream, bad, Bool.not_true, Bool.or_self, Bool.true_or, Bool.false_eq_true, if_false, if_true]

/-- A datagram that is not bad, nor padded, is a copy of one that the stream remembers, or is taken (R330, R334). -/
theorem streamPacketReceived_of_good (good : x.bad r = false) (unpadded : r.padding = false) :
    streamPacketReceived m r s = if x.seqs.contains r.seq then (packetRepeated m i r x).effect s else (packetTaken m i r x).effect s := by
  obtain ⟨enabled, link, stream⟩ := takes
  simp only [streamPacketReceived, enabled, link, stream, good, unpadded, Bool.not_true, Bool.or_self, Bool.false_eq_true, if_false]

end

theorem streamDownTimeout_of_due (there : AMap.find s.net.rx i = some x) (heard : x.down = false)
    (due : 128 * x.p * 10 ^ 9 ≤ (s.now - x.heard) * 5 * s.fs) : streamDownTimeout i s = (streamFalls i x).effect s := by
  simp only [streamDownTimeout, there, heard, due, decide_true, Bool.not_false, Bool.and_self, if_true]

theorem streamDownTimeout_of_early (there : AMap.find s.net.rx i = some x) (early : (s.now - x.heard) * 5 * s.fs < 128 * x.p * 10 ^ 9) :
    streamDownTimeout i s = s := by
  simp only [streamDownTimeout, there, early.not_ge, decide_false, Bool.and_false, Bool.false_eq_true, if_false]

end

/-! ### The rows -/

section
variable (m : Nat)

section
variable (f : RxFrame) (fill : Nat)

theorem frameDefective_holds (i : Nat) (is : List Nat) : (frameDefective m f fill i is).Holds :=
  Rule.holds_of_event _ (macFrameReceived m f fill) (fun t s => exec_macFrameReceived t m f fill s) fun _ ⟨on, defects⟩ =>
    macFrameReceived_of_defects on defects

theorem frameOtherVlan_holds : (frameOtherVlan m f fill).Holds :=
  Rule.holds_of_event _ (macFrameReceived m f fill) (fun t s => exec_macFrameReceived t m f fill s) fun _ ⟨on, whole, other⟩ =>
    (macFrameReceived_of_no_defects on whole).trans (if_pos other)

theorem frameToRing_holds (r : Nat) : (frameToRing m r f fill).Holds :=
  Rule.holds_of_event _ (macFrameReceived m f fill) (fun t s => exec_macFrameReceived t m f fill s) fun _ ⟨fine, ring⟩ => by
    rw [macFrameReceived_of_intact fine, ring, consumedBy]

theorem frameToConsumer_holds (c : Consumer) (i : Nat) : (frameToConsumer m f fill c i).Holds :=
  Rule.holds_of_event _ (macFrameReceived m f fill) (fun t s => exec_macFrameReceived t m f fill s) fun _ ⟨fine, consumer, counts⟩ => by
    rw [macFrameReceived_of_intact fine, consumer]
    simp only [List.mem_cons, Prod.mk.injEq, List.not_mem_nil, or_false] at counts
    obtain ⟨rfl, rfl⟩ | ⟨rfl, rfl⟩ | ⟨rfl, rfl⟩ := counts
    · rfl
    · rfl
    · rfl

end

theorem pauseTaken_holds (n : Nat) : (pauseTaken m n).Holds :=
  Rule.holds_of_event _ (pauseFrameReceived m n) (fun t s => exec_pauseFrameReceived t m n s) fun _ ⟨enabled, given, honoured, idle⟩ =>
    pauseFrameReceived_of_honor enabled given honoured idle

theorem pauseIgnored_holds (n : Nat) : (pauseIgnored m n).Holds :=
  Rule.holds_of_event _ (pauseFrameReceived m n) (fun t s => exec_pauseFrameReceived t m n s) fun _ ⟨enabled, ignored⟩ =>
    pauseFrameReceived_of_not_honor enabled n ignored

theorem holdEnds_holds (till : Nat) : (holdEnds m till).Holds :=
  Rule.holds_of_event _ (pauseHoldExpiry m) (fun t s => exec_pauseHoldExpiry t m s) fun _ ⟨held, due⟩ => pauseHoldExpiry_of_due held due

theorem pauseAgain_holds (fill : Nat) : (pauseAgain m fill).Holds :=
  Rule.holds_of_event _ (pauseRepeat m fill) (fun t s => exec_pauseRepeat t m fill s) fun _ => pauseRepeat_of_due

theorem frameStarts_holds (q : Nat) (f : NetFrame) (rest : List NetFrame) : (frameStarts m q f rest).Holds :=
  Rule.holds_of_event _ (macFrameTransmit m) (fun t s => exec_macFrameTransmit t m s) fun _ ⟨free, noPause, notHeld, chosen, head⟩ =>
    macFrameTransmit_of_head free noPause notHeld chosen head

theorem pauseStarts_holds (n : Nat) : (pauseStarts m n).Holds :=
  Rule.holds_of_event _ (macFrameTransmit m) (fun t s => exec_macFrameTransmit t m s) fun _ ⟨free, due⟩ => macFrameTransmit_of_pauseDue free due

section
variable (q start : Nat)

/-- A row of frames that leave whole holds once what it says is what the frame does on the freed line. -/
theorem leaves_holds (f : NetFrame) (guard : State → Prop) (effect : State → State)
    (line : ∀ u, guard u → (u.mac m).sending = some (q, f, start) ∧ (u.mac m).pendingPause = none)
    (left : ∀ u, guard u → (lineFreed m u).frameLeft m start f = effect u) : (⟨fun t => .macFrameSent t m false, guard, effect⟩ : Rule).Holds :=
  Rule.holds_of_event _ (macFrameSent m false) (fun t s => exec_macFrameSent t m false s) fun u met => by
    obtain ⟨sending, noPause⟩ := line u met
    rw [macFrameSent_of_sending false sending noPause, if_neg Bool.false_ne_true]
    exact left u met

theorem frameLeaves_holds (f : NetFrame) : (frameLeaves m q start f).Holds :=
  leaves_holds m q start f _ _ (fun _ ⟨sending, noPause, _⟩ => ⟨sending, noPause⟩) fun _ ⟨_, _, noStream, noRing⟩ =>
    State.frameLeft_lineFreed_of_plain m q start _ noStream noRing

theorem ringFrameLeaves_holds (r octets queued : Nat) (tag : Option (Nat × Nat)) (ds : List AuxDesc) :
    (ringFrameLeaves m q start r octets queued tag ds).Holds :=
  leaves_holds m q start ⟨.aux r ds, octets, queued, tag⟩ _ _ (fun _ => id) fun u _ =>
    State.frameLeft_lineFreed_of_ring m q start octets queued tag u r ds

theorem mediaFrameLeaves_holds (x : MediaPacket) (octets queued : Nat) (tag : Option (Nat × Nat)) :
    (mediaFrameLeaves m q start x octets queued tag).Holds :=
  leaves_holds m q start ⟨.media x, octets, queued, tag⟩ _ _ (fun _ => id) fun u _ =>
    State.frameLeft_lineFreed_of_media m q start octets queued tag u x

theorem frameAborted_holds (f : NetFrame) : (frameAborted m q start f).Holds :=
  Rule.holds_of_event _ (macFrameSent m true) (fun t s => exec_macFrameSent t m true s) fun _ ⟨sending, noPause⟩ =>
    (macFrameSent_of_sending true sending noPause).trans (if_pos rfl)

end

theorem lateDropped_holds : (lateDropped m).Holds :=
  Rule.holds_of_event _ (mediaPacketLateDrop m) (fun t s => exec_mediaPacketLateDrop t m s) fun _ _ => rfl

theorem linkRises_holds (hiber : Bool) : (linkRises m hiber).Holds :=
  Rule.holds_of_event _ (macLinkChange m true hiber) (fun t s => exec_macLinkChange t m true hiber s) fun _ down =>
    macLinkChange_of_rise hiber down

theorem linkFalls_holds (hiber : Bool) : (linkFalls m hiber).Holds :=
  Rule.holds_of_event _ (macLinkChange m false hiber) (fun t s => exec_macLinkChange t m false hiber s) fun _ up =>
    macLinkChange_of_fall hiber up

section
variable (i : Nat) (r : RtpPacket) (x : RxStream)

theorem packetTaken_holds : (packetTaken m i r x).Holds :=
  Rule.holds_of_event _ (streamPacketReceived m r) (fun t s => exec_streamPacketReceived t m r s) fun _ ⟨takes, good, unpadded, new⟩ =>
    (streamPacketReceived_of_good takes good unpadded).trans (if_neg (ne_true_of_eq_false new))

theorem packetRepeated_holds : (packetRepeated m i r x).Holds :=
  Rule.holds_of_event _ (streamPacketReceived m r) (fun t s => exec_streamPacketReceived t m r s) fun _ ⟨takes, good, unpadded, known⟩ =>
    (streamPacketReceived_of_good takes good unpadded).trans (if_pos known)

theorem packetBad_holds : (packetBad m i r x).Holds :=
  Rule.holds_of_event _ (streamPacketReceived m r) (fun t s => exec_streamPacketReceived t m r s) fun _ ⟨takes, bad⟩ =>
    streamPacketReceived_of_bad takes bad

end
end

theorem streamFalls_holds (i : Nat) (x : RxStream) : (streamFalls i x).Holds :=
  Rule.holds_of_event _ (streamDownTimeout i) (fun t s => exec_streamDownTimeout t i s) fun _ ⟨there, heard, due⟩ =>
    streamDownTimeout_of_due there heard due

theorem streamStays_holds (i : Nat) (x : RxStream) : (streamStays i x).Holds :=
  Rule.holds_of_event _ (streamDownTimeout i) (fun t s => exec_streamDownTimeout t i s) fun _ ⟨there, early⟩ =>
    streamDownTimeout_of_early there early

/-- Settles O49, row by row, each under the condition on its MAC, its frame, its packet or its stream. -/
theorem networkFramesMove : Obligations.NetworkFramesMove :=
  ⟨frameDefective_holds, frameOtherVlan_holds, fun m r f fill => frameToRing_holds m f fill r, frameToConsumer_holds, pauseTaken_holds,
    pauseIgnored_holds, holdEnds_holds, pauseAgain_holds, frameStarts_holds, pauseStarts_holds, frameLeaves_holds, ringFrameLeaves_holds,
    mediaFrameLeaves_holds, frameAborted_holds, lateDropped_holds, linkRises_holds, linkFalls_holds, packetTaken_holds, packetRepeated_holds,
    packetBad_holds, streamFalls_holds, streamStays_holds⟩

end Sys2Proof.Machine
end

section
/-! SUPPORT. The Zenel ports: what each frame, launch, loss of lock, election and link word does in each case of the state (R345 to R364, Table
12-3), and the rows. -/
namespace Sys2Proof.Machine
open Sys2Proof.Safety

/-! ### Frames received (R348 to R351, R357) -/

section
variable {s : State} {p : Nat} {f : ZenFrame} (ok : Bool)

theorem State.zenTake_of_refused (on : s.zenOn p = true) (lock : (s.zport p).lock = true) (refused : s.zenRefused f = true) :
    s.zenTake p f ok = ((s.bump (rZenLblcnt + 0x400 * p)).setEvt (rZenEvt + 0x400 * p) 3).logOnce evZenLabel p := by
  simp only [State.zenTake, on, lock, refused, Bool.not_true, Bool.or_self, Bool.false_eq_true, if_false, if_true]

section
variable {r : Nat} (takes : zenTakes p f s) (path : zenPathIn s.zen.mode p = some r)
include takes path

/-- A frame ends at the root, which counts no frames of its own. -/
theorem State.zenTake_of_root (root : s.zen.isRoot = true) :
    s.zenTake p f ok = zenReads p (s.labelIndex f.label) f (s.readInband r (s.labelIndex f.label) f true).1 := by
  obtain ⟨on, lock, fits⟩ := takes
  simp only [State.zenTake, on, lock, fits, path, root, zenReads, Bool.not_true, Bool.or_self, Bool.false_and, Bool.not_false,
    Bool.false_eq_true, if_false, if_true]

/-- A frame ends at a node that is head still once it is counted. -/
theorem State.zenTake_of_head (notRoot : s.zen.isRoot = false) (head : ((s.headCount p r f).zring r).head = true) :
    s.zenTake p f ok = zenReads p (s.labelIndex f.label) f ((s.headCount p r f).readInband r (s.labelIndex f.label) f true).1 := by
  obtain ⟨on, lock, fits⟩ := takes
  simp only [State.zenTake, on, lock, fits, path, notRoot, head, zenReads, Bool.not_true, Bool.or_self, Bool.and_false, Bool.false_and,
    Bool.not_false, Bool.false_eq_true, if_false]

/-- Any other node forwards a frame of a label that it has not launched. -/
theorem State.zenTake_of_new (notRoot : s.zen.isRoot = false) (notHead : ((s.headCount p r f).zring r).head = false)
    (new : ((s.headCount p r f).zring r).launched < s.labelIndex f.label) :
    s.zenTake p f ok =
      let b := (s.headCount p r f).readInband r (s.labelIndex f.label) f false
      zenReads p (s.labelIndex f.label) f (b.1.zenForward p r (s.labelIndex f.label) b.2 f.intact ok) := by
  obtain ⟨on, lock, fits⟩ := takes
  simp only [State.zenTake, on, lock, fits, path, notRoot, notHead, new, zenReads, decide_true, Bool.not_true, Bool.not_false, Bool.or_self,
    Bool.and_self, Bool.false_eq_true, if_false, if_true]

end
end

/-! ### Launches (R348, R363) -/

section
variable {s : State} (enabled : s.zen.enabled = true)
include enabled

/-- The root of one ring launches on it alone: a mode that is 1 still after the launch has no uplink. -/
theorem zenFrameLaunch_of_root (mode : s.zen.mode = 1) (root : s.zen.isRoot = true) (due : (s.zring 0).launched < s.index)
    (kept : (s.zenLaunch 0 s.index).zen.mode = 1) : zenFrameLaunch s = (s.zenLaunch 0 s.index).zenView := by
  have noUplink : ¬ (1 : Nat) = 2 := by decide
  simp only [zenFrameLaunch, enabled, zenPaths, mode, Nat.one_ne_zero, List.foldl_cons, List.foldl_nil, root, due, kept, noUplink, decide_true,
    decide_false, Bool.not_true, Bool.true_or, Bool.and_self, Bool.false_and, Bool.false_eq_true, if_false, if_true]

/-- A branch node that leads no path launches on its uplink alone. -/
theorem zenFrameLaunch_of_branch (mode : s.zen.mode = 2) (notRoot : s.zen.isRoot = false) (notHead : (s.zring 0).head = false)
    (due : s.zen.upLaunched < s.index) : zenFrameLaunch s = (s.zenLaunch 2 s.index).zenView := by
  simp only [zenFrameLaunch, enabled, zenPaths, mode, OfNat.ofNat_ne_zero, List.foldl_cons, List.foldl_nil, notRoot, notHead, due, decide_true,
    Bool.not_true, Bool.or_self, Bool.false_and, Bool.and_self, Bool.false_eq_true, if_false, if_true]

end

/-! ### Lock, heads and roots (R357 to R359, R364) -/

theorem State.becomeHead_of_follower {s : State} {r : Nat} (notHead : (s.zring r).head = false) (notRoot : s.zen.isRoot = false) :
    s.becomeHead r =
      ((((s.updZring r fun x => { x with head := true, good := 0 }).setEvt (rZenEvt + 0x400 * zenPortUp r) 2).bump rZenHeadcnt).logNow evZenHead).zenView := by
  simp only [State.becomeHead, notHead, notRoot, Bool.or_self, Bool.false_eq_true, if_false]

section
variable {s : State} {p : Nat} (on : s.zenOn p = true)
include on

section
variable (lock : (s.zport p).lock = true)
include lock

theorem zenLockLoss_of_branch (l : Option ZenFrame) (noPath : zenPathIn s.zen.mode p = none) : zenLockLoss p l s = zenPortDown p s := by
  simp only [zenLockLoss, on, lock, noPath, zenPortDown, Bool.not_true, Bool.or_self, Bool.false_eq_true, if_false]

/-- With no frame on its way, the node that loses its upstream neighbour does nothing more than become head. -/
theorem zenLockLoss_of_follower {r : Nat} (path : zenPathIn s.zen.mode p = some r) (notRoot : (zenPortDown p s).zen.isRoot = false) :
    zenLockLoss p none s = (zenPortDown p s).becomeHead r := by
  unfold zenPortDown at notRoot
  simp only [zenLockLoss, on, lock, path, notRoot, zenPortDown, Bool.not_true, Bool.or_self, Bool.false_eq_true, if_false]

end

theorem zenBlockLockGain_of_unlocked (unlocked : (s.zport p).lock = false) : zenBlockLockGain p s = (zenLockGained p).effect s := by
  simp only [zenBlockLockGain, on, unlocked, Bool.not_true, Bool.or_self, Bool.false_eq_true, if_false]

theorem zenMissingFrames_of_due {r : Nat} (path : zenPathIn s.zen.mode p = some r) (due : (s.zport p).lastGood + 4 < s.index) :
    zenMissingFrames p s = s.becomeHead r := by
  simp only [zenMissingFrames, path, on, due, decide_true, Bool.and_self, if_true]

/-! ### Link words (R346, R347) -/

theorem zenLinkWord_of_right_cable {x : LinkWord} (fits : zenCableOk s.zen.mode p (x.port % 4) = true) :
    zenLinkWord p x s = (zenNeighbour p x).effect s := by
  simp only [zenLinkWord, on, fits, Bool.not_true, Bool.false_eq_true, if_false, if_true]

theorem zenLinkWord_of_wrong_cable {x : LinkWord} (wrong : zenCableOk s.zen.mode p (x.port % 4) = false) :
    zenLinkWord p x s = (zenMiscabled p x).effect s := by
  simp only [zenLinkWord, on, wrong, Bool.not_true, Bool.not_false, Bool.false_eq_true, if_false, if_true]

end

section
variable {s : State}

theorem zenRootChange_of_elected (elected : s.zen.root = s.zen.node) (enabled : s.zen.enabled = true) (noClash : s.zen.clash = none)
    (notRoot : s.zen.isRoot = false) : zenRootChange s = zenBecomesRoot.effect s := by
  simp only [zenRootChange, elected, enabled, noClash, notRoot, Option.isNone_none, decide_true, Bool.and_self, Bool.true_eq_false, if_false]

theorem zenRootChange_of_unelected (other : s.zen.root ≠ s.zen.node) (root : s.zen.isRoot = true) :
    zenRootChange s = zenStopsRoot.effect s := by
  simp only [zenRootChange, other, root, decide_false, Bool.false_and, Bool.false_eq_true, if_false]

end

/-! ### The rows -/

section
variable (p r : Nat) (f : ZenFrame) (ok hiber : Bool)

theorem zenFrameRefused_holds : (zenFrameRefused p f ok hiber).Holds :=
  Rule.holds_of_event _ (zenFrameReceived p f ok hiber) (fun t s => exec_zenFrameReceived t p f ok hiber s) fun _ ⟨on, lock, refused⟩ =>
    State.zenTake_of_refused ok on lock refused

theorem zenFrameEnds_holds : (zenFrameEnds p r f ok hiber).Holds :=
  Rule.holds_of_event _ (zenFrameReceived p f ok hiber) (fun t s => exec_zenFrameReceived t p f ok hiber s) fun _ ⟨takes, path, root⟩ =>
    State.zenTake_of_root ok takes path root

theorem zenFrameForwarded_holds : (zenFrameForwarded p r f ok hiber).Holds :=
  Rule.holds_of_event _ (zenFrameReceived p f ok hiber) (fun t s => exec_zenFrameReceived t p f ok hiber s)
    fun _ ⟨takes, path, notRoot, notHead, new⟩ => State.zenTake_of_new ok takes path notRoot notHead new

theorem zenFrameHeaded_holds : (zenFrameHeaded p r f ok hiber).Holds :=
  Rule.holds_of_event _ (zenFrameReceived p f ok hiber) (fun t s => exec_zenFrameReceived t p f ok hiber s) fun _ ⟨takes, path, notRoot, head⟩ =>
    State.zenTake_of_head ok takes path notRoot head

end

theorem zenRootLaunches_holds : zenRootLaunches.Holds :=
  Rule.holds_of_event _ zenFrameLaunch (fun t s => exec_zenFrameLaunch t s) fun _ ⟨enabled, mode, root, due, kept⟩ =>
    zenFrameLaunch_of_root enabled mode root due kept

theorem zenBranchLaunches_holds : zenBranchLaunches.Holds :=
  Rule.holds_of_event _ zenFrameLaunch (fun t s => exec_zenFrameLaunch t s) fun _ ⟨enabled, mode, notRoot, notHead, due⟩ =>
    zenFrameLaunch_of_branch enabled mode notRoot notHead due

section
variable (p : Nat)

theorem zenLockLost_holds (r : Nat) : (zenLockLost p r).Holds :=
  Rule.holds_of_event _ (zenLockLoss p none) (fun t s => exec_zenLockLoss t p none s) fun _ ⟨on, lock, path, notRoot⟩ =>
    zenLockLoss_of_follower on lock path notRoot

theorem zenBranchLost_holds (l : Option ZenFrame) : (zenBranchLost p l).Holds :=
  Rule.holds_of_event _ (zenLockLoss p l) (fun t s => exec_zenLockLoss t p l s) fun _ ⟨on, lock, noPath⟩ =>
    zenLockLoss_of_branch on lock l noPath

theorem zenFramesMissing_holds (r : Nat) : (zenFramesMissing p r).Holds :=
  Rule.holds_of_event _ (zenMissingFrames p) (fun t s => exec_zenMissingFrames t p s) fun _ ⟨path, on, due, notHead, notRoot⟩ =>
    (zenMissingFrames_of_due on path due).trans (State.becomeHead_of_follower notHead notRoot)

theorem zenNeighbour_holds (x : LinkWord) : (zenNeighbour p x).Holds :=
  Rule.holds_of_event _ (zenLinkWord p x) (fun t s => exec_zenLinkWord t p x.node x.port x.q x.stamps s) fun _ ⟨on, fits⟩ =>
    zenLinkWord_of_right_cable on fits

theorem zenMiscabled_holds (x : LinkWord) : (zenMiscabled p x).Holds :=
  Rule.holds_of_event _ (zenLinkWord p x) (fun t s => exec_zenLinkWord t p x.node x.port x.q x.stamps s) fun _ ⟨on, wrong⟩ =>
    zenLinkWord_of_wrong_cable on wrong

theorem zenLockGained_holds : (zenLockGained p).Holds :=
  Rule.holds_of_event _ (zenBlockLockGain p) (fun t s => exec_zenBlockLockGain t p s) fun _ ⟨on, unlocked⟩ =>
    zenBlockLockGain_of_unlocked on unlocked

end

theorem zenBecomesRoot_holds : zenBecomesRoot.Holds :=
  Rule.holds_of_event _ zenRootChange (fun t s => exec_zenRootChange t s) fun _ ⟨elected, enabled, noClash, notRoot⟩ =>
    zenRootChange_of_elected elected enabled noClash notRoot

theorem zenStopsRoot_holds : zenStopsRoot.Holds :=
  Rule.holds_of_event _ zenRootChange (fun t s => exec_zenRootChange t s) fun _ ⟨other, root⟩ => zenRootChange_of_unelected other root

/-- Settles O50, row by row, each under the condition on its port, its frame, its path or its link word; a root of two rings and a head that
launches are in no row. -/
theorem zenPortsAct : Obligations.ZenPortsAct :=
  ⟨zenFrameRefused_holds, zenFrameEnds_holds, zenFrameForwarded_holds, zenFrameHeaded_holds, zenRootLaunches_holds, zenBranchLaunches_holds,
    zenLockLost_holds, zenBranchLost_holds, zenFramesMissing_holds, zenBecomesRoot_holds, zenStopsRoot_holds, zenNeighbour_holds,
    zenMiscabled_holds, zenLockGained_holds⟩

end Sys2Proof.Machine
end

section
/-! SUPPORT. Commands of the Zenel Link, of the twin, of the DRAM and of snapshots (R367, R383, R399, R402, R456, R458, R503, R504, R510). -/
namespace Sys2Proof.Machine
open Sys2Proof.Safety

theorem zenConfigDoes_holds : zenConfigDoes.Holds := Command.holds_of_act _ exec_zenConfig fun _ _ _ => rfl

theorem twinConfigDoes_holds : twinConfigDoes.Holds := Command.holds_of_act _ exec_twinConfig fun _ _ _ => rfl

theorem twinJoinDoes_holds : twinJoinDoes.Holds := Command.holds_of_act _ exec_twinJoin fun _ _ _ => rfl

/-- The handover on command has no fence to follow it. -/
theorem twinHandoverDoes_holds : twinHandoverDoes.Holds := Command.holds_of_act _ exec_twinHandover fun _ _ _ => rfl

/-- HOLD's release comes before the partner's fence, and that before the device's own. -/
theorem twinFenceDoes_holds : twinFenceDoes.Holds :=
  Command.holds_of_act _ exec_twinFence fun p u i => by
    simp only [twinFenceSpec, twinFenceDoes, State.updTwin]
    cases bitOf (p.w 4) 1 with
    | true => rfl
    | false =>
      cases bitOf (p.w 4) 0 with
      | true => rfl
      | false => rfl

theorem dramStartDoes_holds : dramStartDoes.Holds := Command.holds_of_act _ exec_dramStart fun _ _ _ => rfl

/-- Only an operating point that is not in force waits, with its reply. -/
theorem dramOppointDoes_holds : dramOppointDoes.Holds := Command.holds_of_act _ exec_dramOppoint fun _ _ _ => rfl

theorem stateSaveDoes_holds : stateSaveDoes.Holds := Command.holds_of_act _ exec_stateSave fun _ _ _ => rfl

theorem stateRestoreDoes_holds : stateRestoreDoes.Holds := Command.holds_of_act _ exec_stateRestore fun _ _ _ => rfl

/-- Settles O38, command by command: the acceptance of each gives its effect in every state; TWIN_FENCE's has three forms. -/
theorem zenTwinAndMemoryCommandsAct : Obligations.ZenTwinAndMemoryCommandsAct := by
  unfold Obligations.ZenTwinAndMemoryCommandsAct
  simp only [List.forall_mem_cons]
  exact ⟨zenConfigDoes_holds, twinConfigDoes_holds, twinJoinDoes_holds, twinHandoverDoes_holds, twinFenceDoes_holds, dramStartDoes_holds,
    dramOppointDoes_holds, stateSaveDoes_holds, stateRestoreDoes_holds, List.forall_mem_nil _⟩

end Sys2Proof.Machine
end

section
/-! SUPPORT. The twin gate: which packets of pair commands a device takes, forwards and refuses (R391, R394, R423). -/
namespace Sys2Proof.Machine
open Sys2Proof.Safety

section
variable {c : CmdSpec} {p : Packet} {s : State}

/-- A device executes pair commands exactly where it is ACTIVE or DETACHED. -/
theorem State.executesPair_iff : s.executesPair = true ↔ s.twin.state = .active ∨ s.twin.state = .detached := by
  simp only [State.executesPair, Bool.or_eq_true, decide_eq_true_eq]

section
variable (pair : c.pair = true) (passes : c.early p s = none)
include pair passes

/-- A device that does not execute pair commands forwards or refuses them by its relay and its lock alone. -/
theorem CmdSpec.verdict_of_gated (gated : s.executesPair = false) :
    c.verdict p s = if s.relays then (if s.twin.lock then .forward else .deny ⟨.partnerFault, 3⟩) else .deny ⟨.notActive, 0⟩ := by
  simp only [CmdSpec.verdict, passes, pair, gated, Bool.not_false, Bool.and_self, if_true]

/-- A gated packet is not taken. -/
theorem CmdSpec.verdict_ne_take_of_gated (gated : s.executesPair = false) (i : Int) : c.verdict p s ≠ .take i := by
  rw [CmdSpec.verdict_of_gated pair passes gated]
  split
  · split
    · exact Verdict.noConfusion
    · exact Verdict.noConfusion
  · exact Verdict.noConfusion

end

theorem CmdSpec.executesPair_of_taken (pair : c.pair = true) {i : Int} (taken : c.verdict p s = .take i) : s.executesPair = true := by
  obtain ⟨passes, -⟩ := CmdSpec.early_late_of_take taken
  exact Bool.of_not_eq_false fun gated => CmdSpec.verdict_ne_take_of_gated pair passes gated i taken

end

/-- Settles O10: a verdict that takes a pair command comes from the checks behind the gate, and the gate opens to an ACTIVE or DETACHED device alone. -/
theorem twinGate : Obligations.TwinGate := by
  unfold Obligations.TwinGate
  intro c _ pair p s
  refine ⟨fun i taken => State.executesPair_iff.1 (CmdSpec.executesPair_of_taken pair taken), fun notActive notDetached passes => ?_⟩
  refine CmdSpec.verdict_of_gated pair passes (Bool.eq_false_iff.2 fun acts => ?_)
  exact (State.executesPair_iff.1 acts).elim notActive notDetached

end Sys2Proof.Machine
end

section
/-! SUPPORT. The lease: what each renewal, pulse, timeout and edge of ALIVE does in each case of the Twin Unit (R376 to R382, Tables 13-3, 13-4
and 13-9), and the rows. -/
namespace Sys2Proof.Machine
open Sys2Proof.Safety

/-! ### Renewals and pulses (R377, Table 13-4) -/

section
variable {s : State}

theorem leaseRenewalTimer_of_due (holder : holds s) (due : s.twin.sentAt + ticksOfUs 250 ≤ s.now) :
    leaseRenewalTimer s = renewalSent.effect s := by
  obtain ⟨enabled, active⟩ := holder
  have acts : (s.twin.enabled && decide (s.twin.state = .active) && decide (s.twin.sentAt + ticksOfUs 250 ≤ s.now)) = true := by
    simp only [enabled, active, due, decide_true, Bool.and_self]
  exact if_pos acts

section
variable {w : Nat} (enabled : s.twin.enabled = true)
include enabled

theorem leasePulseReceived_of_renewal (least : 1500 ≤ w) (most : w ≤ 3000) (notActive : s.twin.state ≠ .active) :
    leasePulseReceived w s = (pulseRenews w).effect s := by
  simp only [leasePulseReceived, enabled, least, most, notActive, pulseHeard, State.updTwin, decide_true, decide_false, Bool.not_true,
    Bool.and_self, Bool.false_and, Bool.false_eq_true, if_false, if_true]

theorem leasePulseReceived_of_acknowledgement (active : s.twin.state = .active) (least : 500 ≤ w) (most : w < 1500) :
    leasePulseReceived w s = (pulseAcknowledges w).effect s := by
  have short : ¬ 1500 ≤ w := by omega
  simp only [leasePulseReceived, enabled, least, most, short, active, pulseHeard, State.ackReceived, State.updTwin, decide_true, decide_false,
    Bool.not_true, Bool.and_self, Bool.false_and, Bool.false_eq_true, if_false, if_true]

/-- A pulse of no width of Table 13-4 is stale. -/
theorem leasePulseReceived_of_other (other : w < 500 ∨ 3000 < w) : leasePulseReceived w s = s.twlStale := by
  have noRenewal : (decide (1500 ≤ w) && decide (w ≤ 3000)) = false := by simp; omega
  have noAcknowledgement : (decide (500 ≤ w) && decide (w < 1500)) = false := by simp; omega
  simp only [leasePulseReceived, enabled, noRenewal, noAcknowledgement, Bool.not_true, Bool.false_eq_true, if_false]

end

/-! ### Self-fencing (R379) -/

section
variable (holder : holds s) (due : s.twin.ackedAt + ticksOfUs 900 ≤ s.now)
include holder due

theorem leaseSelfFenceTimeout_of_due : leaseSelfFenceTimeout s =
    if s.twin.aliveIn then (s.dropLease.twinTo .fenced).logNow evTwinSelfFence
    else if s.twin.plost then s
    else (s.updTwin fun t => { t with plost := true }).logNow evTwinPartnerLost := by
  obtain ⟨enabled, active⟩ := holder
  have acts : (s.twin.enabled && decide (s.twin.state = .active) && decide (s.twin.ackedAt + ticksOfUs 900 ≤ s.now)) = true := by
    simp only [enabled, active, due, decide_true, Bool.and_self]
  exact if_pos acts

theorem leaseSelfFenceTimeout_of_alive (alive : s.twin.aliveIn = true) : leaseSelfFenceTimeout s = selfFenced.effect s :=
  (leaseSelfFenceTimeout_of_due holder due).trans (if_pos alive)

theorem leaseSelfFenceTimeout_of_stopped (stopped : s.twin.aliveIn = false) (new : s.twin.plost = false) :
    leaseSelfFenceTimeout s = partnerLost.effect s :=
  (leaseSelfFenceTimeout_of_due holder due).trans ((if_neg (ne_true_of_eq_false stopped)).trans (if_neg (ne_true_of_eq_false new)))

end

/-! ### Silence and claims (R378) -/

section
variable (silent : silentNow s)
include silent

theorem leaseSilence_of_inStep (inStep : (inSilence s).twin.state = .inStep) (free : (inSilence s).twin.hold = false) :
    leaseSilence s = silenceClaims.effect s := by
  obtain ⟨standby, due⟩ := silent
  unfold inSilence at inStep free
  simp only [leaseSilence, standby, due, inStep, free, inSilence, decide_true, Bool.and_self, Bool.false_eq_true, if_false, if_true]

/-- A SUSPECT partner that may not claim raises its alarm the first time that silence is noted. -/
theorem leaseSilence_of_suspect (first : s.twin.silent = false) (suspect : (inSilence s).twin.state = .suspect)
    (mayNot : (inSilence s).suspClaim = false) : leaseSilence s = silenceAlarms.effect s := by
  obtain ⟨standby, due⟩ := silent
  unfold inSilence at suspect mayNot
  simp only [leaseSilence, standby, due, first, suspect, mayNot, inSilence, State.alarmed, decide_true, Bool.and_self, Bool.false_and,
    Bool.false_eq_true, if_false, if_true]

section
variable (fenced : (inSilence s).twin.state = .fenced) (free : (inSilence s).twin.hold = false) (unheard : (inSilence s).twin.heard = false)
include fenced free unheard

/-- A PRIMARY that never heard a partner claims at once. -/
theorem leaseSilence_of_primary (primary : (inSilence s).secondary = false) : leaseSilence s = silenceFirstClaim.effect s := by
  obtain ⟨standby, due⟩ := silent
  unfold inSilence at fenced free unheard primary
  simp only [leaseSilence, standby, due, fenced, free, unheard, primary, inSilence, decide_true, Bool.and_self, Bool.not_false,
    Bool.false_eq_true, if_false, if_true]

/-- A SECONDARY that never heard a partner lets its role delay begin. -/
theorem leaseSilence_of_secondary (secondary : (inSilence s).secondary = true) (undue : (inSilence s).twin.claimAt = none) :
    leaseSilence s = silenceDelays.effect s := by
  obtain ⟨standby, due⟩ := silent
  have begins : (inSilence s).updTwin (fun t => { t with claimAt := some (t.claimAt.getD ((inSilence s).now + ticksOfMs 20)) }) =
      silenceDelays.effect s := by
    simp only [State.updTwin, undue, Option.getD_none]
  rw [← begins]
  unfold inSilence at fenced free unheard secondary
  simp only [leaseSilence, standby, due, fenced, free, unheard, secondary, inSilence, decide_true, Bool.and_self, Bool.not_false,
    Bool.false_eq_true, if_false, if_true]

end
end

theorem twinRoleDelayExpiry_of_due {due : Nat} (fenced : s.twin.state = .fenced) (unheard : s.twin.heard = false) (free : s.twin.hold = false)
    (claim : s.twin.claimAt = some due) (reached : due ≤ s.now) : twinRoleDelayExpiry s = s.claims false false := by
  simp only [twinRoleDelayExpiry, fenced, unheard, free, claim, reached, decide_true, Option.any_some, Bool.not_false, Bool.and_self, if_true]

/-! ### The ALIVE lines (Table 13-4) -/

theorem aliveInStopped_of_due (due : ∀ a ∈ s.twin.aliveAt, a + ticksOfUs 50 ≤ s.now) : aliveInStopped s = aliveStops.effect s := by
  have stopped : s.twin.aliveAt.all (fun t => decide (t + ticksOfUs 50 ≤ s.now)) = true :=
    (Option.all_eq_true _ _).2 fun a last => decide_eq_true (due a last)
  exact if_pos stopped

theorem aliveOutToggle_of_due (enabled : s.twin.enabled = true) (runs : s.ccaRuns = true) (due : s.twin.aliveSent + ticksOfUs 10 ≤ s.now) :
    aliveOutToggle s = aliveToggles.effect s := by
  simp only [aliveOutToggle, enabled, runs, due, State.updTwin, decide_true, Bool.and_self, if_true]

end

/-! ### The rows -/

theorem renewalSent_holds : renewalSent.Holds :=
  Rule.holds_of_event _ leaseRenewalTimer exec_leaseRenewalTimer fun _ ⟨holder, due⟩ => leaseRenewalTimer_of_due holder due

section
variable (w : Nat)

theorem pulseRenews_holds : (pulseRenews w).Holds :=
  Rule.holds_of_event _ (leasePulseReceived w) (fun t s => exec_leasePulseReceived t w s) fun _ ⟨enabled, least, most, notActive⟩ =>
    leasePulseReceived_of_renewal enabled least most notActive

theorem pulseAcknowledges_holds : (pulseAcknowledges w).Holds :=
  Rule.holds_of_event _ (leasePulseReceived w) (fun t s => exec_leasePulseReceived t w s) fun _ ⟨⟨enabled, active⟩, least, most⟩ =>
    leasePulseReceived_of_acknowledgement enabled active least most

theorem pulseStale_holds : (pulseStale w).Holds :=
  Rule.holds_of_event _ (leasePulseReceived w) (fun t s => exec_leasePulseReceived t w s) fun _ ⟨enabled, other⟩ =>
    leasePulseReceived_of_other enabled other

end

theorem selfFenced_holds : selfFenced.Holds :=
  Rule.holds_of_event _ leaseSelfFenceTimeout exec_leaseSelfFenceTimeout fun _ ⟨holder, due, alive⟩ =>
    leaseSelfFenceTimeout_of_alive holder due alive

theorem partnerLost_holds : partnerLost.Holds :=
  Rule.holds_of_event _ leaseSelfFenceTimeout exec_leaseSelfFenceTimeout fun _ ⟨holder, due, stopped, new⟩ =>
    leaseSelfFenceTimeout_of_stopped holder due stopped new

theorem silenceClaims_holds : silenceClaims.Holds :=
  Rule.holds_of_event _ leaseSilence exec_leaseSilence fun _ ⟨silent, inStep, free⟩ => leaseSilence_of_inStep silent inStep free

theorem silenceAlarms_holds : silenceAlarms.Holds :=
  Rule.holds_of_event _ leaseSilence exec_leaseSilence fun _ ⟨silent, first, suspect, mayNot⟩ =>
    leaseSilence_of_suspect silent first suspect mayNot

theorem silenceFirstClaim_holds : silenceFirstClaim.Holds :=
  Rule.holds_of_event _ leaseSilence exec_leaseSilence fun _ ⟨silent, fenced, free, unheard, primary⟩ =>
    leaseSilence_of_primary silent fenced free unheard primary

theorem silenceDelays_holds : silenceDelays.Holds :=
  Rule.holds_of_event _ leaseSilence exec_leaseSilence fun _ ⟨silent, fenced, free, unheard, secondary, undue⟩ =>
    leaseSilence_of_secondary silent fenced free unheard secondary undue

theorem roleClaims_holds (due : Nat) : (roleClaims due).Holds :=
  Rule.holds_of_event _ twinRoleDelayExpiry exec_twinRoleDelayExpiry fun _ ⟨fenced, unheard, free, claim, reached⟩ =>
    twinRoleDelayExpiry_of_due fenced unheard free claim reached

theorem aliveStops_holds : aliveStops.Holds :=
  Rule.holds_of_event _ aliveInStopped exec_aliveInStopped fun _ due => aliveInStopped_of_due due

/-- An edge is noted in every state. -/
theorem aliveRuns_holds : aliveRuns.Holds := Rule.holds_of_event _ aliveInEdge exec_aliveInEdge fun _ _ => rfl

theorem aliveToggles_holds : aliveToggles.Holds :=
  Rule.holds_of_event _ aliveOutToggle exec_aliveOutToggle fun _ ⟨enabled, runs, due⟩ => aliveOutToggle_of_due enabled runs due

/-- Settles O51, row by row, each under the condition on the lease, the pulse, the silence or the ALIVE line; claims of a SUSPECT, a JOINING or a
COLDTO device are in no row. -/
theorem leaseIsKept : Obligations.LeaseIsKept :=
  ⟨renewalSent_holds, pulseRenews_holds, pulseAcknowledges_holds, pulseStale_holds, selfFenced_holds, partnerLost_holds, silenceClaims_holds,
    silenceAlarms_holds, silenceFirstClaim_holds, silenceDelays_holds, roleClaims_holds, aliveStops_holds, aliveRuns_holds, aliveToggles_holds⟩

end Sys2Proof.Machine
end

section
/-! SUPPORT. The fence, planned handovers, the mirror and missed signatures: what each event does in each case of the Twin Unit (R372, R383, R385,
R389, R390, R396, R402), and the rows. -/
namespace Sys2Proof.Machine
open Sys2Proof.Safety

/-! ### The fence (R372, R383) -/

section
variable {s : State} {h : Int} (due : s.twin.fenceFrom = some h) (reached : h ≤ s.index)
include due reached

theorem twinFenceSwitch_of_no_handover (noHand : s.twin.hand = none) (noOffer : s.twin.offered = none) :
    twinFenceSwitch s = (fenceSwitches h).effect s := by
  have begun : ¬ s.index < h := Int.not_lt.2 reached
  simp only [twinFenceSwitch, due, begun, noHand, noOffer, State.updTwin, if_false]

theorem twinFenceSwitch_of_holder {x : Handover} (hand : s.twin.hand = some x) (committed : x.committed = true) :
    twinFenceSwitch s = (handoverGiven h x).effect s := by
  have begun : ¬ s.index < h := Int.not_lt.2 reached
  simp only [twinFenceSwitch, due, begun, hand, committed, if_false, if_true]

theorem twinFenceSwitch_of_partner {b : Int} {e : Nat} (noHand : s.twin.hand = none) (offered : s.twin.offered = some (b, e, true)) :
    twinFenceSwitch s = (handoverTaken h b e).effect s := by
  have begun : ¬ s.index < h := Int.not_lt.2 reached
  simp only [twinFenceSwitch, due, begun, noHand, offered, if_false]

end

/-! ### Messages of a handover (R383, Table 13-9) -/

section
variable {s : State} {h : Word} {e : Nat} {b : Int} {x : Handover}

theorem handoverReceived_of_inStep (urgent : Bool) (enabled : s.twin.enabled = true) (inStep : s.twin.state = .inStep)
    (ahead : s.index < nearestIndex h s.index) (later : s.twin.epoch < e) :
    handoverReceived h e urgent s = (handoverAnswered h e urgent).effect s := by
  have standby : s.twin.standby = true := by simp [Twin.standby, enabled, inStep]
  have fresh : ¬ nearestIndex h s.index ≤ s.index ∧ ¬ e ≤ s.twin.epoch := ⟨Int.not_le.2 ahead, Nat.not_le.2 later⟩
  simp only [handoverReceived, standby, fresh, inStep, State.updTwin, decide_false, Bool.not_true, Bool.or_self, Bool.false_eq_true, if_false,
    if_true]

theorem handoverReceived_of_stale (urgent : Bool) (standby : s.twin.standby = true)
    (stale : nearestIndex h s.index ≤ s.index ∨ e ≤ s.twin.epoch) : handoverReceived h e urgent s = s.twlStale := by
  have late : (decide (nearestIndex h s.index ≤ s.index) || decide (e ≤ s.twin.epoch)) = true := by
    simpa only [Bool.or_eq_true, decide_eq_true_eq] using stale
  simp only [handoverReceived, standby, late, Bool.not_true, Bool.false_eq_true, if_false, if_true]

theorem hackReceived_of_timely (hand : s.twin.hand = some x) (new : x.committed = false) (timely : s.time ≤ s.hackLimit x) :
    hackReceived (lo32 x.h) s = (hackCommits x).effect s := by
  have inTime : ¬ s.hackLimit x < s.time := Int.not_lt.2 timely
  simp only [hackReceived, hand, new, inTime, ne_eq, not_true_eq_false, decide_false, Bool.or_self, Bool.false_eq_true, if_false]

theorem commitReceived_of_offered (offered : s.twin.offered = some (b, e, false)) (timely : s.time ≤ s.startOf b)
    (inStep : s.twin.state = .inStep) : commitReceived (lo32 b) s = (commitTaken b e).effect s := by
  simp only [commitReceived, offered, timely, inStep, decide_true, Bool.and_self, if_true]

theorem cancelReceived_of_offered (offered : s.twin.offered = some (b, e, false)) : cancelReceived (lo32 b) s = (cancelTaken b e).effect s := by
  simp only [cancelReceived, offered, State.updTwin, if_true]

/-- Without a fence that was forced, a handover that fails leaves the holder as it is. -/
theorem hackDeadline_of_passed (hand : s.twin.hand = some x) (open_ : x.committed = false) (passed : s.hackLimit x < s.time)
    (unforced : x.fence ≠ some true) : hackDeadline s = (handoverFails x).effect s := by
  have late : ¬ s.time ≤ s.hackLimit x := Int.not_le.2 passed
  simp only [hackDeadline, hand, open_, late, unforced, decide_false, Bool.or_self, Bool.false_eq_true, if_false]

end

/-! ### Take-back, fence requests and DETACH (R385, R402, R513) -/

section
variable {s : State}

/-- The wait d is a variable, for the kernel would compute with the hold-off's register if it stood here. -/
theorem any_of_elapsed {o : Option Nat} {since d now : Nat} (last : o = some since) (due : since + d ≤ now) :
    o.any (fun t => decide (t + d ≤ now)) = true := by
  rw [last, Option.any_some, decide_eq_true due]

theorem takebackHoldoffExpiry_of_due {since : Nat} (takeback : s.takeback = true) (secondary : s.secondary = true)
    (primary : s.twin.partnerSecondary = false) (possible : s.handoverPossible = true) (inStep : s.twin.stepSince = some since)
    (due : since + s.holdoff ≤ s.now) : takebackHoldoffExpiry s = s.startHandover false none := by
  have elapsed := any_of_elapsed inStep due
  simp only [takebackHoldoffExpiry, takeback, secondary, primary, possible, elapsed, Bool.not_false, Bool.and_self, if_true]

/-- A device that is not DETACHED and does not hold the lease is fenced with HOLD, forced or not. -/
theorem State.fenceSelf_of_standby (force : Bool) (notDetached : s.twin.state ≠ .detached) (notActive : s.twin.state ≠ .active) :
    s.fenceSelf force = some s.fenceHeld := by
  simp only [State.fenceSelf, notDetached, notActive, decide_false, Bool.false_eq_true, if_false]

/-- A holder that cannot hand over is not fenced unless forced. -/
theorem State.fenceSelf_of_alone (active : s.twin.state = .active) (alone : s.handoverPossible = false) : s.fenceSelf false = none := by
  have notDetached : ¬ TwinState.active = .detached := by decide
  simp only [State.fenceSelf, active, alone, notDetached, decide_false, Bool.false_eq_true, if_false, if_true]

theorem fenceRequested_of_standby (force : Bool) (notDetached : s.twin.state ≠ .detached) (notActive : s.twin.state ≠ .active) :
    fenceRequested force s = (fencedOnRequest force).effect s := by
  simp only [fenceRequested, State.fenceSelf_of_standby force notDetached notActive]

theorem fenceRequested_of_alone (active : s.twin.state = .active) (alone : s.handoverPossible = false) : fenceRequested false s = s := by
  simp only [fenceRequested, State.fenceSelf_of_alone active alone]

end

/-! ### The mirror and signatures (R389, R390, R396) -/

section
variable {s : State} {k : Int}

section
variable (mirrors : s.twin.mirrors = true) (next : s.audio.next = some k)
  (goesOn : (s.reachQuantum k).processing = true ∧ (s.reachQuantum k).audio.next = some k)
include mirrors next goesOn

theorem mirrorReady_of_whole (whole : s.twin.mirrorWhole (k * s.q) s.q = true) : mirrorReady k s = (mirrorRuns k).effect s := by
  simp only [mirrorReady, mirrors, next, whole, goesOn, ne_eq, not_true_eq_false, decide_false, decide_true, Bool.not_true, Bool.or_self,
    Bool.and_self, Bool.false_eq_true, if_false, if_true]

theorem mirrorFallback_of_due (due : s.fallbackTime k ≤ s.time) : mirrorFallback k s = (mirrorFalls k).effect s := by
  have reached : ¬ s.time < s.fallbackTime k := Int.not_lt.2 due
  simp only [mirrorFallback, mirrors, next, reached, goesOn, ne_eq, not_true_eq_false, decide_false, decide_true, Bool.not_true, Bool.or_self,
    Bool.and_self, Bool.false_eq_true, if_false, if_true]

end

theorem signatureMiss_of_none {own : Signature} (compares : s.compares = true) (notActive : s.twin.state ≠ .active)
    (due : s.deadlineReached (k + 2) = true) (signed : own ∈ s.twin.sigs) (ofQuantum : own.index = k * s.q)
    (unjudged : s.twin.judged.contains (k * s.q) = false) (missing : ∀ x ∈ s.twin.partnerSigs, x.index ≠ k * s.q) :
    signatureMiss k s = (signatureMissed k own).effect s := by
  have owns : s.twin.sigs.any (fun x => decide (x.index = k * s.q)) = true := List.any_eq_true.2 ⟨own, signed, decide_eq_true ofQuantum⟩
  have misses : s.twin.partnerSigs.all (fun x => decide (x.index ≠ k * s.q)) = true :=
    List.all_eq_true.2 fun x held => decide_eq_true (missing x held)
  simp only [signatureMiss, compares, notActive, due, owns, unjudged, misses, ne_eq, not_false_eq_true, decide_true, Bool.not_false,
    Bool.and_self, if_true]

end

/-! ### The rows -/

section
variable (h : Int)

theorem fenceSwitches_holds : (fenceSwitches h).Holds :=
  Rule.holds_of_event _ twinFenceSwitch exec_twinFenceSwitch fun _ ⟨due, reached, noHand, noOffer⟩ =>
    twinFenceSwitch_of_no_handover due reached noHand noOffer

theorem handoverGiven_holds (x : Handover) : (handoverGiven h x).Holds :=
  Rule.holds_of_event _ twinFenceSwitch exec_twinFenceSwitch fun _ ⟨due, reached, hand, committed⟩ =>
    twinFenceSwitch_of_holder due reached hand committed

theorem handoverTaken_holds (b : Int) (e : Nat) : (handoverTaken h b e).Holds :=
  Rule.holds_of_event _ twinFenceSwitch exec_twinFenceSwitch fun _ ⟨due, reached, noHand, offered⟩ =>
    twinFenceSwitch_of_partner due reached noHand offered

end

section
variable (h : Word) (e : Nat) (urgent : Bool)

theorem handoverAnswered_holds : (handoverAnswered h e urgent).Holds :=
  Rule.holds_of_event _ (handoverReceived h e urgent) (fun t s => exec_handoverReceived t h e urgent s)
    fun _ ⟨enabled, inStep, ahead, later⟩ => handoverReceived_of_inStep urgent enabled inStep ahead later

theorem handoverStale_holds : (handoverStale h e urgent).Holds :=
  Rule.holds_of_event _ (handoverReceived h e urgent) (fun t s => exec_handoverReceived t h e urgent s) fun _ ⟨standby, stale⟩ =>
    handoverReceived_of_stale urgent standby stale

end

section
variable (x : Handover)

theorem hackCommits_holds : (hackCommits x).Holds :=
  Rule.holds_of_event _ (hackReceived (lo32 x.h)) (fun t s => exec_hackReceived t (lo32 x.h) s) fun _ ⟨hand, new, timely⟩ =>
    hackReceived_of_timely hand new timely

theorem handoverFails_holds : (handoverFails x).Holds :=
  Rule.holds_of_event _ hackDeadline exec_hackDeadline fun _ ⟨hand, open_, passed, unforced⟩ => hackDeadline_of_passed hand open_ passed unforced

end

section
variable (b : Int) (e : Nat)

theorem commitTaken_holds : (commitTaken b e).Holds :=
  Rule.holds_of_event _ (commitReceived (lo32 b)) (fun t s => exec_commitReceived t (lo32 b) s) fun _ ⟨offered, timely, inStep⟩ =>
    commitReceived_of_offered offered timely inStep

theorem cancelTaken_holds : (cancelTaken b e).Holds :=
  Rule.holds_of_event _ (cancelReceived (lo32 b)) (fun t s => exec_cancelReceived t (lo32 b) s) fun _ offered => cancelReceived_of_offered offered

end

theorem takebackStarts_holds (since : Nat) : (takebackStarts since).Holds :=
  Rule.holds_of_event _ takebackHoldoffExpiry exec_takebackHoldoffExpiry
    fun _ ⟨takeback, secondary, primary, possible, inStep, due⟩ => takebackHoldoffExpiry_of_due takeback secondary primary possible inStep due

theorem fencedOnRequest_holds (force : Bool) : (fencedOnRequest force).Holds :=
  Rule.holds_of_event _ (fenceRequested force) (fun t s => exec_fencereqReceived t force s) fun _ ⟨notDetached, notActive⟩ =>
    fenceRequested_of_standby force notDetached notActive

theorem fenceRefused_holds : fenceRefused.Holds :=
  Rule.holds_of_event _ (fenceRequested false) (fun t s => exec_fencereqReceived t false s) fun _ ⟨active, alone⟩ =>
    fenceRequested_of_alone active alone

theorem detachHolds_holds : detachHolds.Holds :=
  Rule.holds_of_event _ detachReceived exec_detachReceived fun _ standby => if_pos standby

section
variable (k : Int)

theorem mirrorRuns_holds : (mirrorRuns k).Holds :=
  Rule.holds_of_event _ (mirrorReady k) (fun t s => exec_mirrorReady t k s) fun _ ⟨mirrors, next, whole, goesOn⟩ =>
    mirrorReady_of_whole mirrors next goesOn whole

theorem mirrorFalls_holds : (mirrorFalls k).Holds :=
  Rule.holds_of_event _ (mirrorFallback k) (fun t s => exec_mirrorFallback t k s) fun _ ⟨mirrors, next, due, goesOn⟩ =>
    mirrorFallback_of_due mirrors next goesOn due

theorem signatureMissed_holds (own : Signature) : (signatureMissed k own).Holds :=
  Rule.holds_of_event _ (signatureMiss k) (fun t s => exec_signatureMiss t k s)
    fun _ ⟨compares, notActive, due, signed, ofQuantum, unjudged, missing⟩ =>
      signatureMiss_of_none compares notActive due signed ofQuantum unjudged missing

end

/-- Settles O52, row by row, each under the condition on the fence, the handover, the request, the mirror or the signatures; a holder that hands
over, or is forced, on a fence request is in no row. -/
theorem handoversRun : Obligations.HandoversRun :=
  ⟨fenceSwitches_holds, handoverGiven_holds, handoverTaken_holds, handoverAnswered_holds, handoverStale_holds, hackCommits_holds,
    commitTaken_holds, cancelTaken_holds, handoverFails_holds, takebackStarts_holds, fencedOnRequest_holds, fenceRefused_holds,
    detachHolds_holds, mirrorRuns_holds, mirrorFalls_holds, signatureMissed_holds⟩

end Sys2Proof.Machine
end

section
/-! SUPPORT. The Twin Link and joins: what each frame, relay section, loss of lock, retry and copy block does in each case of the Twin Unit (R386 to
R388, R393 to R400, R422), and the rows. -/
namespace Sys2Proof.Machine
open Sys2Proof.Safety

/-! ### Launches (R386, R388) -/

/-- A course of events holds once its row is an event after whose meaning the relation stands wherever the guard is met. -/
theorem Course.holds_of_event (r : Course) (f : State → State) (row : ∀ t s, exec (r.row t) s = eventRow f t s)
    (after : ∀ u, r.guard u → r.after u (f u)) : r.Holds := fun t s h => ⟨f (s.atTime t), row t s, after _ h⟩

/-- The next copy block moves nothing but the capture on. -/
theorem State.nextBlock_frame (s : State) : ∃ c, s.nextBlock.2 = { s with twin := { s.twin with capture := c } } := by
  unfold State.nextBlock
  split
  · split
    · exact ⟨_, rfl⟩
    · exact ⟨_, rfl⟩
  · exact ⟨_, rfl⟩

/-- A frame launched reads the Twin Unit as it was before its copy block, and takes the marks that it carries away from it. -/
theorem twinLinkFrameLaunch_of_due {s : State} (enabled : s.twin.enabled = true) (powered : s.pd.testBit 13 = true)
    (due : s.twin.launched ≠ some s.index) : twinLaunches.after s (twinLinkFrameLaunch s) := by
  obtain ⟨c, block⟩ := s.nextBlock_frame
  simp only [twinLinkFrameLaunch, enabled, powered, due, block, Bool.true_or, Bool.not_true, Bool.true_eq_false, decide_false, Bool.or_self,
    Bool.false_eq_true, decide_eq_true_eq, if_false, true_and]
  exact ⟨_, rfl, rfl, rfl, rfl, rfl, rfl, rfl, rfl, rfl, rfl⟩

/-! ### Frames received (R386, R396) -/

section
variable {s : State} {f : TwlFrame} (hears : twinHears s)
include hears

section
variable (intact : f.intact = true) (after : s.index - 2 ≤ s.labelIndex f.label) (before : s.labelIndex f.label ≤ s.index + 2)
include intact after before

theorem twinLinkFrameReceived_of_unsigned (unsigned : f.sig = none) (noJoin : (partnerHeard f s).twin.phase = .none) :
    twinLinkFrameReceived f s = partnerHeard f s := by
  obtain ⟨enabled, lock⟩ := hears
  have notEarly : ¬ s.labelIndex f.label < s.index - 2 := Int.not_lt.2 after
  have notLate : ¬ s.index + 2 < s.labelIndex f.label := Int.not_lt.2 before
  unfold partnerHeard at noJoin ⊢
  simp only [twinLinkFrameReceived, enabled, lock, intact, notEarly, notLate, unsigned, noJoin, ne_eq, not_true_eq_false, decide_false,
    Bool.not_true, Bool.or_self, Bool.false_and, Bool.false_eq_true, if_false]

theorem twinLinkFrameReceived_of_signed {x : Word × Nat × Bool} (signed : f.sig = some x)
    (noJoin : ((partnerHeard f s).takeSig x).twin.phase = .none) : twinLinkFrameReceived f s = (partnerHeard f s).takeSig x := by
  obtain ⟨enabled, lock⟩ := hears
  have notEarly : ¬ s.labelIndex f.label < s.index - 2 := Int.not_lt.2 after
  have notLate : ¬ s.index + 2 < s.labelIndex f.label := Int.not_lt.2 before
  unfold partnerHeard at noJoin ⊢
  simp only [twinLinkFrameReceived, enabled, lock, intact, notEarly, notLate, signed, noJoin, ne_eq, not_true_eq_false, decide_false,
    Bool.not_true, Bool.or_self, Bool.false_and, Bool.false_eq_true, if_false]

end

theorem twinLinkFrameReceived_of_bad (bad : f.intact = false ∨ s.labelIndex f.label < s.index - 2 ∨ s.index + 2 < s.labelIndex f.label) :
    twinLinkFrameReceived f s = (twinFrameBad f).effect s := by
  obtain ⟨enabled, lock⟩ := hears
  have refused : (!f.intact || decide (s.labelIndex f.label < s.index - 2) || decide (s.index + 2 < s.labelIndex f.label)) = true := by
    simpa only [Bool.or_eq_true, Bool.not_eq_true', decide_eq_true_eq, or_assoc] using bad
  simp only [twinLinkFrameReceived, enabled, lock, refused, Bool.not_true, Bool.or_self, Bool.false_eq_true, if_false, if_true]

/-! ### Relay sections (R393, R422) -/

variable {x : RelaySection}

theorem relaySectionReceived_eq : relaySectionReceived x s = (s.takeSection x).2.foldl (entryTaken x.seq) (s.takeSection x).1 := by
  obtain ⟨enabled, lock⟩ := hears
  simp only [relaySectionReceived, enabled, lock, Bool.not_true, Bool.or_self, Bool.false_eq_true, if_false]
  rfl

theorem relaySectionReceived_of_expected (expected : s.twin.relayNext.getD x.seq = x.seq) :
    relaySectionReceived x s = (sectionTaken x).effect s := by
  rw [relaySectionReceived_eq hears]
  simp only [State.takeSection, expected, if_true]

variable {n : Nat} (next : s.twin.relayNext = some n) (other : x.seq ≠ n)
include next other

theorem relaySectionReceived_of_repeated (repeated : (x.seq + 1) % 2 ^ 16 = n) : relaySectionReceived x s = s := by
  rw [relaySectionReceived_eq hears]
  simp only [State.takeSection, next, Option.getD_some, other, repeated, if_false, if_true, List.foldl_nil]

theorem relaySectionReceived_of_gap (unrepeated : (x.seq + 1) % 2 ^ 16 ≠ n) : relaySectionReceived x s = (sectionGap x n).effect s := by
  rw [relaySectionReceived_eq hears]
  simp only [State.takeSection, next, Option.getD_some, other, unrepeated, if_false, List.foldl_nil]

end

section
variable {s : State}

theorem relayGapTimeout_of_due {g : Nat} (gap : s.twin.gapAt = some g) (due : 2 * ticksOfMs 1000 ≤ (s.now - g) * s.fs) :
    relayGapTimeout s = (gapExpires g).effect s := by
  simp only [relayGapTimeout, gap]
  exact if_neg (Nat.not_lt.2 due)

/-! ### Block lock (R394, R400) -/

theorem twlLockLoss_of_locked (lock : s.twin.lock = true) : twlLockLoss s = twinLockLost.effect s := by
  simp only [twlLockLoss, lock, Bool.not_true, Bool.false_eq_true, if_false]

theorem twlBlockLockGain_of_unlocked (d : Nat) (unlocked : s.twin.lock = false) : twlBlockLockGain d s = (twinLockGained d).effect s := by
  simp only [twlBlockLockGain, unlocked, Bool.false_eq_true, if_false]

/-! ### Joins (R398 to R400, Table 13-8) -/

section
variable (autojoin : s.autojoin = true) (free : s.twin.hold = false) (noJoin : s.twin.phase = .none) (may : s.mayJoin = true)
include autojoin free noJoin may

theorem twinAutojoinStart_of_free (noRetry : s.twin.retryAt = none) : twinAutojoinStart s = s.startJoin := by
  simp only [twinAutojoinStart, autojoin, free, noJoin, may, noRetry, Option.isNone_none, decide_true, Bool.not_false, Bool.and_self, if_true]

theorem joinRetry_of_due {due : Nat} (retry : s.twin.retryAt = some due) (reached : due ≤ s.now) : joinRetry s = s.startJoin := by
  simp only [joinRetry, autojoin, free, noJoin, may, retry, reached, Option.any_some, decide_true, Bool.not_false, Bool.and_self, if_true]

end

section
variable {x : CopyBlock} (c : Copied) (copying : s.twin.phase = .copy) (new : s.twin.blocks.contains x.num = false)
include copying new

/-- A new block of a copy is noted, and the copy ends with the block that makes it whole. -/
theorem State.takeBlock_of_new (ok : Bool) : s.takeBlock x ok c =
    if copyWhole (blockNoted x s) then
      if ok then ((blockNoted x s).joinCommit c (blockNoted x s).twin.joinAt, true)
      else ((blockNoted x s).updTwin fun t => { t with blocks := [], blockSize := 0 }, false)
    else (blockNoted x s, false) := by
  simp only [State.takeBlock, copying, new, ne_eq, not_true_eq_false, decide_false, Bool.or_self, Bool.false_eq_true, if_false]
  rfl

theorem joinCopyBlock_of_more (ok : Bool) (more : copyWhole (blockNoted x s) = false) : joinCopyBlock x ok c s = blockNoted x s := by
  simp only [joinCopyBlock, State.takeBlock_of_new c copying new, more, Bool.false_eq_true, if_false]

section
variable (whole : copyWhole (blockNoted x s) = true)
include whole

theorem joinCopyBlock_of_good : joinCopyBlock x true c s = (copyCommitted x c).effect s := by
  simp only [joinCopyBlock, State.takeBlock_of_new c copying new, whole, if_true]

theorem joinCopyBlock_of_bad : joinCopyBlock x false c s = (copyRejected x c).effect s := by
  simp only [joinCopyBlock, State.takeBlock_of_new c copying new, whole, Bool.false_eq_true, if_false, if_true]

end
end

theorem joinCatchupDone_of_caught_up (catchup : s.twin.phase = .catchup) (reached : s.caughtUp = true) :
    joinCatchupDone s = catchupEnds.effect s := by
  simp only [joinCatchupDone, catchup, reached, State.updTwin, decide_true, Bool.and_self, if_true]

theorem joinHealDone_of_healed (heal : s.twin.phase = .heal) (reached : s.twin.healTo ≤ s.index) : joinHealDone s = healEnds.effect s := by
  simp only [joinHealDone, heal, reached, State.updTwin, decide_true, Bool.and_self, if_true]

end

/-! ### The rows -/

theorem twinLaunches_holds : twinLaunches.Holds :=
  Course.holds_of_event _ twinLinkFrameLaunch exec_twinLinkFrameLaunch fun _ ⟨enabled, powered, due⟩ =>
    twinLinkFrameLaunch_of_due enabled powered due

section
variable (f : TwlFrame)

theorem twinFrameHeard_holds : (twinFrameHeard f).Holds :=
  Rule.holds_of_event _ (twinLinkFrameReceived f) (fun t s => exec_twinLinkFrameReceived t f s)
    fun _ ⟨hears, intact, after, before, unsigned, noJoin⟩ => twinLinkFrameReceived_of_unsigned hears intact after before unsigned noJoin

theorem twinFrameSigned_holds (x : Word × Nat × Bool) : (twinFrameSigned f x).Holds :=
  Rule.holds_of_event _ (twinLinkFrameReceived f) (fun t s => exec_twinLinkFrameReceived t f s)
    fun _ ⟨hears, intact, after, before, signed, noJoin⟩ => twinLinkFrameReceived_of_signed hears intact after before signed noJoin

theorem twinFrameBad_holds : (twinFrameBad f).Holds :=
  Rule.holds_of_event _ (twinLinkFrameReceived f) (fun t s => exec_twinLinkFrameReceived t f s) fun _ ⟨hears, bad⟩ =>
    twinLinkFrameReceived_of_bad hears bad

end

section
variable (x : RelaySection)

theorem sectionTaken_holds : (sectionTaken x).Holds :=
  Rule.holds_of_event _ (relaySectionReceived x) (fun t s => exec_relaySectionReceived t x s) fun _ ⟨hears, expected⟩ =>
    relaySectionReceived_of_expected hears expected

theorem sectionRepeated_holds (n : Nat) : (sectionRepeated x n).Holds :=
  Rule.holds_of_event _ (relaySectionReceived x) (fun t s => exec_relaySectionReceived t x s) fun _ ⟨hears, next, other, repeated⟩ =>
    relaySectionReceived_of_repeated hears next other repeated

theorem sectionGap_holds (n : Nat) : (sectionGap x n).Holds :=
  Rule.holds_of_event _ (relaySectionReceived x) (fun t s => exec_relaySectionReceived t x s) fun _ ⟨hears, next, other, unrepeated⟩ =>
    relaySectionReceived_of_gap hears next other unrepeated

end

theorem gapExpires_holds (g : Nat) : (gapExpires g).Holds :=
  Rule.holds_of_event _ relayGapTimeout exec_relayGapTimeout fun _ ⟨gap, due⟩ => relayGapTimeout_of_due gap due

theorem twinLockLost_holds : twinLockLost.Holds :=
  Rule.holds_of_event _ twlLockLoss exec_twlLockLoss fun _ lock => twlLockLoss_of_locked lock

theorem twinLockGained_holds (d : Nat) : (twinLockGained d).Holds :=
  Rule.holds_of_event _ (twlBlockLockGain d) (fun t s => exec_twlBlockLockGain t d s) fun _ unlocked => twlBlockLockGain_of_unlocked d unlocked

theorem joinStarts_holds : joinStarts.Holds :=
  Rule.holds_of_event _ twinAutojoinStart exec_twinAutojoinStart fun _ ⟨autojoin, free, noJoin, noRetry, may⟩ =>
    twinAutojoinStart_of_free autojoin free noJoin may noRetry

theorem joinAgain_holds (due : Nat) : (joinAgain due).Holds :=
  Rule.holds_of_event _ joinRetry exec_joinRetry fun _ ⟨autojoin, free, noJoin, retry, reached, may⟩ =>
    joinRetry_of_due autojoin free noJoin may retry reached

theorem blockKept_holds (x : CopyBlock) (ok : Bool) (c : Copied) : (blockKept x ok c).Holds :=
  Rule.holds_of_event _ (joinCopyBlock x ok c) (fun t s => exec_joinCopyBlock t x ok c s) fun _ ⟨copying, new, more⟩ =>
    joinCopyBlock_of_more c copying new ok more

section
variable (x : CopyBlock) (c : Copied)

theorem copyCommitted_holds : (copyCommitted x c).Holds :=
  Rule.holds_of_event _ (joinCopyBlock x true c) (fun t s => exec_joinCopyBlock t x true c s) fun _ ⟨copying, new, whole⟩ =>
    joinCopyBlock_of_good c copying new whole

/-- That every block of a copy whose CRC-64 disagrees is forgotten, and the copy begins again, is the model's choice (DEDUCED, log entry 63). -/
theorem copyRejected_holds : (copyRejected x c).Holds :=
  Rule.holds_of_event _ (joinCopyBlock x false c) (fun t s => exec_joinCopyBlock t x false c s) fun _ ⟨copying, new, whole⟩ =>
    joinCopyBlock_of_bad c copying new whole

end

theorem catchupEnds_holds : catchupEnds.Holds :=
  Rule.holds_of_event _ joinCatchupDone exec_joinCatchupDone fun _ ⟨catchup, reached⟩ => joinCatchupDone_of_caught_up catchup reached

theorem healEnds_holds : healEnds.Holds :=
  Rule.holds_of_event _ joinHealDone exec_joinHealDone fun _ ⟨heal, reached⟩ => joinHealDone_of_healed heal reached

/-- Settles O53, row by row, each under the condition on the frame, the section, the lock or the join; of a frame launched only the fields that
its row names, and a frame heard while a join is under way is in no row. -/
theorem twinLinkAndJoinsRun : Obligations.TwinLinkAndJoinsRun :=
  ⟨twinLaunches_holds, twinFrameHeard_holds, twinFrameSigned_holds, twinFrameBad_holds, sectionTaken_holds, sectionRepeated_holds,
    sectionGap_holds, gapExpires_holds, twinLockLost_holds, twinLockGained_holds, joinStarts_holds, joinAgain_holds,
    blockKept_holds, copyCommitted_holds, copyRejected_holds, catchupEnds_holds, healEnds_holds⟩

end Sys2Proof.Machine
end

section
/-! SUPPORT. Answers and refusals of packets: what each leaves of its channel and of the rest of the state (R406, R407, R425, R427, R433). -/
namespace Sys2Proof.Machine
open Sys2Proof.Safety

/-! ### What an operation of the protocol leaves of its channel -/

/-- A channel's set once packet p is refused: a member fails, and any other packet leaves the set as it is (R67). -/
def failedSet (p : Packet) (set : Option SafeSet) : Option SafeSet :=
  if p.group then set.map fun g => { g with refused := g.refused + 1 } else set

section
variable (s : State) (p : Packet)

theorem State.chan_memberFailed (ch : Nat) : (s.memberFailed ch p).chan ch = { s.chan ch with set := failedSet p (s.chan ch).set } := by
  unfold State.memberFailed failedSet
  split
  · exact s.chan_updChan_same ch _
  · rfl

theorem State.chan_memberFailed_other {ch n : Nat} (other : n ≠ ch) : (s.memberFailed ch p).chan n = s.chan n := by
  unfold State.memberFailed
  split
  · exact s.chan_updChan_other _ other
  · rfl

theorem State.memberFailed_onlyNotes (ch : Nat) : OnlyNotes (s.memberFailed ch p) s := by
  unfold State.memberFailed
  split <;> rfl

theorem State.memberFailed_regs (ch : Nat) : (s.memberFailed ch p).regs = s.regs := by
  unfold State.memberFailed
  split <;> rfl

/-- A reply given to a transport joins the replies that wait there; a ring's status block and producer index move on. -/
theorem State.chan_emit (n : Nat) (r : Reply) :
    ∃ status rprod, (s.emit n r).chan n = { s.chan n with out := (s.chan n).out ++ [r], status := status, rprod := rprod } := by
  rw [State.chan_emit_same]
  split <;> exact ⟨_, _, rfl⟩

/-- An answer enters the tag history, and waits at the transport unless NOREPLY suppresses it. -/
theorem State.chan_answer (op : Nat) (st : Status) (d : Nat) (time : Int) (words : List Word) :
    ∃ status rprod, (s.answer op p st d time words).chan p.ch =
      { (s.chan p.ch).enter p.tag (p.check op) (mkReply op p st d time words) with
        out := (s.chan p.ch).out ++ (if suppressed p st then [] else [mkReply op p st d time words]), status := status, rprod := rprod } := by
  unfold State.answer
  split
  · exact ⟨_, _, by rw [State.chan_updChan_same, List.append_nil]; rfl⟩
  · obtain ⟨status, rprod, sent⟩ := State.chan_emit (s.updChan p.ch fun c => c.enter p.tag (p.check op) (mkReply op p st d time words)) p.ch
      (mkReply op p st d time words)
    exact ⟨status, rprod, by rw [sent, State.chan_updChan_same]; rfl⟩

theorem State.chan_answer_other (op : Nat) (st : Status) (d : Nat) (time : Int) (words : List Word) {n : Nat} (other : n ≠ p.ch) :
    (s.answer op p st d time words).chan n = s.chan n := by
  unfold State.answer
  split
  · exact s.chan_updChan_other _ other
  · rw [State.chan_emit_other _ _ other, State.chan_updChan_other _ _ other]

theorem State.answer_onlyNotes (op : Nat) (st : Status) (d : Nat) (time : Int) (words : List Word) :
    OnlyNotes (s.answer op p st d time words) s := by
  unfold State.answer
  split <;> rfl

variable (c : CmdSpec)

/-- The final packet of a continued command closes its chain (R430). -/
theorem chan_closeChain :
    (closeChain c p s).chan p.ch = { s.chan p.ch with chain := if c.continued = true ∧ p.more = false then none else (s.chan p.ch).chain } := by
  unfold closeChain
  split
  · next closes => rw [State.chan_updChan_same, if_pos (by simpa using closes)]
  · next stays => rw [if_neg (by simpa using stays)]

theorem chan_closeChain_other {n : Nat} (other : n ≠ p.ch) : (closeChain c p s).chan n = s.chan n := by
  unfold closeChain
  split
  · exact s.chan_updChan_other _ other
  · rfl

theorem closeChain_onlyNotes : OnlyNotes (closeChain c p s) s := by
  unfold closeChain
  split <;> rfl

theorem closeChain_regs : (closeChain c p s).regs = s.regs := by
  unfold closeChain
  split <;> rfl

end

/-! ### Refusals at steps 1 to 3 (R427) -/

section
variable (s : State) (ch kind : Nat) (r : Reply) (p : Packet)

theorem State.chan_turnAway :
    ∃ status rprod, (s.turnAway ch kind r p).chan ch =
      { s.chan ch with out := (s.chan ch).out ++ [r], set := failedSet p (s.chan ch).set, status := status, rprod := rprod } := by
  obtain ⟨status, rprod, sent⟩ := ((s.memberFailed ch p).violation ch kind p.tag).chan_emit ch r
  exact ⟨status, rprod, by rw [State.turnAway, sent, State.chan_violation, State.chan_memberFailed]⟩

theorem State.chan_turnAway_other {n : Nat} (other : n ≠ ch) : (s.turnAway ch kind r p).chan n = s.chan n := by
  rw [State.turnAway, State.chan_emit_other _ _ other, State.chan_violation, State.chan_memberFailed_other _ _ other]

theorem State.turnAway_onlyNotes : OnlyNotes (s.turnAway ch kind r p) s :=
  (State.emit_onlyNotes _ ch r).trans ((State.violation_onlyNotes _ ch kind p.tag).trans (s.memberFailed_onlyNotes p ch))

/-- A packet turned away is answered; its tag is not entered, and nothing but its channel and the notes of it changes. -/
theorem State.turnAway_answers :
    ((s.turnAway ch kind r p).chan ch).out = (s.chan ch).out ++ [r] ∧ ((s.turnAway ch kind r p).chan ch).hist = (s.chan ch).hist ∧
    ((s.turnAway ch kind r p).chan ch).thi = (s.chan ch).thi ∧ (∀ n, n ≠ ch → (s.turnAway ch kind r p).chan n = s.chan n) ∧
    OnlyNotes (s.turnAway ch kind r p) s := by
  obtain ⟨status, rprod, refused⟩ := s.chan_turnAway ch kind r p
  rw [refused]
  exact ⟨rfl, rfl, rfl, fun _ other => s.chan_turnAway_other ch kind r p other, s.turnAway_onlyNotes ch kind r p⟩

end

/-- Word i that a transport gave, 0 past its last. -/
def Waiting.word (x : Waiting) (i : Nat) : Word := x.words.getD i 0

/-- The opcode and the packet that the words spell on channel ch, of the length that LENGTH gives within its range. -/
def Waiting.spelled (x : Waiting) (ch : Nat) : Nat × Packet :=
  packetOf ((List.range (max 4 (min 1024 (fld (x.word 0) 15 0)))).map x.word) ch

/-- A refusal at steps 1 to 3 returns the CHANNEL as received (R427). -/
def Waiting.echo (x : Waiting) (ch : Nat) (s : State) (st : Status) (d : Nat) : Reply :=
  { mkReply (x.spelled ch).1 (x.spelled ch).2 st d s.index [] with ch := fld (x.word 1) 15 8 }

section
variable (s : State) {ch : Nat} {x : Waiting}

theorem State.takeWords_of_bad_check (bad : ¬ fld (x.word 1) 7 0 = headerCheck (x.word 0) (x.word 1) (x.word 2) (x.word 3)) :
    s.takeWords ch x = s.turnAway ch 0 (x.echo ch s .badCheck 1) (x.spelled ch).2 := if_pos bad

variable (good : fld (x.word 1) 7 0 = headerCheck (x.word 0) (x.word 1) (x.word 2) (x.word 3))
include good

theorem State.takeWords_of_other_channel (other : ¬ fld (x.word 1) 15 8 = ch) :
    s.takeWords ch x = s.turnAway ch (if fld (x.word 1) 15 8 = 15 then 11 else 1) (x.echo ch s .badCheck 2) (x.spelled ch).2 :=
  (if_neg (not_not.2 good)).trans (if_pos other)

variable (ours : fld (x.word 1) 15 8 = ch)
include ours

theorem State.takeWords_of_bad_length (bad : ¬ (4 ≤ fld (x.word 0) 15 0 ∧ fld (x.word 0) 15 0 ≤ 1024)) :
    s.takeWords ch x = s.turnAway ch 2 (x.echo ch s .badLength 1) (x.spelled ch).2 :=
  (if_neg (not_not.2 good)).trans ((if_neg (not_not.2 ours)).trans
    (if_pos ((not_and_or.1 bad).imp Nat.lt_of_not_le Nat.lt_of_not_le)))

variable (sized : 4 ≤ fld (x.word 0) 15 0 ∧ fld (x.word 0) 15 0 ≤ 1024)
include sized

theorem State.takeWords_of_bad_octets (bad : ¬ 4 * fld (x.word 0) 15 0 = x.octets) :
    s.takeWords ch x = s.turnAway ch 2 (x.echo ch s .badLength 2) (x.spelled ch).2 :=
  (if_neg (not_not.2 good)).trans ((if_neg (not_not.2 ours)).trans ((if_neg (not_or.2 ⟨sized.1.not_gt, sized.2.not_gt⟩)).trans (if_pos bad)))

theorem State.takeWords_of_whole (whole : 4 * fld (x.word 0) 15 0 = x.octets) :
    s.takeWords ch x = s.takePacketOf (x.spelled ch).1 (x.spelled ch).2 :=
  (if_neg (not_not.2 good)).trans ((if_neg (not_not.2 ours)).trans ((if_neg (not_or.2 ⟨sized.1.not_gt, sized.2.not_gt⟩)).trans
    (if_neg (not_not.2 whole))))

end

/-- Settles O7: each of the four refusals turns the packet away, and a packet turned away is only answered and noted. -/
theorem headerChecks : Obligations.HeaderChecks := by
  unfold Obligations.HeaderChecks
  intro s ch x w h words spelled
  obtain rfl : w = x.word := funext words
  subst spelled
  refine ⟨fun bad => ?_, fun good other => ?_, fun good ours bad => ?_, fun good ours sized bad => ?_, fun good ours sized whole => ?_⟩
  · rw [s.takeWords_of_bad_check bad]
    exact s.turnAway_answers ch _ _ _
  · rw [s.takeWords_of_other_channel good other]
    exact s.turnAway_answers ch _ _ _
  · rw [s.takeWords_of_bad_length good ours bad]
    exact s.turnAway_answers ch _ _ _
  · rw [s.takeWords_of_bad_octets good ours sized bad]
    exact s.turnAway_answers ch _ _ _
  · exact s.takeWords_of_whole good ours sized whole

/-! ### Tags (R425) -/

/-- The distance of a tag from T_hi, modulo 2^16. -/
theorem tag_sub_toNat (tag hi : BitVec 16) : (tag - hi).toNat = (tag.toNat + 2 ^ 16 - hi.toNat) % 2 ^ 16 := by
  bv_omega

section
variable {c : Channel} {op : Nat} {p : Packet} {now : Int}

theorem Channel.stale_of_no_history (empty : c.hist = []) : c.stale op p now = none := by
  have new : c.place p.tag (p.check op) = .new := by
    unfold Channel.place
    split
    · rfl
    · simp [empty]
  simp only [Channel.stale, new]

variable {hi : BitVec 16} (newest : c.thi = some hi)
include newest

theorem Channel.stale_of_ahead (least : 1 ≤ (p.tag - hi).toNat) (most : (p.tag - hi).toNat ≤ 32767) : c.stale op p now = none := by
  have new : c.place p.tag (p.check op) = .new := by
    simp only [Channel.place, newest, least, most, decide_true, Bool.and_self, Bool.or_true, if_true]
  simp only [Channel.stale, new]

variable (held : c.hist ≠ []) (behind : (p.tag - hi).toNat = 0 ∨ 32768 ≤ (p.tag - hi).toNat)
include held behind

/-- A packet that is not new falls by the history's entry of its tag. -/
theorem Channel.place_of_behind (check : Nat) :
    c.place p.tag check = (c.entry p.tag).elim .stale fun e => if e.check = check then .duplicate e else .conflict := by
  have notAhead : (decide (c.hist = []) || (decide (1 ≤ (p.tag - hi).toNat) && decide ((p.tag - hi).toNat ≤ 32767))) = false := by
    rw [decide_eq_false held, Bool.false_or, Bool.and_eq_false_iff, decide_eq_false_iff_not, decide_eq_false_iff_not]
    omega
  simp only [Channel.place, newest, notAhead, Bool.false_eq_true, if_false]
  cases c.entry p.tag <;> rfl

theorem Channel.stale_of_unknown (unknown : c.entry p.tag = none) : c.stale op p now = some (mkReply op p .tagStale 0 now []) := by
  simp only [Channel.stale, Channel.place_of_behind newest held behind, unknown, Option.elim_none]

variable {e : HistEntry} (known : c.entry p.tag = some e)
include known

theorem Channel.stale_of_duplicate (same : e.check = p.check op) :
    c.stale op p now = some { e.reply with status := .okDuplicate, detail := e.reply.status.code } := by
  simp only [Channel.stale, Channel.place_of_behind newest held behind, known, Option.elim_some, if_pos same]

theorem Channel.stale_of_conflict (differs : e.check ≠ p.check op) : c.stale op p now = some (mkReply op p .tagConflict 0 now []) := by
  simp only [Channel.stale, Channel.place_of_behind newest held behind, known, Option.elim_some, if_neg differs]

end

section
variable (c : Channel) (tag : BitVec 16) (check : Nat) (r : Reply)

theorem Channel.entry_enter : (c.enter tag check r).entry tag = some ⟨tag, check, r⟩ := by
  simp [Channel.entry, Channel.enter]

theorem Channel.hist_enter_length_le : (c.enter tag check r).hist.length ≤ 128 := List.length_take_le 128 _

/-- The entry made takes the place of an older one of its tag. -/
theorem Channel.hist_enter_nodup (distinct : (c.hist.map (·.tag)).Nodup) : ((c.enter tag check r).hist.map (·.tag)).Nodup := by
  have kept : ((c.hist.filter fun e => !decide (e.tag = tag)).map (·.tag)).Nodup := distinct.sublist (List.filter_sublist.map _)
  have replaced : ((⟨tag, check, r⟩ :: c.hist.filter fun e => !decide (e.tag = tag) : List HistEntry).map (·.tag)).Nodup :=
    List.nodup_cons.2 ⟨by simp, kept⟩
  exact replaced.sublist ((List.take_sublist 128 _).map _)

theorem Channel.mem_hist_enter {e : HistEntry} (entered : e ∈ (c.enter tag check r).hist) : e.tag = tag ∨ e ∈ c.hist := by
  obtain rfl | older := List.mem_cons.1 (List.mem_of_mem_take entered)
  · exact .inl rfl
  · exact .inr (List.mem_of_mem_filter older)

end

/-- A packet answered by its tag alone: its reply goes out unless NOREPLY suppresses it, and no tag is entered. -/
theorem State.chan_takePacketOf_of_stale {s : State} {op : Nat} {p : Packet} {r : Reply} (stale : (s.chan p.ch).stale op p s.index = some r) :
    ∃ status rprod set, (s.takePacketOf op p).chan p.ch =
      { s.chan p.ch with
        out := (s.chan p.ch).out ++ (if suppressed p r.status then [] else [r]), set := set, status := status, rprod := rprod } := by
  have noted : ∃ set, ((if r.status.good then s else s.memberFailed p.ch p).violation p.ch 5 p.tag).chan p.ch =
      { s.chan p.ch with set := set } := by
    rw [State.chan_violation]
    split
    · exact ⟨_, rfl⟩
    · exact ⟨_, s.chan_memberFailed p p.ch⟩
  obtain ⟨set, noted⟩ := noted
  simp only [State.takePacketOf, stale]
  split
  · exact ⟨_, _, set, by rw [noted, List.append_nil]⟩
  · obtain ⟨status, rprod, sent⟩ := State.chan_emit ((if r.status.good then s else s.memberFailed p.ch p).violation p.ch 5 p.tag) p.ch r
    exact ⟨status, rprod, set, by rw [sent, noted]⟩

theorem State.takePacketOf_onlyNotes_of_stale {s : State} {op : Nat} {p : Packet} {r : Reply}
    (stale : (s.chan p.ch).stale op p s.index = some r) : OnlyNotes (s.takePacketOf op p) s := by
  have noted : OnlyNotes ((if r.status.good then s else s.memberFailed p.ch p).violation p.ch 5 p.tag) s := by
    refine (State.violation_onlyNotes _ p.ch 5 p.tag).trans ?_
    split
    · rfl
    · exact s.memberFailed_onlyNotes p p.ch
  simp only [State.takePacketOf, stale]
  split
  · exact noted
  · exact (State.emit_onlyNotes _ p.ch r).trans noted

/-- Settles O8: the place of a tag is read off the history, and an answer is entered there in place of an older one of its tag. -/
theorem tagPlacement : Obligations.TagPlacement := by
  unfold Obligations.TagPlacement
  refine ⟨fun c op p now hi newest held => ?_, fun _ _ _ _ => Channel.stale_of_no_history, fun s op p r stale => ?_,
    fun s op p st d time words => ?_⟩
  · rw [← tag_sub_toNat]
    exact ⟨Channel.stale_of_ahead newest, fun _ behind => Channel.stale_of_duplicate newest held behind,
      fun _ behind => Channel.stale_of_conflict newest held behind,
      Channel.stale_of_unknown newest held⟩
  · obtain ⟨status, rprod, set, answered⟩ := State.chan_takePacketOf_of_stale stale
    rw [answered]
    exact ⟨rfl, rfl, rfl, State.takePacketOf_onlyNotes_of_stale stale⟩
  · obtain ⟨status, rprod, answered⟩ := s.chan_answer p op st d time words
    rw [answered]
    exact ⟨rfl, Channel.entry_enter _ _ _ _, Channel.hist_enter_length_le _ _ _ _, Channel.hist_enter_nodup _ _ _ _,
      fun _ => Channel.mem_hist_enter _ _ _ _⟩

/-! ### NOREPLY (R407) -/

theorem suppressed_iff {p : Packet} {st : Status} :
    suppressed p st = true ↔ p.noreply = true ∧ (st = .ok ∨ st = .okQueued ∨ st = .okDuplicate) := by
  rw [suppressed, Bool.and_eq_true]
  cases st <;> simp [Status.good]

/-- A reply joins those that wait, unless NOREPLY suppresses it. -/
theorem append_unless_suppressed (p : Packet) (st : Status) (r : Reply) (out : List Reply) :
    out ++ (if suppressed p st then [] else [r]) =
      if p.noreply = true ∧ (st = .ok ∨ st = .okQueued ∨ st = .okDuplicate) then out else out ++ [r] := by
  simp only [suppressed_iff]
  split
  · exact List.append_nil out
  · rfl

/-- Settles O9: of an answer, and of a reply from the tag alone, the channel's transport gets what NOREPLY does not suppress. -/
theorem noReplySuppresses : Obligations.NoReplySuppresses := by
  unfold Obligations.NoReplySuppresses
  refine ⟨fun s op p st d time words => ?_, fun s op p r stale => ?_⟩
  · obtain ⟨status, rprod, answered⟩ := s.chan_answer p op st d time words
    rw [answered]
    exact append_unless_suppressed p st _ _
  · obtain ⟨status, rprod, set, answered⟩ := State.chan_takePacketOf_of_stale stale
    rw [answered]
    exact append_unless_suppressed p r.status r _

/-! ### Refusals at steps 6 to 11 (R427, R431, R433) -/

/-- The refusals that discard an open chain whether or not their packet is its last: another HANDLE or APPLY, too many packets, or MORE with
flags that are not allowed (R431). That any other refusal leaves the chain to its final packet is the model's choice (DEDUCED, log entry 11). -/
abbrev DiscardsChain (p : Packet) (d : Deny) : Prop := d = badParam 0x0F02 ∨ d = badParam 0x0F03 ∨ (d = flagsDeny ∧ p.more = true)

/-- A refusal before its answer: the set marked, the chain discarded, and the violation noted or its runs ended. -/
def refusalNoted (p : Packet) (d : Deny) (s : State) : State :=
  if d = flagsDeny then
    (if p.more then (s.memberFailed p.ch p).updChan p.ch fun k => { k with chain := none } else s.memberFailed p.ch p).violation p.ch 7 p.tag
  else if d = badParam 0x0F02 ∨ d = badParam 0x0F03 then
    ((s.memberFailed p.ch p).updChan p.ch fun k => { k with chain := none }).violation p.ch 8 p.tag
  else (s.memberFailed p.ch p).noViolation p.ch

theorem CmdSpec.denied_eq (c : CmdSpec) (p : Packet) (d : Deny) (s : State) :
    c.denied p d s = closeChain c p ((refusalNoted p d s).refuse c.op p d) := by
  simp only [CmdSpec.denied, refusalNoted, State.memberFailed, decide_eq_true_eq, Bool.or_eq_true]

section
variable (p : Packet) (d : Deny) (s : State)

theorem chan_refusalNoted : (refusalNoted p d s).chan p.ch =
    { s.chan p.ch with set := failedSet p (s.chan p.ch).set, chain := if DiscardsChain p d then none else (s.chan p.ch).chain } := by
  unfold refusalNoted
  split
  · next flags =>
    subst flags
    rw [State.chan_violation]
    split
    · next more => rw [State.chan_updChan_same, State.chan_memberFailed, if_pos (.inr (.inr ⟨rfl, more⟩))]
    · next single => rw [State.chan_memberFailed, if_neg (by simpa [DiscardsChain, flagsDeny, badParam] using single)]
  · next noFlags =>
    split
    · next wrong =>
      have discards : DiscardsChain p d := wrong.imp_right .inl
      rw [State.chan_violation, State.chan_updChan_same, State.chan_memberFailed, if_pos discards]
    · next right =>
      have stays : ¬ DiscardsChain p d := by simpa [DiscardsChain, noFlags] using right
      rw [State.chan_noViolation, State.chan_memberFailed, if_neg stays]

theorem chan_refusalNoted_other {n : Nat} (other : n ≠ p.ch) : (refusalNoted p d s).chan n = s.chan n := by
  unfold refusalNoted
  split
  · rw [State.chan_violation]
    split
    · rw [State.chan_updChan_other _ _ other, s.chan_memberFailed_other p other]
    · exact s.chan_memberFailed_other p other
  · split
    · rw [State.chan_violation, State.chan_updChan_other _ _ other, s.chan_memberFailed_other p other]
    · rw [State.chan_noViolation, s.chan_memberFailed_other p other]

theorem refusalNoted_onlyNotes : OnlyNotes (refusalNoted p d s) s := by
  have marked := s.memberFailed_onlyNotes p p.ch
  unfold refusalNoted
  split
  · refine (State.violation_onlyNotes _ _ _ _).trans ?_
    split
    · exact (State.updChan_onlyNotes _ _ _).trans marked
    · exact marked
  · split
    · exact (State.violation_onlyNotes _ _ _ _).trans ((State.updChan_onlyNotes _ _ _).trans marked)
    · exact (State.noViolation_onlyNotes _ _).trans marked

/-- A refusal stores no register but the log's two. -/
theorem reg_refusalNoted {a : Nat} (noEvent : a ≠ rEvtEvt) (noLoss : a ≠ rEvtLostcnt) : (refusalNoted p d s).reg a = s.reg a := by
  have marked := State.reg_congr (s.memberFailed_regs p p.ch) a
  unfold refusalNoted
  split
  · rw [State.reg_violation _ _ _ _ noEvent noLoss]
    split <;> exact marked
  · split
    · rw [State.reg_violation _ _ _ _ noEvent noLoss]
      exact marked
    · exact marked

variable (c : CmdSpec)

theorem CmdSpec.denied_onlyNotes : OnlyNotes (c.denied p d s) s := by
  rw [CmdSpec.denied_eq]
  exact (closeChain_onlyNotes _ p c).trans ((State.answer_onlyNotes _ p _ _ _ _ _).trans (refusalNoted_onlyNotes p d s))

theorem CmdSpec.reg_denied {a : Nat} (noEvent : a ≠ rEvtEvt) (noLoss : a ≠ rEvtLostcnt) : (c.denied p d s).reg a = s.reg a := by
  rw [CmdSpec.denied_eq, State.reg_congr (closeChain_regs _ p c), State.refuse, State.reg_congr (State.answer_regs _ _ _ _ _ _ _)]
  exact reg_refusalNoted p d s noEvent noLoss

theorem CmdSpec.chan_denied_other {n : Nat} (other : n ≠ p.ch) : (c.denied p d s).chan n = s.chan n := by
  rw [CmdSpec.denied_eq, chan_closeChain_other _ p c other, State.refuse, State.chan_answer_other _ p _ _ _ _ _ other,
    chan_refusalNoted_other p d s other]

/-- What a refusal leaves of the packet's channel: its answer, its history, its set and its chain, and nothing else. -/
theorem CmdSpec.chan_denied (refused : d.status.good = false) :
    ∃ status rprod, (c.denied p d s).chan p.ch =
      { (s.chan p.ch).enter p.tag (p.check c.op) (mkReply c.op p d.status d.detail s.index []) with
        out := (s.chan p.ch).out ++ [mkReply c.op p d.status d.detail s.index []], set := failedSet p (s.chan p.ch).set,
        chain := if (c.continued = true ∧ p.more = false) ∨ DiscardsChain p d then none else (s.chan p.ch).chain,
        status := status, rprod := rprod } := by
  obtain ⟨status, rprod, answered⟩ := (refusalNoted p d s).chan_answer p c.op d.status d.detail (refusalNoted p d s).index []
  have sent : suppressed p d.status = false := by rw [suppressed, refused, Bool.and_false]
  refine ⟨status, rprod, ?_⟩
  rw [CmdSpec.denied_eq, chan_closeChain, State.refuse, answered, chan_refusalNoted, (refusalNoted_onlyNotes p d s).index, sent,
    ite_or (c.continued = true ∧ p.more = false) (DiscardsChain p d)]
  rfl

end

/-- Settles O11: a refusal is answered and noted, and of its channel only the answer, the set and the chain change. -/
theorem refusalChangesNothing : Obligations.RefusalChangesNothing := by
  unfold Obligations.RefusalChangesNothing
  intro c p d s refused
  obtain ⟨status, rprod, channel⟩ := c.chan_denied p d s refused
  refine ⟨c.denied_onlyNotes p d s, fun _ => c.reg_denied p d s, fun _ => c.chan_denied_other p d s, ?_⟩
  rw [channel]
  exact ⟨rfl, Channel.entry_enter _ _ _ _, rfl, fun discards => if_pos discards, fun stays => if_neg stays, rfl, rfl⟩

end Sys2Proof.Machine
end

section
/-! SUPPORT. Transports: what each fetch, SPI transaction, datagram, in-band fragment and timeout does in each case of the state (R406, R409 to
R423, R433), and the rows. -/
namespace Sys2Proof.Machine
open Sys2Proof.Safety

/-! ### PCIe rings (R410, R420) -/

section
variable {s : State} {n : Nat} (words : List Word)

theorem pcieCommandFetch_of_local (may : fetches n s) (home : (s.chan n).remote = none) :
    pcieCommandFetch n words s = (fetchQueues n words).effect s := by
  obtain ⟨known, takes, link, enabled, ahead, room, idle⟩ := may
  simp only [pcieCommandFetch, known, takes, link, enabled, ahead, room, idle, home, ne_eq, not_false_eq_true, decide_true, Bool.and_self, if_true]

theorem pcieCommandFetch_of_remote (may : fetches n s) {node ch : Nat} (bound : (s.chan n).remote = some (node, ch)) :
    pcieCommandFetch n words s = (fetchGoesOn n words node ch).effect s := by
  obtain ⟨known, takes, link, enabled, ahead, room, idle⟩ := may
  simp only [pcieCommandFetch, known, takes, link, enabled, ahead, room, idle, bound, ne_eq, not_false_eq_true, decide_true, Bool.and_self, if_true]

theorem pcieCommandFetch_of_not_ready (off : s.takes = false) : pcieCommandFetch n words s = s := by
  simp only [pcieCommandFetch, off, Bool.and_false, Bool.false_and, Bool.false_eq_true, if_false]

end

/-! ### SPI (R412 to R414) -/

section
variable {s : State} {octets : Nat} {words : List Word}

theorem spiPktWrite_of_short (short : octets < 16) : spiPktWrite octets words s = spiLoses 3 words s := if_pos short

variable (header : 16 ≤ octets)
include header

theorem spiPktWrite_of_busy (busy : s.spiStatus.testBit 0 = false) : spiPktWrite octets words s = spiLoses 4 words s :=
  (if_neg header.not_gt).trans (if_pos (by rw [busy, Bool.not_false]))

variable (ready : s.spiStatus.testBit 0 = true)
include ready

theorem spiPktWrite_of_bad (length : octets ≠ 4 * fld (words.getD 0 0) 15 0) (check : ¬ headerGood words) :
    spiPktWrite octets words s = spiLoses 2 words s := by
  simp only [spiPktWrite, header.not_gt, ready, length, check, decide_false, decide_true, ne_eq, not_false_eq_true, Bool.not_true, Bool.not_false,
    Bool.and_self, Bool.false_eq_true, if_false, if_true]
  rfl

theorem spiPktWrite_of_good (good : octets = 4 * fld (words.getD 0 0) 15 0 ∨ headerGood words) :
    spiPktWrite octets words s = (spiWriteQueues octets words).effect s := by
  have kept : (decide (octets ≠ 4 * fld (words.getD 0 0) 15 0) && !decide (headerGood words)) = false := by
    rw [Bool.and_eq_false_iff, decide_eq_false_iff_not, Bool.not_eq_false', decide_eq_true_eq]
    exact good.imp_left not_not.2
  simp only [spiPktWrite, header.not_gt, ready, kept, Bool.not_true, Bool.false_eq_true, if_false]
  rfl

end

theorem State.chan_dropPacket (s : State) (ch k : Nat) (tag : BitVec 16) (n : Nat) : (s.dropPacket ch k tag).chan n = s.chan n := by
  simp only [State.chan, State.dropPacket, State.count_chans, State.chans_violation]

/-- A PKT_WRITE that is lost changes no channel. -/
theorem chan_spiLoses (k : Nat) (words : List Word) (s : State) (n : Nat) : (spiLoses k words s).chan n = s.chan n :=
  (spiOpened s).chan_dropPacket 8 k _ n

/-- RDY stands only while the device takes commands (Table 14-5). -/
theorem State.spiStatus_of_not_ready {s : State} (off : s.takes = false) : s.spiStatus.testBit 0 = false := by
  simp only [State.spiStatus, off, flagBit_eq, Nat.testBit_zero, Bool.false_and, b2n, Bool.false_eq_true, if_false]
  exact decide_eq_false (by omega)

theorem spiPktRead_of_empty (whole : Bool) {s : State} (empty : (s.chan 8).out = []) :
    spiPktRead whole s = (spiReadsNothing whole).effect s := by
  simp only [spiPktRead, empty]
  rfl

theorem spiPktRead_of_stored (whole : Bool) {s : State} {r : Reply} {rest : List Reply} (stored : (s.chan 8).out = r :: rest) :
    spiPktRead whole s = (spiReadsOldest whole r rest).effect s := by
  simp only [spiPktRead, stored]
  rfl

/-! ### Datagrams (R416, R417) -/

section
variable {s : State} {m : Nat} (src port octets : Nat) (words : List Word)

theorem udpDatagramReceived_of_not_ready (off : s.takes = false) : udpDatagramReceived m src port octets words s = s := by
  simp only [udpDatagramReceived, off, Bool.not_false, Bool.or_true, if_true]

variable {src} (mac : m < 4) (on : s.udpOn m = true) (takes : s.takes = true)
include mac on takes

theorem udpDatagramReceived_of_admitted (admitted : s.sourceForeign m src = false) :
    udpDatagramReceived m src port octets words s = (datagramQueues m src port octets words).effect s := by
  simp only [udpDatagramReceived, mac.not_ge, on, takes, admitted, decide_false, Bool.not_true, Bool.or_self, Bool.false_eq_true, if_false]

theorem udpDatagramReceived_of_foreign (foreign : s.sourceForeign m src = true) :
    udpDatagramReceived m src port octets words s = (datagramForeign m src port octets words).effect s := by
  simp only [udpDatagramReceived, mac.not_ge, on, takes, foreign, decide_false, Bool.not_true, Bool.or_self, Bool.false_eq_true, if_false, if_true]

end

/-! ### In-band messages and forwarded commands (R419 to R423) -/

/-- The message that a fragment belongs to, with the fragment. -/
def inboxWith (area : Nat) (f : Fragment) (u : State) : Inbox := { inboxFor area f u with frags := f :: (inboxFor area f u).frags }

/-- A message that has one more fragment is kept, or taken once it is whole (R419). -/
def joinsInbox (area src : Nat) (x : Inbox) (u : State) : State :=
  match x.message with
  | some (octets, ws) => (u.putInbox { x with frags := [], complete := true }).takeMessage area src octets ws
  | none => u.putInbox x

section
variable {s : State} {area : Nat} {f : Fragment} (counts : fragmentCounts area f s)
include counts

theorem inbandFragmentReceived_of_counts : inbandFragmentReceived area f s = joinsInbox area f.src (inboxWith area f s) s := by
  obtain ⟨enabled, here, inband, incomplete, new⟩ := counts
  have taken : (!s.zen.enabled || decide (f.dest ≠ s.zen.node) || decide (2 ≤ area)) = false := by
    simp only [enabled, here, inband.not_ge, ne_eq, not_true_eq_false, decide_false, Bool.not_true, Bool.or_self]
  have counted : ((inboxFor area f s).complete || (inboxFor area f s).frags.any fun g => decide (g.frag = f.frag)) = false := by
    rw [incomplete, new, Bool.or_self]
  exact (if_neg (Bool.eq_false_iff.1 taken)).trans (if_neg (Bool.eq_false_iff.1 counted))

theorem inbandFragmentReceived_of_more (more : (inboxWith area f s).message = none) :
    inbandFragmentReceived area f s = (fragmentKept area f).effect s := by
  rw [inbandFragmentReceived_of_counts counts]
  simp only [joinsInbox, more]
  rfl

theorem inbandFragmentReceived_of_whole {octets : Nat} {ws : List Word} (whole : (inboxWith area f s).message = some (octets, ws)) :
    inbandFragmentReceived area f s = (fragmentCompletes area f octets ws).effect s := by
  rw [inbandFragmentReceived_of_counts counts]
  simp only [joinsInbox, whole]
  rfl

end

section
variable {s : State}

theorem inbandMessageTimeout_of_due {area src : Nat} {x : Inbox} (held : s.zen.inboxOf area src = some x) (unfinished : x.complete = false)
    (due : x.since + 64 ≤ s.index) : inbandMessageTimeout area src s = (messageGivenUp area src x).effect s := by
  simp only [inbandMessageTimeout, held, unfinished, due.not_gt, decide_false, Bool.or_self, Bool.false_eq_true, if_false]

theorem relayForwardTimeout_of_due {n op sent : Nat} {p : Packet} (waits : (s.chan n).hold = some (.relay op p sent))
    (due : sent + ticksOfMs 10 ≤ s.now) : relayForwardTimeout n s = (forwardGivenUp n op p sent).effect s := by
  simp only [relayForwardTimeout, waits, due, if_true]

end

/-! ### The rows -/

section
variable (n : Nat) (words : List Word)

theorem fetchQueues_holds : (fetchQueues n words).Holds :=
  Rule.holds_of_event _ (pcieCommandFetch n words) (fun t s => exec_pcieCommandFetch t n words s) fun _ ⟨may, home⟩ =>
    pcieCommandFetch_of_local words may home

/-- That a REMOTE packet is cut to 4 to 1,024 words by its LENGTH is the model's choice (DEDUCED, log entry 30). -/
theorem fetchGoesOn_holds (node ch : Nat) : (fetchGoesOn n words node ch).Holds :=
  Rule.holds_of_event _ (pcieCommandFetch n words) (fun t s => exec_pcieCommandFetch t n words s) fun _ ⟨may, bound⟩ =>
    pcieCommandFetch_of_remote words may bound

end

section
variable (octets : Nat) (words : List Word)

theorem spiWriteQueues_holds : (spiWriteQueues octets words).Holds :=
  Rule.holds_of_event _ (spiPktWrite octets words) (fun t s => exec_spiPktWrite t octets words s) fun _ ⟨header, ready, good⟩ =>
    spiPktWrite_of_good header ready good

theorem spiWriteShort_holds : (spiWriteShort octets words).Holds :=
  Rule.holds_of_event _ (spiPktWrite octets words) (fun t s => exec_spiPktWrite t octets words s) fun _ short => spiPktWrite_of_short short

theorem spiWriteBusy_holds : (spiWriteBusy octets words).Holds :=
  Rule.holds_of_event _ (spiPktWrite octets words) (fun t s => exec_spiPktWrite t octets words s) fun _ ⟨header, busy⟩ =>
    spiPktWrite_of_busy header busy

/-- That a packet whose length and CHECK are both wrong counts under kind 2 is the model's choice (DEDUCED, log entry 31). -/
theorem spiWriteBad_holds : (spiWriteBad octets words).Holds :=
  Rule.holds_of_event _ (spiPktWrite octets words) (fun t s => exec_spiPktWrite t octets words s) fun _ ⟨header, ready, length, check⟩ =>
    spiPktWrite_of_bad header ready length check

end

section
variable (whole : Bool)

theorem spiReadsNothing_holds : (spiReadsNothing whole).Holds :=
  Rule.holds_of_event _ (spiPktRead whole) (fun t s => exec_spiPktRead t whole s) fun _ empty => spiPktRead_of_empty whole empty

theorem spiReadsOldest_holds (r : Reply) (rest : List Reply) : (spiReadsOldest whole r rest).Holds :=
  Rule.holds_of_event _ (spiPktRead whole) (fun t s => exec_spiPktRead t whole s) fun _ stored => spiPktRead_of_stored whole stored

end

theorem spiStatusOpens_holds : spiStatusOpens.Holds := Rule.holds_of_event _ spiStatusRead exec_spiStatus fun _ _ => rfl

section
variable (m src port octets : Nat) (words : List Word)

theorem datagramQueues_holds : (datagramQueues m src port octets words).Holds :=
  Rule.holds_of_event _ (udpDatagramReceived m src port octets words) (fun t s => exec_udpDatagramReceived t m src port octets words s)
    fun _ ⟨mac, on, takes, admitted⟩ => udpDatagramReceived_of_admitted port octets words mac on takes admitted

theorem datagramForeign_holds : (datagramForeign m src port octets words).Holds :=
  Rule.holds_of_event _ (udpDatagramReceived m src port octets words) (fun t s => exec_udpDatagramReceived t m src port octets words s)
    fun _ ⟨mac, on, takes, foreign⟩ => udpDatagramReceived_of_foreign port octets words mac on takes foreign

end

section
variable (area : Nat) (f : Fragment)

/-- That a fragment with a new SEQ drops the message in progress without a count is the model's choice (DEDUCED, log entry 30). -/
theorem fragmentKept_holds : (fragmentKept area f).Holds :=
  Rule.holds_of_event _ (inbandFragmentReceived area f) (fun t s => exec_inbandFragmentReceived t area f s) fun _ ⟨counts, more⟩ =>
    inbandFragmentReceived_of_more counts more

theorem fragmentCompletes_holds (octets : Nat) (ws : List Word) : (fragmentCompletes area f octets ws).Holds :=
  Rule.holds_of_event _ (inbandFragmentReceived area f) (fun t s => exec_inbandFragmentReceived t area f s) fun _ ⟨counts, whole⟩ =>
    inbandFragmentReceived_of_whole counts whole

end

theorem messageGivenUp_holds (area src : Nat) (x : Inbox) : (messageGivenUp area src x).Holds :=
  Rule.holds_of_event _ (inbandMessageTimeout area src) (fun t s => exec_inbandMessageTimeout t area src s) fun _ ⟨held, unfinished, due⟩ =>
    inbandMessageTimeout_of_due held unfinished due

theorem forwardGivenUp_holds (n op : Nat) (p : Packet) (sent : Nat) : (forwardGivenUp n op p sent).Holds :=
  Rule.holds_of_event _ (relayForwardTimeout n) (fun t s => exec_relayForwardTimeout t n s) fun _ ⟨waits, due⟩ =>
    relayForwardTimeout_of_due waits due

/-- Settles O41, row by row, each under the condition on its channel, its transaction, its source, its message or the command forwarded. -/
theorem packetsArrive : Obligations.PacketsArrive :=
  ⟨fetchQueues_holds, fetchGoesOn_holds, spiWriteQueues_holds, spiWriteShort_holds, spiWriteBusy_holds, spiWriteBad_holds,
    spiReadsNothing_holds, spiReadsOldest_holds, spiStatusOpens_holds, datagramQueues_holds, datagramForeign_holds, fragmentKept_holds,
    fragmentCompletes_holds, messageGivenUp_holds, forwardGivenUp_holds⟩

/-! ### Replies read over SPI (R414) -/

/-- Settles O19: PKT_READ gives out the oldest reply, and the store loses it with its last word alone. -/
theorem spiReadsRepliesWhole : Obligations.SpiReadsRepliesWhole := by
  unfold Obligations.SpiReadsRepliesWhole
  refine ⟨spiReadsOldest_holds, fun whole u r rest stored => ?_⟩
  rw [spiPktRead_of_stored whole stored]
  cases whole with
  | true => exact ⟨by simp only [if_true, State.chan_updChan_same], rfl⟩
  | false => exact ⟨stored, rfl⟩

/-! ### Ring indices (R411) -/

theorem State.log_logAt (s : State) (code : Nat) (idx : Int) (vals : List Int) :
    ∃ e : LogEntry, e.code = code ∧ (s.logAt code idx vals).log = (e :: s.log).take 4096 := by
  refine ⟨⟨code, (s.newest + 1) % 2 ^ 32, s.ns, lo32 idx, vals.map lo32⟩, rfl, ?_⟩
  unfold State.logAt
  dsimp only
  split <;> split <;> rfl

/-- The newest event stays among the newest 4,096 when one more is logged, once per run. -/
theorem State.mem_log_logOnceAt {s : State} {e : LogEntry} {rest : List LogEntry} (newest : s.log = e :: rest) (code key : Nat) (idx : Int)
    (vals : List Int) : e ∈ (s.logOnceAt code key idx vals).log := by
  obtain ⟨x, -, logged⟩ := s.log_logAt code idx vals
  have once : ((s.logAt code idx vals).openRun code key).log = (s.logAt code idx vals).log := by
    unfold State.openRun
    split <;> rfl
  unfold State.logOnceAt
  split
  · rw [newest]
    exact List.mem_cons_self
  · rw [once, logged, newest]
    exact List.mem_cons_of_mem x List.mem_cons_self

theorem State.mem_log_violation {s : State} {e : LogEntry} {rest : List LogEntry} (newest : s.log = e :: rest) (ch k : Nat) (tag : BitVec 16) :
    e ∈ (s.violation ch k tag).log := by
  unfold State.violation State.logOnce
  refine State.mem_log_logOnceAt (rest := rest) ?_ _ _ _ _
  rw [State.count_log]
  exact newest

/-- CMD_RINGERRn is none of the registers of the event log. -/
theorem ringErr_ne_log {n : Nat} (known : n < 8) : rCmdRingerr + 32 * n ≠ rEvtEvt ∧ rCmdRingerr + 32 * n ≠ rEvtLostcnt := by
  unfold rCmdRingerr rEvtEvt rEvtLostcnt
  omega

/-- Settles O18: a violation touches no channel, the count is in a register of its own, and the event stays logged. That the violation carries tag
0 is the model's choice (DEDUCED, log entry 18). -/
theorem ringIndicesAreChecked : Obligations.RingIndicesAreChecked := by
  unfold Obligations.RingIndicesAreChecked
  refine ⟨tailRefused_holds, consumedRefused_holds, tailTaken_holds, consumed_holds, fun u n known => ⟨fun m => ?_, ?_, ?_⟩⟩
  · rw [State.chan_violation, State.chan_logNow, State.chan, State.bump_chans, State.chan]
  · obtain ⟨noEvent, noLoss⟩ := ringErr_ne_log known
    rw [State.reg_violation _ _ _ _ noEvent noLoss, State.logNow, State.reg_logAt _ _ _ _ noEvent noLoss, State.bump, State.reg_setReg_same]
  · obtain ⟨e, code, logged⟩ := (u.bump (rCmdRingerr + 32 * n)).log_logAt evCmdRingErr (u.bump (rCmdRingerr + 32 * n)).curFirst []
    exact ⟨e, State.mem_log_violation logged n 9 0, code⟩

/-! ### A device that is not yet READY (R409, R439) -/

/-- The row of each command of the catalogue gives its packet to the interpreter. -/
theorem commands_run : ∀ c ∈ commands, ∀ t p s, exec (c.row t p) s = runRow c.spec t p s := by
  simp only [commands, sampleExact, quantumExact, List.forall_mem_append, List.forall_mem_cons]
  exact ⟨⟨⟨exec_ping, exec_getInfo, exec_getStatus, exec_setRate, exec_fwUpdateBegin, exec_fwUpdateData, exec_fwUpdateCommit, exec_resetScope,
    exec_boardTableLoad, exec_channelConfig, exec_graphBegin, exec_graphAddOp, exec_graphConnect, exec_graphCommit, exec_graphQueryCost,
    exec_pathLatency, exec_safeSetBegin, exec_safeSetCommit, exec_objectCreate, exec_trajAppend, exec_trajFlush, exec_objectQuery,
    exec_filterLoadBegin, exec_filterLoadData, exec_filterLoadEnd, exec_filterSwap, exec_convQuery, exec_sapConfig, exec_sapArm, exec_sapStop,
    exec_timeConfig, exec_ptpConfig, exec_timeQuery, exec_mediaClock, exec_macConfig, exec_streamTxAdd, exec_shaperSet, exec_pauseConfig,
    exec_zenConfig, exec_zenMap, exec_zenTopology, exec_twinConfig, exec_twinJoin, exec_twinHandover, exec_twinStatus, exec_twinFence,
    exec_dramStart, exec_dramOppoint, exec_stateSave, exec_stateRestore, exec_keepWrite, exec_keepRead, exec_meterSubscribe, exec_eventRead,
    exec_counterRead, List.forall_mem_nil _⟩, ⟨exec_objectParams, exec_zoneMask, exec_soundSpeed, exec_routeSet, exec_routeClear, exec_xpointSet,
    exec_xpointBlock, exec_gainSet, exec_fadeParams, exec_dikeConfig, exec_outputMute, exec_ditherConfig, exec_outputDelay, List.forall_mem_nil _⟩⟩,
    ⟨exec_startProcessing, exec_stopProcessing, exec_opCancel, exec_layoutLoad, exec_meshLoad, exec_busCreate, exec_tapConfig, exec_streamRxAdd,
    exec_streamRemove, exec_zenDrop, exec_zenInsert, List.forall_mem_nil _⟩⟩

/-- Settles O5: the interpreter, PCIe and UDP look first whether the device takes commands, and a packet write over SPI is lost for want of RDY;
in-band messages and relay sections are not in the statement. -/
theorem notReadyTakesNothing : Obligations.NotReadyTakesNothing := by
  unfold Obligations.NotReadyTakesNothing
  refine ⟨fun c known t p s off => ?_, fun t n words s off => ?_, fun t m src port octets words s off => ?_, fun octets words s n off => ?_⟩
  · rw [commands_run c known, runRow, CmdSpec.interpret_off _ _ _ off]
  · rw [exec_pcieCommandFetch, eventRow_eq, pcieCommandFetch_of_not_ready words off]
  · rw [exec_udpDatagramReceived, eventRow_eq, udpDatagramReceived_of_not_ready src port octets words off]
  · obtain short | header := Nat.lt_or_ge octets 16
    · rw [spiPktWrite_of_short short, chan_spiLoses]
    · rw [spiPktWrite_of_busy header (State.spiStatus_of_not_ready off), chan_spiLoses]

end Sys2Proof.Machine
end

section
/-! SUPPORT. What every settled state keeps: interrupt messages sent, and disabled channels reset (R480, R484). -/
namespace Sys2Proof.Machine
open Sys2Proof.Safety

/-! ### Folds -/

/-- What each step of a fold gives its own element, and no step takes from any, holds of every element at the end. -/
theorem foldl_establishes {α β : Type} {P : α → β → Prop} {f : β → α → β} {l : List α} (own : ∀ x ∈ l, ∀ s, P x (f s x))
    (keeps : ∀ x ∈ l, ∀ y s, P y s → P y (f s x)) (s : β) : ∀ y ∈ l, P y (l.foldl f s) := by
  have kept : ∀ m ⊆ l, ∀ y s, P y s → P y (m.foldl f s) := by
    intro m
    induction m with
    | nil => exact fun _ _ _ h => h
    | cons x m ih =>
      intro sub y s h
      exact ih (List.subset_of_cons_subset sub) y _ (keeps x (sub List.mem_cons_self) y s h)
  intro y hy
  obtain ⟨before, after, rfl⟩ := List.append_of_mem hy
  rw [List.foldl_append, List.foldl_cons]
  exact kept after (fun x hx => by simp [hx]) y _ (own y hy _)

/-! ### Bits of the interrupt registers -/

theorem bitOf_or_two_pow (w : Word) {j : Nat} (known : j < 32) (i : Nat) : bitOf (w ||| w32 (2 ^ j)) i = (bitOf w i || decide (j = i)) := by
  change (w ||| w32 (2 ^ j)).getLsbD i = (w.getLsbD i || _)
  rw [BitVec.getLsbD_or, w32, BitVec.getLsbD_ofNat, Nat.testBit_two_pow]
  by_cases same : j = i
  · simp [← same, known]
  · simp [same]

theorem bitOf_and_not_two_pow (w : Word) (j i : Nat) : bitOf (w &&& ~~~w32 (2 ^ j)) i = (bitOf w i && !decide (j = i)) := by
  change (w &&& ~~~w32 (2 ^ j)).getLsbD i = (w.getLsbD i && _)
  rw [BitVec.getLsbD_and, BitVec.getLsbD_not, w32, BitVec.getLsbD_ofNat, Nat.testBit_two_pow]
  by_cases inside : i < 32
  · simp [inside]
  · simp [BitVec.getLsbD_of_ge w i (Nat.le_of_not_lt inside)]

/-! ### What the vectors read, which sending leaves alone -/

section
variable {t u : State} (same : SameButMessages t u)
include same

/-- Every event register, and every entry of the MSI-X table, lies beyond the registers that sending changes. -/
theorem same_reg_beyond {a : Nat} (beyond : 0x600 ≤ a) : t.reg a = u.reg a :=
  same.2 a (by simp only [rIrqArmed]; omega) (by simp only [rIrqPba0]; omega) (by simp only [rIrqMsicnt]; omega)

theorem same_chan (n : Nat) : t.chan n = u.chan n := by rw [State.chan, State.chan, same_chans same]

theorem same_irqSapg : t.irqSapg = u.irqSapg := by
  simp (disch := omega) only [State.irqSapg, State.blockSource, rSapgEvt, rSapgEvten, same_reg_beyond same]

/-- The sources of Table 16-3 rest on the channels and on registers of their blocks. -/
theorem same_irqSource (i : Nat) : t.irqSource i = u.irqSource i := by
  simp (disch := omega) only [State.irqSource, State.blockSource, same_irqSapg same, same_chan same, same_reg_beyond same, rCmdCfg, rEvtEvt,
    rEvtEvten, rSchEvt, rSchEvten, rTimEvt, rTimEvten, rClkEvt, rClkEvten, rMacEvt, rMacEvten, rSteEvt, rSteEvten, rZenEvt, rZenEvten, rZenNevt,
    rZenNevten, rTwnEvt, rTwnEvten, rTwlEvt, rTwlEvten, rTapEvt, rTapEvten, rRpcEvt, rRpcEvten, rDrmEvt, rDrmEvten, rBmxEvt, rBmxEvten]

theorem same_vectorMasked (i : Nat) : t.vectorMasked i = u.vectorMasked i := by
  simp (disch := omega) only [State.vectorMasked, same_msixMask same, rIrqMsixctl, same_reg_beyond same]

end

/-! ### Messages (R480) -/

/-- Vector i is enabled with its source asserted, while messages are enabled: it sends when it is armed and not masked. -/
def State.vectorDue (s : State) (i : Nat) : Prop := s.msixEnable = true ∧ s.irqSource i = true ∧ bitOf (s.reg rIrqEnmsi) i = true

theorem same_vectorDue {t u : State} (same : SameButMessages t u) (i : Nat) : t.vectorDue i ↔ u.vectorDue i := by
  have enabled : t.reg rIrqEnmsi = u.reg rIrqEnmsi := same.2 _ (by decide) (by decide) (by decide)
  rw [State.vectorDue, State.vectorDue, same_msixEnable same, same_irqSource same, enabled]

/-- Vector i has no message due: where it is due and armed, it is masked and its pending bit stands. -/
def VectorSettled (i : Nat) (s : State) : Prop :=
  s.vectorDue i → bitOf (s.reg rIrqArmed) i = true → s.vectorMasked i = true ∧ bitOf (s.reg rIrqPba0) i = true

theorem messagesSent_iff (s : State) : MessagesSent s ↔ ∀ i ∈ List.range 29, VectorSettled i s := by
  simp only [MessagesSent, VectorSettled, State.vectorDue, List.mem_range, and_imp]

section
variable {s : State} {i : Nat} (due : s.vectorDue i) (armed : bitOf (s.reg rIrqArmed) i = true)
include due armed

theorem State.sendVector_of_masked (masked : s.vectorMasked i = true) : s.sendVector i = s.orReg rIrqPba0 (2 ^ i) := by
  obtain ⟨on, source, enabled⟩ := due
  simp only [State.sendVector, on, source, enabled, armed, masked, Bool.and_self, if_true]

theorem State.sendVector_of_unmasked (unmasked : s.vectorMasked i = false) :
    s.sendVector i =
      { ((s.clrReg rIrqArmed (2 ^ i)).clrReg rIrqPba0 (2 ^ i)).bump rIrqMsicnt with messages := s.messages ++ [s.messageOf i] } := by
  obtain ⟨on, source, enabled⟩ := due
  simp only [State.sendVector, on, source, enabled, armed, unmasked, Bool.and_self, Bool.false_eq_true, if_true, if_false]

end

theorem State.sendVector_of_idle {s : State} {i : Nat} (idle : ¬ (s.vectorDue i ∧ bitOf (s.reg rIrqArmed) i = true)) : s.sendVector i = s :=
  if_neg (by simpa only [State.vectorDue, Bool.and_eq_true, and_assoc] using idle)

/-- The three things that a vector can do: nothing, set its pending bit, or send, which disarms it. -/
theorem State.sendVector_bits (s : State) {i : Nat} (known : i < 32) (j : Nat) :
    (¬ (s.vectorDue i ∧ bitOf (s.reg rIrqArmed) i = true) ∧ s.sendVector i = s) ∨
    (s.vectorMasked i = true ∧ bitOf ((s.sendVector i).reg rIrqArmed) j = bitOf (s.reg rIrqArmed) j ∧
      bitOf ((s.sendVector i).reg rIrqPba0) j = (bitOf (s.reg rIrqPba0) j || decide (i = j))) ∨
    (bitOf ((s.sendVector i).reg rIrqArmed) j = (bitOf (s.reg rIrqArmed) j && !decide (i = j)) ∧
      bitOf ((s.sendVector i).reg rIrqPba0) j = (bitOf (s.reg rIrqPba0) j && !decide (i = j))) := by
  by_cases due : s.vectorDue i ∧ bitOf (s.reg rIrqArmed) i = true
  · obtain ⟨due, armed⟩ := due
    refine .inr ?_
    cases masked : s.vectorMasked i with
    | true =>
      rw [State.sendVector_of_masked due armed masked, State.orReg, State.reg_setReg_same, State.reg_setReg_other _ _ (by decide)]
      exact .inl ⟨rfl, rfl, bitOf_or_two_pow _ known j⟩
    | false =>
      have counted (a : Nat) (other : a ≠ rIrqMsicnt) :
          (s.sendVector i).reg a = ((s.clrReg rIrqArmed (2 ^ i)).clrReg rIrqPba0 (2 ^ i)).reg a := by
        rw [State.sendVector_of_unmasked due armed masked]
        exact State.reg_setReg_other _ _ other
      rw [counted rIrqArmed (by decide), counted rIrqPba0 (by decide), State.clrReg, State.reg_setReg_same, State.reg_setReg_other _ _ (by decide),
        State.clrReg, State.reg_setReg_same, State.reg_setReg_other _ _ (by decide)]
      exact .inr ⟨bitOf_and_not_two_pow _ i j, bitOf_and_not_two_pow _ i j⟩
  · exact .inl ⟨due, State.sendVector_of_idle due⟩

/-- A vector that has had its turn has no message due. -/
theorem vectorSettled_sendVector {i : Nat} (known : i < 32) (s : State) : VectorSettled i (s.sendVector i) := by
  intro due armed
  rw [same_vectorDue (s.sendVector_same i)] at due
  rw [same_vectorMasked (s.sendVector_same i)]
  obtain ⟨idle, nothing⟩ | ⟨masked, -, pending⟩ | ⟨disarmed, -⟩ := s.sendVector_bits known i
  · rw [nothing] at armed
    exact absurd ⟨due, armed⟩ idle
  · exact ⟨masked, by simpa using pending⟩
  · simp [disarmed] at armed

/-- The turn of one vector leaves every other as it was, and a settled one settled. -/
theorem VectorSettled.sendVector {i j : Nat} (known : i < 32) {s : State} (settled : VectorSettled j s) : VectorSettled j (s.sendVector i) := by
  by_cases own : i = j
  · exact own ▸ vectorSettled_sendVector known s
  · intro due armed
    rw [same_vectorDue (s.sendVector_same i)] at due
    rw [same_vectorMasked (s.sendVector_same i)]
    obtain ⟨-, nothing⟩ | ⟨-, sameArmed, pending⟩ | ⟨sameArmed, pending⟩ := s.sendVector_bits known j
    · rw [nothing] at armed ⊢
      exact settled due armed
    · rw [pending]
      obtain ⟨masked, stands⟩ := settled due (sameArmed ▸ armed)
      exact ⟨masked, by simp [stands]⟩
    · simp only [own, decide_false, Bool.not_false, Bool.and_true] at sameArmed pending
      rw [pending]
      exact settled due (sameArmed ▸ armed)

/-- After every vector has had its turn no message is due. -/
theorem messagesSent_sendVectors (s : State) : MessagesSent s.sendVectors := by
  have known : ∀ i ∈ List.range 29, i < 32 := fun i hi => by have := List.mem_range.1 hi; omega
  exact (messagesSent_iff _).2
    (foldl_establishes (fun i hi s => vectorSettled_sendVector (known i hi) s) (fun i hi _ _ h => h.sendVector (known i hi)) s)

/-! ### Channels that close (R484) -/

/-- A channel that waits for its reset has a command in execution. -/
def ChannelSettled (n : Nat) (s : State) : Prop := (s.chan n).closing = true → (s.chan n).hold ≠ none

theorem disabledReset_iff (s : State) : DisabledReset s ↔ ∀ n ∈ List.range 8, ChannelSettled n s := by
  simp only [DisabledReset, ChannelSettled, List.mem_range]

/-- The turn of one channel in closeChannels. -/
def State.closeChannel (s : State) (n : Nat) : State :=
  if (s.chan n).closing && (s.chan n).hold.isNone then (s.updChan n fun c => { c with closing := false }).resetChannel n else s

theorem State.closeChannels_eq (s : State) : s.closeChannels = (List.range 8).foldl State.closeChannel s := rfl

/-- What a reset makes of its channel (R432). -/
def Channel.afterReset (c : Channel) : Channel :=
  { c with thi := none, hist := [], waiting := [], chain := none, set := none, notes := [], loss := false, source := none, gather := none }

theorem State.chan_resetChannel_same (s : State) (n : Nat) : (s.resetChannel n).chan n = (s.chan n).afterReset :=
  s.chan_updChan_same n Channel.afterReset

theorem State.chan_resetChannel_other (s : State) {n m : Nat} (other : m ≠ n) : (s.resetChannel n).chan m = s.chan m :=
  s.chan_updChan_other Channel.afterReset other

theorem State.chan_closeChannel_other (s : State) {n m : Nat} (other : m ≠ n) : (s.closeChannel n).chan m = s.chan m := by
  unfold State.closeChannel
  split
  · rw [State.chan_resetChannel_other _ other, State.chan_updChan_other _ _ other]
  · rfl

theorem channelSettled_closeChannel (n : Nat) (s : State) : ChannelSettled n (s.closeChannel n) := by
  unfold ChannelSettled State.closeChannel
  split
  · simp [State.chan_resetChannel_same, Channel.afterReset]
  · next stays => simpa using stays

theorem ChannelSettled.closeChannel {n m : Nat} {s : State} (settled : ChannelSettled m s) : ChannelSettled m (s.closeChannel n) := by
  by_cases own : m = n
  · exact own ▸ channelSettled_closeChannel m s
  · rwa [ChannelSettled, s.chan_closeChannel_other own]

theorem disabledReset_closeChannels (s : State) : DisabledReset s.closeChannels :=
  (disabledReset_iff _).2 (foldl_establishes (fun n _ s => channelSettled_closeChannel n s) (fun _ _ _ _ h => h.closeChannel) s)

theorem disabledReset_of_chans {s t : State} (reset : DisabledReset s) (same : t.chans = s.chans) : DisabledReset t := by
  have chan (n : Nat) : t.chan n = s.chan n := by rw [State.chan, State.chan, same]
  simpa only [DisabledReset, chan] using reset

/-! ### A settled state -/

theorem State.chans_judgeCounts (s : State) (m n : Nat) : (s.judgeCounts m n).chans = s.chans := by
  induction n generalizing s m with
  | zero => rfl
  | succ n ih =>
    rw [State.judgeCounts, ih, State.judgeCount]
    split
    · exact State.chans_logOnceAt _ _ _ _ _
    · rfl

theorem State.chans_judgeRefclk (s : State) : s.judgeRefclk.chans = s.chans := by
  unfold State.judgeRefclk
  split
  · rfl
  · exact s.chans_judgeCounts _ _

/-- Channels close before REFCLK is judged and messages are sent, which touch no channel. -/
theorem invariant_of_settle (s : State) : MessagesSent s.settle ∧ DisabledReset s.settle := by
  have untouched (u : State) : u.judgeRefclk.sendVectors.chans = u.chans := (same_chans (State.sendVectors_same _)).trans u.chans_judgeRefclk
  exact ⟨messagesSent_sendVectors _, disabledReset_of_chans (disabledReset_closeChannels _) (untouched _)⟩

/-- Settles O1: the two cases of the queue are the two cases of step. -/
theorem stepRunsTheFront : Obligations.StepRunsTheFront := by
  refine fun s => ⟨fun c rest front => ?_, fun empty => ?_⟩
  · rw [step, front]
  · rw [step, empty]

/-- Settles O4: a step that runs a command ends in a settled state, and any other leaves the state. -/
theorem stepKeepsInvariant : Obligations.StepKeepsInvariant := by
  unfold Obligations.StepKeepsInvariant
  intro s t holds next
  obtain ⟨runs, idles⟩ := stepRunsTheFront s
  cases queue : s.pending with
  | nil =>
    rw [idles queue] at next
    exact Host.Outcome.next.inj next ▸ holds
  | cons c rest =>
    obtain ⟨u, settles⟩ := exec_settles c { s with pending := rest }
    rw [runs c rest queue, settles] at next
    exact Host.Outcome.next.inj next ▸ invariant_of_settle u

/-- Settles O3: messages are not enabled at reset, and no channel waits for its reset. -/
theorem resetMeetsInvariant : Obligations.ResetMeetsInvariant := by
  refine ⟨fun _ _ enabled => ?_, fun n _ closing => ?_⟩
  · exact absurd enabled (by decide)
  · rw [State.chan_reset] at closing
    exact absurd closing (by decide)

end Sys2Proof.Machine
end

section
/-! SUPPORT. System commands: PING, KEEP_READ, what each system command leaves, and the catalogue (R438, R442, R446 to R462, Table 15-2). -/
namespace Sys2Proof.Machine
open Sys2Proof.Safety

/-! ### The checks of an untimed command for the device alone -/

section
variable {c : CmdSpec} {p : Packet} {s : State}

/-- A packet alone, of a command with no condition on the run state, passes steps 6 to 9 when it does not break into a chain of its command. -/
theorem CmdSpec.early_of_single (single : p.group = false) (last : p.more = false) (chain : c.chainDeny p s = none)
    (run : runDeny c.op s = none) (state : c.state p s = none) : c.early p s = none := by
  simp [CmdSpec.early, CmdSpec.flags, single, last, chain, run, state, firstDeny, denyIf]

variable (own : c.pair = false) (passes : c.early p s = none)
include own passes

/-- The twin gate is not asked for a command of one device: step 8 and what follows decide (R391). -/
theorem CmdSpec.verdict_of_not_pair : c.verdict p s = c.late p s := by
  simp [CmdSpec.verdict, passes, own]

variable (handle : c.handle p s = none)
include handle

theorem CmdSpec.verdict_of_layout_denied {d : Deny} (layout : c.layout p s = some d) : c.verdict p s = .denyLate d := by
  simp [CmdSpec.verdict_of_not_pair own passes, CmdSpec.late, handle, layout, firstDeny]

/-- An untimed packet of the right shape is taken, where its command asks nothing more. -/
theorem CmdSpec.verdict_of_shape (layout : c.layout p s = none) (untimed : c.timing = .untimed) (now : p.apply = 0) (single : p.group = false)
    (free : c.own p s (s.earliestFor false) = none) : c.verdict p s = .take (s.earliestFor false) := by
  have index : c.index p s = .ok (s.earliestFor false) := by simp [CmdSpec.index, untimed, now, own]
  simp [CmdSpec.verdict_of_not_pair own passes, CmdSpec.late, handle, layout, index, free, untimed, single, firstDeny, denyIf]

end

theorem noHandle_of_zero {p : Packet} (handle : p.handle = 0) : noHandle p = none := if_pos handle

/-! ### PING (R442) -/

theorem ping_taken {p : Packet} {s : State} (single : p.group = false) (last : p.more = false) (chain : pingSpec.chainDeny p s = none)
    (handle : p.handle = 0) (now : p.apply = 0) : pingSpec.verdict p s = .take (s.earliestFor false) :=
  CmdSpec.verdict_of_shape rfl (CmdSpec.early_of_single single last chain rfl rfl) (noHandle_of_zero handle) rfl rfl now single rfl

/-- A PING that is taken does nothing but end the channel's runs of violations, and answer. -/
theorem ping_finish (p : Packet) (s : State) (i : Int) :
    pingSpec.finish p i s (pingDoes.effect p s i) = (s.noViolation p.ch).answer 0x001 p .ok 0 s.index p.params := rfl

/-- An answer and the end of runs touch the channels and the runs alone. -/
theorem answer_noViolation_frame (s : State) (op : Nat) (p : Packet) (st : Status) (d : Nat) (time : Int) (words : List Word) (chans : AMap Channel) :
    ({ (s.noViolation p.ch).answer op p st d time words with chans := chans, runs := s.runs } : State) = { s with chans := chans } := by
  unfold State.answer
  split <;> rfl

/-- Settles O15: the words are the parameters, and an answer of status OK carries them. -/
theorem pingReturnsItsWords : Obligations.PingReturnsItsWords := by
  unfold Obligations.PingReturnsItsWords
  intro t p s takes _ handle now single last chain
  have completes : ∃ i, exec (.ping t p) s =
      .next (pingSpec.finish p i (judgedIn pingSpec t p s) (pingDoes.effect p (judgedIn pingSpec t p s) i)).settle :=
    ⟨_, pingDoes_holds t p s _ ⟨takes, ping_taken single last chain handle now⟩ single last⟩
  obtain ⟨i, completes⟩ := completes
  rw [ping_finish] at completes
  generalize judgedIn pingSpec t p s = u at completes ⊢
  obtain ⟨status, rprod, answered⟩ := (u.noViolation p.ch).chan_answer p 0x001 .ok 0 u.index p.params
  refine ⟨_, mkReply 0x001 p .ok 0 u.index p.params, completes, rfl, rfl, ?_, ?_, answer_noViolation_frame u _ _ _ _ _ _ _⟩
  · rw [answered]
    exact Channel.entry_enter _ _ _ _
  · rw [answered]
    simp [suppressed, Status.good]

/-! ### KEEP_READ (R461) -/

/-- The bits outside [hi:0] are clear when the word is no larger than that field. -/
theorem reservedSet_mask_low (w : Word) {hi : Nat} (inside : hi < 32) : reservedSet w (mask hi 0) = decide (w.toNat ≠ fld w hi 0) := by
  have low : (w32 (mask hi 0)).toNat = 2 ^ (hi + 1) - 1 := by
    have fits : 2 ^ (hi + 1) ≤ 2 ^ 32 := Nat.pow_le_pow_right (by decide) inside
    have positive := Nat.two_pow_pos (hi + 1)
    rw [w32, BitVec.toNat_ofNat, mask, Nat.sub_zero, pow_zero, mul_one, Nat.mod_eq_of_lt (by omega)]
  have field : (w &&& w32 (mask hi 0)).toNat = fld w hi 0 := by
    rw [BitVec.toNat_and, low, Nat.and_two_pow_sub_one_eq_mod, fld, pow_zero, Nat.div_one, Nat.sub_zero]
  have clear : w &&& ~~~w32 (mask hi 0) = 0 ↔ w = w &&& w32 (mask hi 0) := by
    generalize w32 (mask hi 0) = m
    simp only [BitVec.eq_of_getLsbD_eq_iff, BitVec.getLsbD_and, BitVec.getLsbD_not]
    refine forall₂_congr fun i known => ?_
    cases w.getLsbD i <;> simp [known]
  rw [reservedSet, bne, beq_eq_decide, ← decide_not, decide_eq_decide, clear, ← field, ← BitVec.toNat_inj]

/-- The fields of KEEP_READ outside their bounds (R435, R461). -/
abbrev keepReadBad (p : Packet) : Prop :=
  ((p.w 4).toNat ≠ fld (p.w 4) 15 0 ∨ (p.w 5).toNat ≠ fld (p.w 5) 9 0) ∨ fld (p.w 4) 15 0 % 4 ≠ 0 ∨ fld (p.w 5) 9 0 < 1 ∨
    1020 < fld (p.w 5) 9 0 ∨ 0x10000 < fld (p.w 4) 15 0 + 4 * fld (p.w 5) 9 0

theorem lenIs_six (p : Packet) : lenIs p 6 = if p.params.length = 2 then none else some lengthDeny := by
  have words : p.len = 6 ↔ p.params.length = 2 := by rw [Packet.len]; omega
  simp only [lenIs, words]

theorem keepRead_layout (p : Packet) (s : State) :
    keepReadSpec.layout p s = if p.params.length = 2 then (if keepReadBad p then some fieldDeny else none) else some lengthDeny := by
  have fields : keepReadSpec.layout p s = firstDeny [lenIs p 6, denyIf (decide (keepReadBad p)) fieldDeny] := by
    simp only [keepReadSpec, reservedSet_mask_low _ (show 15 < 32 by decide), reservedSet_mask_low _ (show 9 < 32 by decide), Bool.decide_or,
      Bool.or_assoc]
  rw [fields, lenIs_six]
  split
  · simp only [denyIf, decide_eq_true_eq]
    split <;> rfl
  · rfl

/-- Settles O16: the length and then the fields decide, and an acceptance reads the words from the octet asked for. -/
theorem keepReadAnswers : Obligations.KeepReadAnswers := by
  unfold Obligations.KeepReadAnswers
  intro p s passes handle now single last
  have free : keepReadSpec.handle p s = none := noHandle_of_zero handle
  have deny {d : Deny} (layout : keepReadSpec.layout p s = some d) := CmdSpec.verdict_of_layout_denied rfl passes free layout
  refine ⟨fun length => deny (by rw [keepRead_layout, if_neg length, lengthDeny]), fun length => ⟨fun bad => ?_, fun good => ?_⟩⟩
  · exact deny (by rw [keepRead_layout, if_pos length, if_pos bad, fieldDeny])
  · refine ⟨_, CmdSpec.verdict_of_shape rfl passes free (by rw [keepRead_layout, if_pos length, if_neg good]) rfl now single rfl,
      fun forced => ?_⟩
    rw [CmdSpec.accept, if_neg (by simp [single]), if_neg (by simp [last])]
    exact ⟨rfl, rfl⟩

/-! ### The system commands -/

theorem setRateDoes_holds : setRateDoes.Holds := Command.holds_of_act _ exec_setRate fun _ _ _ => rfl

theorem fwUpdateBeginDoes_holds : fwUpdateBeginDoes.Holds := Command.holds_of_act _ exec_fwUpdateBegin fun _ _ _ => rfl

theorem fwUpdateDataDoes_holds : fwUpdateDataDoes.Holds := Command.holds_of_act _ exec_fwUpdateData fun _ _ _ => rfl

/-- After ABORT the word is a free value: the model's choice (log entry 17). -/
theorem fwUpdateCommitDoes_holds : fwUpdateCommitDoes.Holds := Command.holds_of_act _ exec_fwUpdateCommit fun _ _ _ => rfl

theorem resetScopeDoes_holds : resetScopeDoes.Holds := Command.holds_of_act _ exec_resetScope fun _ _ _ => rfl

theorem boardTableLoadDoes_holds : boardTableLoadDoes.Holds := Command.holds_of_act _ exec_boardTableLoad fun _ _ _ => rfl

/-- Whether the channel resets itself decides whether the reset waits for the reply. -/
theorem channelConfigDoes_holds : channelConfigDoes.Holds := Command.holds_of_act _ exec_channelConfig fun _ _ _ => rfl

theorem keepWriteDoes_holds : keepWriteDoes.Holds := Command.holds_of_act _ exec_keepWrite fun _ _ _ => rfl

/-- Bit 8 releases the subscription of its number, and otherwise one is entered. -/
theorem meterSubscribeDoes_holds : meterSubscribeDoes.Holds :=
  Command.holds_of_act _ exec_meterSubscribe fun p u i => by
    simp only [meterSubscribeSpec, meterSubscribeDoes]
    split <;> rfl

/-- The set's members, when there are any, are one sample-exact change; their swaps run along (R68, R175). -/
theorem safeSetCommitDoes_holds : safeSetCommitDoes.Holds := Command.holds_of_act _ exec_safeSetCommit fun _ _ _ => rfl

/-- Settles O35, command by command: each is taken with its own effect, and the interpreter does the rest alike. -/
theorem systemCommandsAct : Obligations.SystemCommandsAct := by
  unfold Obligations.SystemCommandsAct
  simp only [List.forall_mem_cons]
  exact ⟨setRateDoes_holds, fwUpdateBeginDoes_holds, fwUpdateDataDoes_holds, fwUpdateCommitDoes_holds, resetScopeDoes_holds,
    boardTableLoadDoes_holds, channelConfigDoes_holds, keepWriteDoes_holds, meterSubscribeDoes_holds, safeSetBeginDoes_holds,
    safeSetCommitDoes_holds, List.forall_mem_nil _⟩

/-! ### The catalogue (R438, Table 15-2) -/

theorem breakChain_onlyNotes (op : Nat) (p : Packet) (s : State) : OnlyNotes (breakChain op p s) s := by
  unfold breakChain
  split
  · exact OnlyNotes.refl s
  · split
    · exact OnlyNotes.refl s
    · exact (State.violation_onlyNotes _ _ _ _).trans ((State.logAt_onlyNotes _ _ _ _).trans (State.updChan_onlyNotes _ _ _))

/-- A packet of an opcode that no command has enters the history with its refusal (Table 14-7, step 5). -/
theorem entry_takePacketOf_of_unknown {op : Nat} {p : Packet} {s : State} (unknown : ∀ c ∈ catalogue, c.op ≠ op)
    (new : (s.chan p.ch).stale op p s.index = none) :
    ((s.takePacketOf op p).chan p.ch).entry p.tag = some ⟨p.tag, p.check op, mkReply op p .badOpcode 0 s.index []⟩ := by
  have noted : OnlyNotes (((breakChain op p s).memberFailed p.ch p).violation p.ch 6 p.tag) s :=
    (State.violation_onlyNotes _ _ _ _).trans ((State.memberFailed_onlyNotes _ p p.ch).trans (breakChain_onlyNotes op p s))
  simp only [State.takePacketOf, new, specOf_of_unknown unknown, State.refuse, noted.index]
  obtain ⟨status, rprod, answered⟩ := (((breakChain op p s).memberFailed p.ch p).violation p.ch 6 p.tag).chan_answer p op .badOpcode 0 s.index []
  rw [answered]
  exact Channel.entry_enter _ _ _ _

/-- Settles O6: the lists are read off the catalogue's 79 rows, and an opcode that none of them has finds no command. -/
theorem catalogueIsTheTable : Obligations.CatalogueIsTheTable :=
  ⟨rfl, rfl, rfl, rfl, rfl, by decide, fun _ _ _ => entry_takePacketOf_of_unknown⟩

end Sys2Proof.Machine
end

section
/-! SUPPORT. Posted writes given up, offsets of the register windows, and bit aliases (R469, R470, R474, R477, Table 16-2). -/
namespace Sys2Proof.Machine
open Sys2Proof.Safety

/-! ### Posted writes given up (R474) -/

theorem find_del_same {α : Type} (m : AMap α) (i : Nat) : AMap.find (AMap.del m i) i = none := by
  induction m with
  | nil => rfl
  | cons x m ih =>
    rw [AMap.del, List.filter_cons]
    split
    · next other => rw [AMap.find, if_neg (by simpa using other)]; exact ih
    · exact ih

/-- After 10 µs no write waits for the block, and WLOST is set. -/
theorem postedBits_postedWriteTimeout {s : State} {b : Nat} {x : Posted} (waits : AMap.find s.posted b = some x)
    (due : x.since + ticksOfUs 10 ≤ s.now) : (postedWriteTimeout b s).postedBits b = 2 := by
  rw [postedWriteTimeout_of_find waits due]
  have busy : AMap.has (({ s with posted := AMap.del s.posted b } : State).orReg (b * 1024) 2).posted b = false := by
    rw [AMap.has, State.orReg, State.setReg_posted, find_del_same]
    rfl
  have lost : bitOf ((({ s with posted := AMap.del s.posted b } : State).orReg (b * 1024) 2).reg (b * 1024)) 1 = true := by
    rw [State.orReg, State.reg_setReg_same]
    exact (bitOf_or_two_pow _ (j := 1) (by decide) 1).trans (by simp)
  rw [State.postedBits, busy, lost]
  rfl

/-- Settles O20: the write that waited is gone from its block, whose first register alone changes. -/
theorem postedWriteGivenUp : Obligations.PostedWriteGivenUp := by
  refine ⟨postedDiscarded_holds, fun b u ⟨x, waits, due⟩ => ⟨postedBits_postedWriteTimeout waits due, fun a other => ?_⟩⟩
  rw [postedWriteTimeout_of_find waits due]
  exact State.reg_setReg_other _ _ other

/-! ### Offsets (R469, R470) -/

/-- Every word of the MSI-X table is a register. -/
theorem regRowOf_msix : ∀ i < 128, (regRowOf (rIrqMsixaddrlo + 4 * i)).isSome = true := by decide +kernel

/-- Of the eight words of a PCIe channel, all but the last are registers. -/
theorem regRowOf_channel : ∀ n < 8, ∀ o < 7, (regRowOf (rCmdCfg + 32 * n + 4 * o)).isSome = true := by decide +kernel

/-- The descriptor tails of every MAC are registers. -/
theorem regRowOf_tails : ∀ m < 4, ∀ o ∈ [8, 9, 12, 13], (regRowOf (rMacStatus + 0x400 * m + 4 * o)).isSome = true := by decide +kernel

section
variable {a : Nat} (aligned : a % 4 = 0) (bare : regRowOf a = none)
include bare

theorem ne_of_no_row {b : Nat} (row : (regRowOf b).isSome = true) : a ≠ b := by
  rintro rfl
  simp [bare] at row

include aligned

theorem not_msix_of_no_row : ¬ (rIrqMsixaddrlo ≤ a ∧ a < rIrqMsixaddrlo + 512) := by
  rintro ⟨least, most⟩
  have word : a = rIrqMsixaddrlo + 4 * ((a - rIrqMsixaddrlo) / 4) := by simp only [rIrqMsixaddrlo] at *; omega
  exact ne_of_no_row bare (regRowOf_msix _ (by omega)) word

/-- Where no register lies in a PCIe channel's words, it is the last of the eight. -/
theorem channel_word_of_no_row (inside : rCmdCfg ≤ a ∧ a < rCmdCfg + 256) : (a - rCmdCfg) % 32 = 28 := by
  obtain ⟨least, most⟩ := inside
  by_contra other
  have word : a = rCmdCfg + 32 * ((a - rCmdCfg) / 32) + 4 * ((a - rCmdCfg) % 32 / 4) := by simp only [rCmdCfg] at *; omega
  exact ne_of_no_row bare (regRowOf_channel _ (by omega) _ (by simp only [rCmdCfg] at *; omega)) word

theorem not_tail_of_no_row {o : Nat} (tail : o ∈ [8, 9, 12, 13]) : ¬ (rMacStatus ≤ a ∧ a < rSteStatus ∧ (a - rMacStatus) % 0x400 = 4 * o) := by
  rintro ⟨least, most, place⟩
  have word : a = rMacStatus + 0x400 * ((a - rMacStatus) / 0x400) + 4 * o := by omega
  exact ne_of_no_row bare (regRowOf_tails _ (by simp only [rMacStatus, rSteStatus] at *; omega) o tail) word

/-- A write to an offset that holds no register changes nothing (R470). -/
theorem State.writeReg_of_no_row (s : State) (v : Word) : s.writeReg a v = s := by
  have tail {o : Nat} := not_tail_of_no_row aligned bare (o := o)
  have rxTails := not_or.2 ⟨tail (o := 8) (by decide), tail (o := 9) (by decide)⟩
  have txTails := not_or.2 ⟨tail (o := 12) (by decide), tail (o := 13) (by decide)⟩
  rw [← and_or_left, ← and_or_left] at rxTails txTails
  unfold State.writeReg
  by_cases channel : rCmdCfg ≤ a ∧ a < rCmdCfg + 256
  · rw [if_pos channel, channel_word_of_no_row aligned bare channel]
    rfl
  · rw [if_neg channel, if_neg (ne_of_no_row bare (by decide +kernel)), if_neg (not_msix_of_no_row aligned bare),
      if_neg (ne_of_no_row bare (by decide +kernel)), if_neg (ne_of_no_row bare (by decide +kernel)),
      if_neg (ne_of_no_row bare (by decide +kernel)), if_neg (ne_of_no_row bare (by decide +kernel)), if_neg rxTails, if_neg txTails,
      State.writePlain, bare]

end

/-- A read of an offset that holds no register returns 0 (R470). -/
theorem State.read_readReg_of_no_row (s : State) {a : Nat} (bare : regRowOf a = none) : (s.readReg a).read = 0 := by
  have zero (u : State) : u.regValue a = 0 := by rw [State.regValue, bare, Option.isNone_none, if_pos rfl]
  unfold State.readReg
  rw [bare]
  exact zero _

theorem mw0Decode_block (off : Nat) : mw0Decode off / 1024 = mw0Block off := by
  have small := Nat.mod_le (off % 1024) (blockSpan (mw0Block off))
  rw [mw0Decode]
  omega

theorem mw0Decode_offset (off : Nat) : mw0Decode off % 1024 = off % 1024 % blockSpan (mw0Block off) / 4 * 4 := by
  have small := Nat.mod_le (off % 1024) (blockSpan (mw0Block off))
  rw [mw0Decode]
  omega

/-- Settles O21: the spans are read off Table 16-2, and the accesses with more than a plain effect all reach registers. -/
theorem offsetsDecode : Obligations.OffsetsDecode := by
  refine ⟨fun off => ?_, fun off => ⟨mw0Decode_block off, mw0Decode_offset off⟩, rfl,
    fun s a v aligned bare => ⟨s.writeReg_of_no_row aligned bare v, s.read_readReg_of_no_row bare⟩⟩
  simp only [mw0Block]
  split <;> split <;> omega

/-! ### Bit aliases (R477) -/

theorem aliasOf_place {o b : Nat} (inside : o < 4096) (aligned : o % 4 = 0) (known : b < 32) : aliasOf (o / 4 * 128 + b * 4) = (mw0Decode o, b) := by
  rw [aliasOf, show (o / 4 * 128 + b * 4) / 128 % 1024 * 4 = o by omega, show (o / 4 * 128 + b * 4) % 128 / 4 = b by omega]

/-- The first register of a block is read without waiting for the block's posted write (R473). -/
theorem State.aliasRead_of_first {s : State} {off : Nat} (on : s.blockOff ((aliasOf off).1 / 1024) = false) (first : (aliasOf off).1 % 1024 = 0) :
    s.aliasRead off = { s with read := w32 (b2n (bitOf (s.regValue (aliasOf off).1) (aliasOf off).2)), free := s.free + 1 } := by
  simp only [State.aliasRead, on, first, Bool.false_eq_true, if_false, if_true]

/-- A field whose bits an alias keeps. -/
abbrev RegField.isKept (f : RegField) : Bool := decide (f.acc = .rw) || decide (f.acc = .rws)

theorem RegRow.kept_eq_foldl (r : RegRow) : r.kept = r.fields.foldl (fun acc f => acc ||| if f.isKept then w32 f.mask else 0) 0 := by
  unfold RegRow.kept
  congr
  funext acc f
  by_cases kept : f.acc = .rw ∨ f.acc = .rws <;> simp [RegField.isKept, kept]

/-- The bits kept are those of the RW and RWS fields. -/
theorem RegRow.getLsbD_kept (r : RegRow) {i : Nat} (known : i < 32) :
    r.kept.getLsbD i = r.fields.any fun f => f.isKept && decide (f.lo ≤ i) && decide (i ≤ f.hi) := by
  rw [r.kept_eq_foldl, getLsbD_foldl_or, BitVec.ofNat_eq_ofNat, BitVec.getLsbD_zero, Bool.false_or]
  congr
  funext f
  have mask := f.getLsbD_and_mask (BitVec.allOnes 32) i
  rw [BitVec.allOnes_and, BitVec.getLsbD_allOnes, decide_eq_true known, Bool.and_true] at mask
  split
  · next kept => rw [mask, kept, Bool.true_and, Bool.decide_and]
  · next other => simp [other]

/-- The aliased bit is the one given, and every other bit is what its field keeps. -/
theorem State.getLsbD_aliasWord (s : State) {a bit i : Nat} (v : Bool) {r : RegRow} (row : regRowOf a = some r) (inside : i < 32) :
    (s.aliasWord a bit v).getLsbD i =
      if i = bit then v else (r.fields.any fun f => f.isKept && decide (f.lo ≤ i) && decide (i ≤ f.hi)) && (s.regValue a).getLsbD i := by
  have given : (w32 (flagBit v bit)).getLsbD i = (v && decide (bit = i)) := by
    cases v with
    | false => simp [flagBit, w32]
    | true => rw [flagBit, if_pos rfl, w32, BitVec.getLsbD_ofNat, Nat.testBit_two_pow, decide_eq_true inside]
  have cleared (w : Word) := bitOf_and_not_two_pow w bit i
  simp only [bitOf, BitVec.testBit_toNat] at cleared
  simp only [State.aliasWord, row, BitVec.getLsbD_or, cleared, given, BitVec.getLsbD_and, r.getLsbD_kept inside]
  by_cases own : i = bit
  · simp [own]
  · simp [own, Ne.symm own, Bool.and_comm]

/-- Settles O23: an alias is read and written as its register is, and the word written keeps what the access types say. -/
theorem bitAliases : Obligations.BitAliases := by
  refine ⟨fun _ _ => aliasOf_place, readAliased_holds, fun u off ⟨_, on⟩ first => ?_, aliasLands_holds,
    fun s _ _ _ v _ row _ inside => s.getLsbD_aliasWord v row inside⟩
  rw [State.aliasRead_of_first on first]
  exact ⟨rfl, rfl⟩

end Sys2Proof.Machine
end

section
/-! SUPPORT. Places in the DRAM, and THERM_ALERT_N (R505, R549). -/
namespace Sys2Proof.Machine
open Sys2Proof.Safety

/-! ### Places in the DRAM (R505) -/

/-- The octet of its channel at which an offset lies: whole rounds of four granules, one granule of each to a channel. -/
def channelOctet (g a : Nat) : Nat := a / (4 * g) * g + a % g

theorem dramPlace_eq (g a : Nat) : dramPlace g a =
    ⟨a / g % 4, (channelOctet g a / 2048 % 16) ^^^ (channelOctet g a / 32768 % 16), channelOctet g a / 32768, channelOctet g a / 2 % 1024⟩ := rfl

/-- The channel and the octet in it give the offset back. -/
theorem offset_of_channel_octet {g : Nat} (positive : 0 < g) (a : Nat) :
    a = channelOctet g a / g * (4 * g) + a / g % 4 * g + channelOctet g a % g := by
  have round : channelOctet g a / g = a / g / 4 := by
    rw [channelOctet, Nat.add_comm, Nat.add_mul_div_right _ _ positive, Nat.div_eq_of_lt (Nat.mod_lt _ positive), Nat.zero_add,
      Nat.mul_comm 4 g, Nat.div_div_eq_div_mul]
  have inside : channelOctet g a % g = a % g := by
    rw [channelOctet, Nat.add_comm, Nat.add_mul_mod_self_right, Nat.mod_mod]
  rw [round, inside]
  calc a = a / g * g + a % g := (Nat.div_add_mod' a g).symm
    _ = (a / g / 4 * 4 + a / g % 4) * g + a % g := by rw [Nat.div_add_mod' (a / g) 4]
    _ = a / g / 4 * (4 * g) + a / g % 4 * g + a % g := by ring

/-- With granules of even size an offset's octet in its channel has the offset's parity. -/
theorem channelOctet_mod_two {g : Nat} (even : 2 ∣ g) (a : Nat) : channelOctet g a % 2 = a % 2 := by
  rw [channelOctet, Nat.add_mod, Nat.mul_mod, Nat.mod_eq_zero_of_dvd even, Nat.mul_zero, Nat.zero_mod, Nat.zero_add, Nat.mod_mod,
    Nat.mod_mod_of_dvd a even]

/-- Row, bank, column and parity give an octet of a channel back: the bank is swizzled by the row alone. -/
theorem channel_octet_ext {c d : Nat} (row : c / 32768 = d / 32768)
    (bank : (c / 2048 % 16) ^^^ (c / 32768 % 16) = (d / 2048 % 16) ^^^ (d / 32768 % 16)) (column : c / 2 % 1024 = d / 2 % 1024)
    (parity : c % 2 = d % 2) : c = d := by
  rw [row] at bank
  have plain : c / 2048 % 16 = d / 2048 % 16 := Nat.xor_left_injective bank
  omega

/-- Settles O32: the place gives back the octet in the channel, and with the channel the offset. -/
theorem dramPlaces : Obligations.DramPlaces := by
  unfold Obligations.DramPlaces
  intro k a b least g c
  refine ⟨dramPlace_eq g a, fun same parity => ?_⟩
  rw [dramPlace_eq, dramPlace_eq, DramPlace.mk.injEq] at same
  obtain ⟨chan, bank, row, column⟩ := same
  have even : 2 ∣ g := dvd_pow_self 2 (by omega)
  have octet : channelOctet g a = channelOctet g b :=
    channel_octet_ext row bank column (by rw [channelOctet_mod_two even, channelOctet_mod_two even, parity])
  rw [offset_of_channel_octet (Nat.two_pow_pos k) a, octet, chan, ← offset_of_channel_octet (Nat.two_pow_pos k) b]

/-! ### THERM_ALERT_N (R549) -/

/-- Between the two thresholds the pin stays as it is. -/
theorem thermAlertChange_eq (temp : Int) (s : State) : thermAlertChange temp s =
    { s with rpc := { s.rpc with
        therm := if (tjMax - 5) * 256 ≤ temp then true else if temp < (tjMax - 10) * 256 then false else s.rpc.therm } } := by
  unfold thermAlertChange
  split
  · rfl
  · split <;> rfl

/-- Settles O33: the row changes the pin alone. -/
theorem thermalAlert : Obligations.ThermalAlert :=
  ⟨rfl, fun t temp s => ⟨thermAlertChange temp (s.atTime t), exec_thermAlertChange t temp s, thermAlertChange_eq temp _⟩⟩

end Sys2Proof.Machine
end

section
/-! SUPPORT. Reset sources: what each case of the state makes of an assertion, a release and an idle request, and the rows (R448, R501, R513
to R519, R523, R528). -/
namespace Sys2Proof.Machine
open Sys2Proof.Safety

/-! ### Assertion (R514 to R516) -/

section
variable {s : State} {x : ResetSource}

theorem State.assertSource_cold (new : s.rpc.sources.contains x = false) (cold : x.reach = 0) (first : s.rpc.reach ≠ 0) :
    s.assertSource x = (s.noteSource x).coldReset := by
  simp only [State.assertSource, new, cold, first, Bool.false_eq_true, if_false, if_true]

theorem State.assertSource_warm (new : s.rpc.sources.contains x = false) (warm : x.reach = 1) (first : 1 < s.rpc.reach) :
    s.assertSource x = resetWarm x s := by
  have widest : ¬ s.rpc.reach ≤ 1 := by omega
  simp only [State.assertSource, new, warm, widest, Bool.false_eq_true, if_false, if_true, one_ne_zero, resetWarm]

/-- During a reset as wide a WARM source only joins. -/
theorem State.assertSource_joins (new : s.rpc.sources.contains x = false) (warm : x.reach = 1) (wide : s.rpc.reach ≤ 1) :
    s.assertSource x = s.noteSource x := by
  simp only [State.assertSource, new, warm, wide, Bool.false_eq_true, if_false, if_true, one_ne_zero]

/-- A DOMAIN source on a device that has left BOOT asks for idle first (R528). -/
theorem State.assertSource_domain (new : s.rpc.sources.contains x = false) (domain : x.reach = 2) (loaded : s.run ≠ .loading) (booted : s.run ≠ .boot) :
    s.assertSource x =
      (s.noteSource x).updRpc fun r => { r with idle := r.idle ++ [⟨some x, x.ports, domainClosure x.domain, s.now⟩] } := by
  simp only [State.assertSource, new, domain, loaded, booted, Bool.false_eq_true, if_false, if_true, or_self, OfNat.ofNat_ne_zero,
    OfNat.ofNat_ne_one]

/-- No source of a cause is asserted, so no source that has it is. -/
theorem not_contains_of_idleCause {c : Nat} (idle : idleCause c s) (cause : x.cause = c) : s.rpc.sources.contains x = false := by
  rw [List.contains_eq_mem, decide_eq_false_iff_not]
  exact fun held => idle x held cause

theorem not_any_of_idleCause {c : Nat} (idle : idleCause c s) : (s.rpc.sources.any fun y => decide (y.cause = c)) = false := by
  simpa using idle

theorem resetSourceAssert_por (idle : idleCause 1 s) : resetSourceAssert 1 s = s.assertSource ⟨1, 0, 0, 0⟩ := by
  simp [resetSourceAssert, State.sourceOf, not_any_of_idleCause idle]

/-- VDD_CORE at its reset level first ends its warning (R532). -/
theorem resetSourceAssert_core (idle : idleCause 3 s) : resetSourceAssert 3 s = (s.brownoutEnds 0).assertSource ⟨3, 1, 0, 0⟩ := by
  simp [resetSourceAssert, State.sourceOf, not_any_of_idleCause idle]

theorem resetSourceAssert_pin (idle : idleCause 4 s) : resetSourceAssert 4 s = s.assertSource ⟨4, 1, 0, 0⟩ := by
  simp [resetSourceAssert, State.sourceOf, not_any_of_idleCause idle]

theorem State.brownoutEnds_of_warned {rail : Nat} {b : Brownout} (warned : (s.rpc.warn.find? fun b => decide (b.rail = rail)) = some b) :
    s.brownoutEnds rail =
      (s.updRpc fun r => { r with warn := r.warn.filter fun y => !decide (y.rail = rail) }).brownoutRecord rail 7 (cdivN (s.now - b.since) 400) b.ns := by
  simp only [State.brownoutEnds, warned]

theorem firmwareWatchdog_of_on (on : s.powered 1 = true) :
    firmwareWatchdog s = (s.assertSource ⟨6, 1, 0, 0⟩).dropSource ⟨6, 1, 0, 0⟩ := if_pos on

/-- The reset that RESET_SCOPE asked for applies from 100 µs after its reply on (R448). -/
theorem resetScopeApply_of_due {x : PendingReset} (asked : s.pendReset = some x) (due : x.replied + ticksOfUs 100 ≤ s.now) :
    resetScopeApply s = ({ s with pendReset := none } : State).assertSource
      ⟨7, x.reach, if x.reach = 2 then x.domain else 0, if x.reach = 3 then x.block else 0⟩ := by
  simp only [resetScopeApply, asked, if_neg (Nat.not_lt.2 due)]

/-! ### Release (R514, R523) -/

theorem resetSourceRelease_of_asserted {c : Nat} (asserted : (s.rpc.sources.find? fun x => decide (x.cause = c)) = some x) (other : c ≠ 9) :
    resetSourceRelease c s = s.dropSource x := by
  simp only [resetSourceRelease, asserted, if_neg other]

section
variable (wide : x.reach ≤ 1)
include wide

theorem State.dropSource_last (under : s.rpc.reach ≤ 1) (last : (s.updRpc fun r => { r with sources := r.sources.erase x }).releasing = true) :
    s.dropSource x = ({ s with rpc := { s.rpc with sources := s.rpc.sources.erase x, stepAt := s.now } } : State).release := by
  simp only [State.dropSource, wide, under, last, decide_true, Bool.and_self, if_true]
  rfl

theorem State.dropSource_not_last (held : (s.updRpc fun r => { r with sources := r.sources.erase x }).releasing = false) :
    s.dropSource x = { s with rpc := { s.rpc with sources := s.rpc.sources.erase x } } := by
  simp only [State.dropSource, wide, held, Bool.and_false, Bool.false_eq_true, if_false, if_true]
  rfl

end

/-! ### Idle requests (R528) -/

theorem blockIdleReported_of_asked {i : Nat} {x : IdleRequest} (asked : s.rpc.idle[i]? = some x) : blockIdleReported i s = s.idleDone x := by
  simp only [blockIdleReported, asked]

theorem State.idleDone_of_held {x : IdleRequest} {y : ResetSource} (source : x.source = some y) (held : s.rpc.sources.contains y = true) :
    s.idleDone x = ({ s with rpc := { s.rpc with idle := s.rpc.idle.erase x } } : State).holdScope y := by
  simp only [State.idleDone, source, State.updRpc, held, if_true]

theorem State.idleDone_of_released {x : IdleRequest} {y : ResetSource} (source : x.source = some y) (released : s.rpc.sources.contains y = false) :
    s.idleDone x = (({ s with rpc := { s.rpc with idle := s.rpc.idle.erase x } } : State).holdScope y).freeScope y := by
  simp only [State.idleDone, source, State.updRpc, released, Bool.false_eq_true, if_false]

theorem State.idleDone_of_no_source {x : IdleRequest} (none_ : x.source = none) :
    s.idleDone x = { s with rpc := { s.rpc with idle := s.rpc.idle.erase x } } := by
  simp only [State.idleDone, none_, State.updRpc]

theorem idleTimeout_of_due {i : Nat} {x : IdleRequest} (asked : s.rpc.idle[i]? = some x) (due : x.since + s.idleLimit ≤ s.now) :
    idleTimeout i s = (idleExpires i x).effect s := by
  simp only [idleTimeout, asked, if_neg (Nat.not_lt.2 due)]

end

/-! ### The rows -/

theorem coldAsserted_holds : coldAsserted.Holds :=
  Rule.holds_of_event _ (resetSourceAssert 1) (fun t s => exec_resetSourceAssert t 1 s) fun _ ⟨idle, first⟩ => by
    rw [resetSourceAssert_por idle, State.assertSource_cold (not_contains_of_idleCause idle rfl) rfl first]

theorem warmAsserted_holds : warmAsserted.Holds :=
  Rule.holds_of_event _ (resetSourceAssert 4) (fun t s => exec_resetSourceAssert t 4 s) fun _ ⟨idle, first⟩ => by
    rw [resetSourceAssert_pin idle, State.assertSource_warm (not_contains_of_idleCause idle rfl) rfl first]

theorem warmJoins_holds : warmJoins.Holds :=
  Rule.holds_of_event _ (resetSourceAssert 4) (fun t s => exec_resetSourceAssert t 4 s) fun _ ⟨idle, wide⟩ => by
    rw [resetSourceAssert_pin idle, State.assertSource_joins (not_contains_of_idleCause idle rfl) rfl wide]

theorem supplyResets_holds (b : Brownout) : (supplyResets b).Holds :=
  Rule.holds_of_event _ (resetSourceAssert 3) (fun t s => exec_resetSourceAssert t 3 s) fun _ ⟨idle, warned, new, first⟩ => by
    rw [resetSourceAssert_core idle, State.assertSource_warm new rfl first, State.brownoutEnds_of_warned warned]

theorem releaseStarts_holds (c : Nat) (x : ResetSource) : (releaseStarts c x).Holds :=
  Rule.holds_of_event _ (resetSourceRelease c) (fun t s => exec_resetSourceRelease t c s) fun _ ⟨asserted, other, wide, under, last⟩ => by
    rw [resetSourceRelease_of_asserted asserted other, State.dropSource_last wide under last]

theorem stillReset_holds (c : Nat) (x : ResetSource) : (stillReset c x).Holds :=
  Rule.holds_of_event _ (resetSourceRelease c) (fun t s => exec_resetSourceRelease t c s) fun _ ⟨asserted, other, wide, held⟩ => by
    rw [resetSourceRelease_of_asserted asserted other, State.dropSource_not_last wide held]

theorem powerOnEnds_holds (x : ResetSource) : (powerOnEnds x).Holds :=
  Rule.holds_of_event _ powerOnTimer exec_powerOnTimer fun _ ⟨asserted, wide, under, last⟩ => by
    rw [powerOnTimer, resetSourceRelease_of_asserted asserted (by decide), State.dropSource_last wide under last]

theorem watchdogResets_holds : watchdogResets.Holds :=
  Rule.holds_of_event _ firmwareWatchdog exec_firmwareWatchdog fun _ ⟨on, new, first⟩ => by
    rw [firmwareWatchdog_of_on on, State.assertSource_warm new rfl first]

theorem scopeWarm_holds (x : PendingReset) : (scopeWarm x).Holds :=
  Rule.holds_of_event _ resetScopeApply exec_resetScopeApply fun _ ⟨asked, due, warm, new, first⟩ => by
    rw [resetScopeApply_of_due asked due, warm]
    exact State.assertSource_warm new rfl first

theorem scopeDomain_holds (x : PendingReset) : (scopeDomain x).Holds :=
  Rule.holds_of_event _ resetScopeApply exec_resetScopeApply fun _ ⟨asked, due, domain, new, loaded, booted⟩ => by
    rw [resetScopeApply_of_due asked due, domain]
    exact State.assertSource_domain new rfl loaded booted

theorem idleResets_holds (i : Nat) (x : IdleRequest) (y : ResetSource) : (idleResets i x y).Holds :=
  Rule.holds_of_event _ (blockIdleReported i) (fun t s => exec_blockIdleReported t i s) fun _ ⟨asked, source, held⟩ => by
    rw [blockIdleReported_of_asked asked, State.idleDone_of_held source held]

theorem idleResetsShortly_holds (i : Nat) (x : IdleRequest) (y : ResetSource) : (idleResetsShortly i x y).Holds :=
  Rule.holds_of_event _ (blockIdleReported i) (fun t s => exec_blockIdleReported t i s) fun _ ⟨asked, source, released⟩ => by
    rw [blockIdleReported_of_asked asked, State.idleDone_of_released source released]

theorem idleReported_holds (i : Nat) (x : IdleRequest) : (idleReported i x).Holds :=
  Rule.holds_of_event _ (blockIdleReported i) (fun t s => exec_blockIdleReported t i s) fun _ ⟨asked, domains⟩ => by
    rw [blockIdleReported_of_asked asked, State.idleDone_of_no_source domains]

theorem idleExpires_holds (i : Nat) (x : IdleRequest) : (idleExpires i x).Holds :=
  Rule.holds_of_event _ (idleTimeout i) (fun t s => exec_idleTimeout t i s) fun _ ⟨asked, due⟩ => idleTimeout_of_due asked due

/-- Settles O54, row by row: by the reach of the source that is asserted or released, and by what an idle request was for. -/
theorem resetSourcesAct : Obligations.ResetSourcesAct :=
  ⟨coldAsserted_holds, warmAsserted_holds, warmJoins_holds, supplyResets_holds, releaseStarts_holds, stillReset_holds, powerOnEnds_holds,
    watchdogResets_holds, scopeWarm_holds, scopeDomain_holds, idleResets_holds, idleResetsShortly_holds, idleReported_holds, idleExpires_holds⟩

end Sys2Proof.Machine
end

section
/-! SUPPORT. POLDER_READY of a polder that rests in RETAIN (R492): the statement about the bus and the DRAM fails there. -/
namespace Sys2Proof.Machine
open Sys2Proof.Safety

/-- A device just reset, but for its one polder, which rests in RETAIN with no access that has started its return. -/
def restingPolder : State := { State.reset with mem := { polders := [.retain] } }

theorem quiet_reset : Quiet State.reset :=
  ⟨fun _ _ => ⟨rfl, rfl⟩, fun _ _ => rfl, fun _ _ _ => ⟨rfl, rfl⟩, rfl, rfl⟩

/-- What follows an effect on a quiet device leaves its memories. -/
theorem mem_settle {s : State} (quiet : Quiet s) : s.settle.mem = s.mem := same_mem (settle_same quiet)

/-- The model's row leaves such a polder in RETAIN. -/
theorem polderReady_resting : (polderReady 0 (restingPolder.atTime 0)).mem = { polders := [.retain] } := by decide

/-- The statement's row puts it ON. -/
theorem polderOn_resting : ((polderOn 0).effect (restingPolder.atTime 0)).mem = { polders := [.on] } := by decide

/-- The row of a polder that is ready asks of one in RETAIN that an access has started its return, and the rule does not (R492). -/
theorem not_polderOn_holds : ¬ (polderOn 0).Holds := by
  intro holds
  have next := holds 0 restingPolder trivial
  rw [exec_polderReady, eventRow_eq] at next
  have mems := congrArg State.mem (Host.Outcome.next.inj next)
  have quiet : Quiet (restingPolder.atTime 0) := quiet_of_eq quiet_reset rfl rfl rfl
  have quietReady : Quiet (polderReady 0 (restingPolder.atTime 0)) := quiet_of_eq quiet rfl rfl rfl
  have quietOn : Quiet ((polderOn 0).effect (restingPolder.atTime 0)) := quiet_of_eq quiet rfl rfl rfl
  rw [mem_settle quietReady, mem_settle quietOn, polderReady_resting, polderOn_resting] at mems
  exact absurd mems (by decide)

/-- Refutes O57 at its first row: from `restingPolder` POLDER_READY of polder 0 leaves it in RETAIN, where the statement puts it ON. -/
theorem not_busAndDramAct : ¬ Obligations.BusAndDramAct :=
  fun ⟨polders, _⟩ => not_polderOn_holds (polders 0)

end Sys2Proof.Machine
end

section
/-! SUPPORT. What the rows of the release sequence, of the domains and of the supplies leave that the statement about them names (R520, R521,
R531, R532, R534, R535, Table 18-4). -/
namespace Sys2Proof.Machine
open Sys2Proof.Safety

/-! ### Records and handovers leave the rest -/

/-- A write of the keep SRAM changes it and its CRC alone. -/
theorem State.keepWrite_only (s : State) (a : Nat) (ws : List Word) : ∃ k c, s.keepWrite a ws = { s with keep := k, keepCrc := c } := ⟨_, _, rfl⟩

theorem State.resetRecord_only (s : State) : ∃ k c, s.resetRecord = { s with keep := k, keepCrc := c } := by
  simp only [State.resetRecord]
  generalize 0xF040 + 32 * _ = slot
  generalize List.cons (s.reg rRpcLastcause) _ = record
  obtain ⟨k, c, first⟩ := s.keepWrite_only slot record
  rw [first]
  exact State.keepWrite_only _ _ _

theorem State.brownoutRecord_only (s : State) (rail bucket dur : Nat) (ns : Int) :
    ∃ k c, s.brownoutRecord rail bucket dur ns = { s with keep := k, keepCrc := c } := by
  simp only [State.brownoutRecord]
  generalize 0xF840 + 16 * _ = slot
  generalize List.cons (w32 (rail % 2 + bucket % 8 * 2 ^ 8)) _ = record
  obtain ⟨k, c, first⟩ := s.keepWrite_only slot record
  rw [first]
  exact State.keepWrite_only _ _ _

@[simp] theorem State.resetRecord_reg (s : State) (a : Nat) : s.resetRecord.reg a = s.reg a := by
  obtain ⟨k, c, only⟩ := s.resetRecord_only
  rw [only]
  rfl

@[simp] theorem State.resetRecord_run (s : State) : s.resetRecord.run = s.run := by
  obtain ⟨k, c, only⟩ := s.resetRecord_only
  rw [only]

@[simp] theorem State.resetRecord_pd (s : State) : s.resetRecord.pd = s.pd := by
  obtain ⟨k, c, only⟩ := s.resetRecord_only
  rw [only]

@[simp] theorem State.brownoutRecord_rpc (s : State) (rail bucket dur : Nat) (ns : Int) : (s.brownoutRecord rail bucket dur ns).rpc = s.rpc := by
  obtain ⟨k, c, only⟩ := s.brownoutRecord_only rail bucket dur ns
  rw [only]

@[simp] theorem State.railMin_rpc (s : State) (rail mv : Nat) : (s.railMin rail mv).rpc = s.rpc := rfl

@[simp] theorem State.brownoutHandover_rpc (s : State) : s.brownoutHandover.rpc = s.rpc := by
  unfold State.brownoutHandover
  split <;> rfl

theorem State.reg_setFld_other (s : State) {a b : Nat} (hi lo v : Nat) (other : b ≠ a) : (s.setFld a hi lo v).reg b = s.reg b :=
  s.reg_setReg_other _ other

theorem State.reg_setEvt_other (s : State) {a b : Nat} (i : Nat) (other : b ≠ a) : (s.setEvt a i).reg b = s.reg b :=
  s.reg_setReg_other _ other

/-! ### Clocks that do not become good (R521) -/

section
variable {u : State} {c : Nat}

/-- The clock-good is awaited in BOOT as in LOADING. -/
theorem clockGoodTimeout_of_awaited (bad : u.clockGood c = false) (known : c < 29) (awaited : u.run = .loading ∨ u.run = .boot)
    (releasing : u.releasing = true) (free : bitOf (u.reg rRpcHeld) c = false) (late : u.rpc.stepAt + ticksOfMs 2 ≤ u.now) :
    clockGoodTimeout c u = (clockMissed c).effect u := by
  obtain loading | boot := awaited
  · exact clockGoodTimeout_of_loading bad known loading releasing free late
  · have notYet : ¬ 29 ≤ c := by omega
    have notEarly : ¬ u.now < u.rpc.stepAt + ticksOfMs 2 := by omega
    simp only [clockGoodTimeout, bad, notYet, boot, releasing, free, notEarly, decide_true, decide_false, Bool.true_or, Bool.or_true, Bool.not_true,
      Bool.or_self, Bool.false_eq_true, if_false]

theorem clockMissed_reg_held : ((clockMissed c).effect u).reg rRpcHeld = u.reg rRpcHeld ||| w32 (2 ^ c) := by
  dsimp only
  split <;>
    simp only [State.logNow, State.reg_logAt _ _ _ _ (a := rRpcHeld) (by decide) (by decide), State.resetRecord_reg,
      State.reg_setFld_other _ _ _ _ (show rRpcHeld ≠ rRpcLastcause by decide), State.reg_setEvt_other _ _ (show rRpcHeld ≠ rRpcEvt by decide),
      State.orReg, State.reg_setReg_same]

theorem clockMissed_run : ((clockMissed c).effect u).run = u.run := by
  dsimp only
  split <;> simp

theorem clockMissed_pd : ((clockMissed c).effect u).pd = u.pd := by
  dsimp only
  split <;> simp

end

/-! ### READY (Table 18-4, step 8) -/

theorem becomeReady_spi (s : State) : (s.becomeReady.chan 8).enabled = true :=
  congrArg Channel.enabled (s.chan_updChan_same 8 fun c => { c with enabled := true })

/-! ### Domains (R535) -/

/-- The BUSY bit of a domain clears when its change is done. -/
theorem switched_not_busy {d : Nat} (known : d < 16) (s : State) : (switched d s).rpc.busy.testBit d = false := by
  have cleared : (s.rpc.busy &&& (65535 - 2 ^ d)).testBit d = false := by
    rw [Nat.testBit_and, show 65535 - 2 ^ d = 2 ^ 16 - (2 ^ d + 1) by omega, Nat.testBit_two_pow_sub_succ (Nat.pow_lt_pow_right (by decide) known)]
    simp [Nat.testBit_two_pow_self]
  unfold switched
  dsimp only
  split
  · exact cleared
  · exact cleared

/-! ### Supplies (R531, R532) -/

theorem supplyWarns_warned (rail mv : Nat) (u : State) : ((supplyWarns rail mv).effect u).rpc.warned rail = true := by
  simp [Rpc.warned, State.updRpc]

theorem supplyRecovers_not_warned (rail low : Nat) (b : Brownout) (u : State) : ((supplyRecovers rail low b).effect u).rpc.warned rail = false := by
  simp [Rpc.warned, State.updRpc]

theorem find?_warn_of_warned {r : Rpc} {rail : Nat} (warned : r.warned rail = true) :
    ∃ b, (r.warn.find? fun b => decide (b.rail = rail)) = some b :=
  Option.isSome_iff_exists.1 (List.find?_isSome.2 (List.any_eq_true.1 warned))

/-! ### The statement -/

/-- Settles O56, clause by clause: what the effect of each row shows. -/
theorem releaseRowsComplete : Obligations.ReleaseRowsComplete := by
  intro t s u moment
  subst moment
  refine ⟨fun c known bad fresh rests => ?_, fun c known bad fresh free loading => ?_, fun c known bad awaited releasing free late => ?_,
    fun boot releasing => ?_, fun d known busy idle may => ?_, fun rail known mv new => ?_, fun rail low warned => ?_⟩
  · rw [exec_clockGoodAssert, eventRow_eq]
    obtain held | ⟨loaded, booted, noSource, noWaits⟩ := rests
    · rw [clockGoodAssert_of_held bad known fresh held]
    · cases free : bitOf ((s.atTime t).reg rRpcHeld) c with
      | true => rw [clockGoodAssert_of_held bad known fresh free]
      | false =>
        have noLoss : ∀ x ∈ (s.atTime t).rpc.sources, x.cause ≠ 9 := by
          rw [noSource]
          exact List.forall_mem_nil _
        rw [clockGoodAssert_of_none_waiting bad known fresh free loaded booted noLoss noWaits]
  · rw [exec_clockGoodAssert, eventRow_eq, clockGoodAssert_of_loading bad known fresh free loading]
  · refine ⟨(clockMissed c).effect (s.atTime t), ?_, ?_, clockMissed_run, clockMissed_pd⟩
    · rw [exec_clockGoodTimeout, eventRow_eq, clockGoodTimeout_of_awaited bad known awaited releasing free late]
    · rw [clockMissed_reg_held, bitOf_or_two_pow _ (by omega), decide_eq_true rfl, Bool.or_true]
  · exact ⟨_, by rw [exec_readyEntry, eventRow_eq, readyEntry_of_boot boot releasing], rfl, becomeReady_spi _, rfl⟩
  · have change : switching d (s.atTime t) := ⟨busy, known, idle⟩
    rw [exec_domainPowerDone, eventRow_eq]
    cases wanted : bitOf ((s.atTime t).reg rRpcPdreq) d with
    | false => exact ⟨_, by rw [domainPowerDone_off change wanted], switched_not_busy known _⟩
    | true =>
      obtain ⟨clocked, free⟩ := may.resolve_left (by simp [wanted])
      exact ⟨_, by rw [domainPowerDone_on change wanted clocked free], switched_not_busy known _⟩
  · exact ⟨_, by rw [exec_supplyWarning, eventRow_eq, supplyWarning_of_new new known], supplyWarns_warned rail mv _⟩
  · obtain ⟨b, first⟩ := find?_warn_of_warned warned
    exact ⟨_, by rw [exec_supplyRecovery, eventRow_eq, supplyRecovery_of_warned first], supplyRecovers_not_warned rail low b _⟩

end Sys2Proof.Machine
end
